-- ==== Sys2Proof/Word.lean ====
section
/-! DEFINITION. The plain words of the Luapezen: bytes, the numbered objects of Table SC-3 and the time formats of R6.
Only types and constants stand here; every conversion is in Machine/Ops.lean. -/
namespace Sys2Proof

/-- One byte. -/
abbrev Byte := BitVec 8

/-- A run of bytes, in the order in which the spec writes or sends them. -/
abbrev Bytes := List Byte

/-- Tenant T0-T7 (Table SC-3). -/
abbrev Tenant := Fin 8
/-- Physical channel CH00-CH51 (Table SC-3). -/
abbrev Chan := Fin 52
/-- Logical pin LP00-LP47 (Table SC-3). -/
abbrev Pin := Fin 48
/-- Pin group G0-G11 (Table SC-3). -/
abbrev Group := Fin 12
/-- Sequencer engine 0-8; engine 8 is the housekeeping engine (R18). -/
abbrev Engine := Fin 9
/-- Fault source FS-000 to FS-127 (Table SC-3). -/
abbrev Source := Fin 128
/-- A fault scope: tenant 0-7, or 8 for the device (R562). -/
abbrev Scope := Fin 9

/-- TIME96 (R6): seconds (48 bits), nanoseconds (32 bits) and units of 2^-16 ns (16 bits). -/
structure Time96 where
  sec : Nat := 0
  ns  : Nat := 0
  sub : Nat := 0
  deriving DecidableEq, Repr

/-- Fine steps in a tick (R5). -/
abbrev finePerTick : Nat := 8192
/-- Fine steps in a slot (R5). -/
abbrev finePerSlot : Nat := 128
/-- Slots in a tick (R5). -/
abbrev slotsPerTick : Nat := 64
/-- Ticks in a frame (R5). -/
abbrev ticksPerFrame : Nat := 1024
/-- Ticks in a second (R5). -/
abbrev ticksPerSecond : Nat := 1750000000
/-- Fine steps in a second (R5). -/
abbrev finePerSecond : Nat := 14336000000000
/-- Fine steps in a nanosecond: 14,336,000,000,000 / 10^9 (R5). -/
abbrev finePerNs : Nat := 14336
/-- Ticks in an always-on microsecond (R5). -/
abbrev ticksPerUs : Nat := 1750

end Sys2Proof
end

