-- ==== Sys2Proof/Syntax.lean ====
section
/-! DEFINITION. The commands of the block: one constructor per row of spec/opcode_table.json, with the operands that
the row's rule gives it, and the types of those operands. No row has bits (its `fields` are empty). -/
namespace Sys2Proof

/-- A requester of the dictionary and of Tahr (R339): a tenant, or the management plane. -/
inductive Req where
  | tenant (t : Tenant)
  | mgmt
  deriving DecidableEq, Repr

/-- An ODP frame as it reaches a port (Table NP-4). The opcode byte is the command's own row. `src` stands for the
source MAC and IP addresses and the UDP port, to which the reply goes (R381). -/
structure Frame where
  port : Fin 2
  src : Nat := 0
  unicast : Bool := true
  /-- The datagram is whole: neither a fragment nor with a failing checksum (R366), of a supported size and tag (R362). -/
  intact : Bool := true
  version : Nat := 1
  flags : Nat := 0
  tenant : Nat := 0
  credential : Nat := 0
  session : Nat := 0
  itemCount : Nat := 0
  sequence : Nat := 0
  status : Nat := 0
  detail : Nat := 0
  reserved : Nat := 0
  area : Bytes := []
  tag : Bytes := []
  deriving DecidableEq, Repr

/-- A vendor-defined management message (Table TM-5): the MCTP message tag, the enterprise number, bytes 8-11, the count
of bytes 6-7 and the bytes from 12 onward. -/
structure Vdm where
  tag : Nat
  iana : Nat
  reserved : Nat := 0
  count : Nat := 0
  area : Bytes := []
  deriving DecidableEq, Repr

/-- The way a dictionary request comes in: an ODP frame, or a DICT message of the management plane (R342, R449). -/
inductive Via where
  | odp (f : Frame)
  | smbus (m : Vdm)
  deriving DecidableEq, Repr

/-- A PTP message as the port receives it (R45). -/
inductive PtpMsg where
  /-- A message using a feature that Table TB-4 lists as not supported. -/
  | unsupported
  /-- An Announce, with the port state the best master clock algorithm takes from it. -/
  | announce (grandmaster stepsRemoved : Nat) (utcOffset : Int) (utcOffsetValid : Bool) (portState : Nat)
  /-- A Sync interval complete: the offset filter's output and the mean path delay, in fine steps, as the timestamps taken at
  the port give them, before latencies and asymmetry are corrected. -/
  | sync (offset meanPathDelay : Int)
  deriving DecidableEq, Repr

/-- A PTP message that the port sends (R45, Table TB-4: transmit two-step). -/
inductive PtpTx where
  | delayReq | sync | followUp | announce
  deriving DecidableEq, Repr

/-- The completion of a download read (R407). -/
inductive CplStatus where
  | success | unsupported | abort | poisoned
  deriving DecidableEq, Repr

/-- A PCI Express configuration request (R393). Writes name the fields that this manual gives a meaning. -/
inductive CfgReq where
  | read (offset : Nat)
  | command (memSpace busMaster : Bool)
  | maxPayload (bytes : Nat)
  | msix (enable functionMask : Bool)
  | power (d3hot : Bool)
  | aspm (l1 : Bool)
  | other (offset v : Nat)
  deriving DecidableEq, Repr

/-- The resource that a signal-level condition concerns (R562). -/
inductive Resource where
  | device
  | channel (ch : Chan)
  | lanePll (pll : Fin 13)
  | tenant (t : Tenant)
  deriving DecidableEq, Repr

/-- What Serow reads in the SFDP tables of the flash (R545): the signature, the major revision of the Basic Flash Parameter
Table, whether it declares 1-1-4 fast read, a 4 KiB erase and 3-byte addressing, and the density in bits. -/
structure Sfdp where
  signature : Nat := 0x50444653
  major : Nat := 1
  fastRead114 : Bool := true
  erase4k : Bool := true
  addr3 : Bool := true
  density : Nat := 2 ^ 20
  deriving DecidableEq, Repr

/-- What bring-up meets (R531, Table RB-6): the microseconds of each phase that
completes, from the present one on, whether the fuses read, whether the core
PLL locks or holds, whether every bank and store word passes its self-test, the SFDP tables of the flash (R545), how many
rollback fuse bits blow (R555), the archive copies (type, key, copy B), journal entries (their places, newest first) and
lifetime counter blocks that are damaged, each with the bits in which its stored check word now differs (R326, R328, R330),
and the reading of the reference sensor in 0.001 degrees C with the
difference of its elements. -/
structure BringupEnv where
  us : List Nat := []
  fusesOk : Bool := true
  pllOk : Bool := true
  bistOk : Bool := true
  sfdp : Sfdp := {}
  fusesBlow : Nat := 64
  nvBad : List (Nat × Nat × Bool × Nat) := []
  journalBad : List (Nat × Nat) := []
  lifeBad : List (Fin 4 × Nat) := []
  sensorMilliC : Int := 0
  sensorDiff : Nat := 0
  isoWaitOk : Bool := true
  deriving DecidableEq, Repr

/-- What one fetch of an engine meets from outside: the check of the control-store read (0 right, 1 corrected, 2
uncorrectable, Table MS-6), and the two housekeeping conditions of the analogue measurement (Table MS-4, codes 19 and 20). -/
structure MicroFetch where
  ecc : Nat := 0
  busReady : Bool := false
  agree : Bool := false
  deriving DecidableEq, Repr

/-- A measurement attempt of a calibration item (R296): the item as the bit number of Table CA-2 (7: the bus delay of
RT1), its part (DRV_TAPS and DRV_SKEW: 0 rising, 1 falling; CMP_OFFSET and DAC_GAIN: 0 HIGH, 1 LOW; RX_SKEW of Reference
Transfer: 0 the skew, 1 to 4 the offsets in the order of Table CA-1; else 0), the channel, one mean per element in fs
(timing) or uV, none where no edge arrived, the samples' standard deviation, the redundant elements that
the measurement found (CMP_OFFSET: pairs and legs as bytes 424-435 of Table CA-1; SWING: LEG_EXCLUDE and LEG_GAIN as
bytes 264-283), and whether class calibration was short (R299). -/
structure Measured where
  item : Fin 8
  part : Fin 5 := 0
  ch : Chan
  values : List Int
  sigma : Nat := 0
  sel : Bytes := []
  short : Bool := false
  deriving DecidableEq, Repr

/-- The commands, in the order of spec/opcode_table.json. -/
inductive Instr where
  /-- FRAME_EDGE (R24): the time runs to the next frame edge, whose actions R24 orders. -/
  | frameEdge
  /-- AT_IDLE_TIMEOUT (R352): the requester whose COMMIT AT_IDLE runs out. -/
  | atIdleTimeout (r : Req)
  /-- REFIN_COUNT (R28): the edges counted in 1 ms and the lock of the reference PLL. -/
  | refinCount (edges : Nat) (pllLock : Bool)
  /-- REFIN_LOSS (R32). -/
  | refinLoss
  /-- CORE_PLL_UNLOCK (R33). -/
  | corePllUnlock
  /-- ESMC_MESSAGE (R46): the port and the Quality Level received. -/
  | esmcMessage (port : Fin 2) (ql : Nat)
  /-- SYNCE_QUALIFY (R46). -/
  | synceQualify
  /-- SYNCE_LOSS (R50). -/
  | synceLoss
  /-- PPS_PULSE (R29): the fine offset of the rising edge in the present tick and the width of the pulse. -/
  | ppsPulse (fine : Fin 8192) (widthNs : Nat)
  /-- PPS_LOSS (R50). -/
  | ppsLoss
  /-- PTP_MESSAGE (R45): the port, the transport (0 UDP/IPv4, 1 UDP/IPv6, 2 Ethernet), the PTP domain and the message. -/
  | ptpMessage (port : Fin 2) (transport : Fin 3) (domain : Nat) (m : PtpMsg)
  /-- PTP_LOSS (R50). -/
  | ptpLoss
  /-- HOLDOVER_EXPIRED (R50). -/
  | holdoverExpired
  /-- UNCERTAINTY_RECOMPUTE (R54). -/
  | uncertaintyRecompute
  /-- TOD_SET (R37): the writer and the value written. -/
  | todSet (r : Req) (v : Bytes)
  /-- HANDOVER_SEED (R41). -/
  | handoverSeed
  /-- HANDOVER_CORRECTION (R42): the residuals of the two REFIN edges, in fine steps. -/
  | handoverCorrection (first second : Int)
  /-- ALARM_FIRED (R56): the alarm: its owner (8 the housekeeping engine) and 0 A or 1 B. -/
  | alarmFired (owner : Fin 9) (which : Fin 2)
  /-- ALARM_WAKE (R59): as for ALARM_FIRED. -/
  | alarmWake (owner : Fin 9) (which : Fin 2)
  /-- COMPARATOR_CROSSING (R74, R78): the channel, the slot of the present tick, the comparator (HIGH or LOW), the differential input of the receive lane within the slot, as fine offsets in order with the voltage in uV from each on, and whether the fine code lies in the calibrated range. -/
  | comparatorCrossing (ch : Chan) (slot : Fin 64) (high : Bool) (inputs : List (Fin 128 × Int)) (fineCodeOk : Bool)
  /-- DRV_OVERLOAD (R69): the channel, and the consecutive ticks, the present one included, for which a current limit has been engaged. -/
  | drvOverload (ch : Chan) (ticks : Nat)
  /-- SWING_MONITOR (R70): the channel and the realised swing in mV. -/
  | swingMonitor (ch : Chan) (realised : Nat)
  /-- RX_OVERVOLTAGE (R72). -/
  | rxOvervoltage (ch : Chan)
  /-- VREF_RANGE (R75). -/
  | vrefRange
  /-- RX_INCONSISTENT (R77): the channel whose samples up to the present tick are counted. -/
  | rxInconsistent (ch : Chan)
  /-- LANE_PLL_UNLOCK (R89). -/
  | lanePllUnlock (pll : Fin 13)
  /-- CH_RETIRE (R90): the writer, the channel and the value written. -/
  | chRetire (r : Req) (ch : Chan) (v : Bytes)
  /-- CH_READMIT (R94): the writer, the channel and the value written. -/
  | chReadmit (r : Req) (ch : Chan) (v : Bytes)
  /-- RECAL_ACCEPTED (R95): the channel and the accepted correction block. -/
  | recalAccepted (ch : Chan) (block : Bytes)
  /-- READMIT_TIMEOUT (R96). -/
  | readmitTimeout (ch : Chan)
  /-- VECTOR_START (R106). -/
  | vectorStart (t : Tenant)
  /-- COMPARE_RESULT (R205): the tenant whose oldest pending vector or RAW segment has its compares final. -/
  | compareResult (t : Tenant)
  /-- COUNTER_FLUSH (R208): the tenant and how many cell writes are made. -/
  | counterFlush (t : Tenant) (writes : Nat)
  /-- FAIL_COUNT_READ (R209): the reader, the tenant and pin of the entry. -/
  | failCountRead (r : Req) (t : Tenant) (pin : Pin)
  /-- NEXT (R146): the sequencer and the fields MOD, A and B of the word it fetched. -/
  | next (t : Tenant) (mod a b : Nat)
  /-- NEXT_RAW (R141): as for NEXT. -/
  | nextRaw (t : Tenant) (mod a b : Nat)
  /-- REPEAT (R146): as for NEXT. -/
  | repeatRec (t : Tenant) (mod a b : Nat)
  /-- LOOP (R147): as for NEXT. -/
  | loop (t : Tenant) (mod a b : Nat)
  /-- ENDLOOP (R147): as for NEXT. -/
  | endloop (t : Tenant) (mod a b : Nat)
  /-- JUMP (R161): as for NEXT. -/
  | jump (t : Tenant) (mod a b : Nat)
  /-- CALL (R147): as for NEXT. -/
  | call (t : Tenant) (mod a b : Nat)
  /-- RET (R147): as for NEXT. -/
  | ret (t : Tenant) (mod a b : Nat)
  /-- MATCH_LOOP (R156): as for NEXT. -/
  | matchLoop (t : Tenant) (mod a b : Nat)
  /-- MATCH_PASS_END (R156). -/
  | matchPassEnd (t : Tenant)
  /-- WAIT (R157): as for NEXT. -/
  | wait (t : Tenant) (mod a b : Nat)
  /-- WAIT_MET (R157). -/
  | waitMet (t : Tenant)
  /-- WAIT_TIMEOUT (R157). -/
  | waitTimeout (t : Tenant)
  /-- SIGNAL_SET (R161): as for NEXT. -/
  | signalSet (t : Tenant) (mod a b : Nat)
  /-- SIGNAL_CLEAR (R161): as for NEXT. -/
  | signalClear (t : Tenant) (mod a b : Nat)
  /-- SIGNAL_TOGGLE (R161): as for NEXT. -/
  | signalToggle (t : Tenant) (mod a b : Nat)
  /-- SETTSET (R126): as for NEXT. -/
  | settset (t : Tenant) (mod a b : Nat)
  /-- MARK (R149): as for NEXT. -/
  | mark (t : Tenant) (mod a b : Nat)
  /-- TRIGOUT_PULSE (R150): as for NEXT. -/
  | trigoutPulse (t : Tenant) (mod a b : Nat)
  /-- TRIGOUT_HIGH (R150): as for NEXT. -/
  | trigoutHigh (t : Tenant) (mod a b : Nat)
  /-- TRIGOUT_LOW (R150): as for NEXT. -/
  | trigoutLow (t : Tenant) (mod a b : Nat)
  /-- TRIGOUT_PULSE_END (R261): the line, and whether the pulse is the trigger engine's. -/
  | trigoutPulseEnd (line : Fin 4) (acq : Bool)
  /-- QUIET_ON (R129): as for NEXT. -/
  | quietOn (t : Tenant) (mod a b : Nat)
  /-- QUIET_OFF (R129): as for NEXT. -/
  | quietOff (t : Tenant) (mod a b : Nat)
  /-- STREAM (R142): as for NEXT. -/
  | stream (t : Tenant) (mod a b : Nat)
  /-- STREAM_GAP (R143): the sequencer, and the vectors, or with raw the ticks, of the item that the ring does not hold. -/
  | streamGap (t : Tenant) (mod n : Nat)
  /-- CNT_LDI (R154): as for NEXT. -/
  | cntLdi (t : Tenant) (mod a b : Nat)
  /-- CNT_ADDI (R154): as for NEXT. -/
  | cntAddi (t : Tenant) (mod a b : Nat)
  /-- CNT_SUBI (R154): as for NEXT. -/
  | cntSubi (t : Tenant) (mod a b : Nat)
  /-- CNT_MOV (R154): as for NEXT. -/
  | cntMov (t : Tenant) (mod a b : Nat)
  /-- CNT_LDEV (R154): as for NEXT. -/
  | cntLdev (t : Tenant) (mod a b : Nat)
  /-- CNT_CLR (R154): as for NEXT. -/
  | cntClr (t : Tenant) (mod a b : Nat)
  /-- LD (R165): as for NEXT. -/
  | ld (t : Tenant) (mod a b : Nat)
  /-- ST (R164): as for NEXT. -/
  | st (t : Tenant) (mod a b : Nat)
  /-- STORE_BUFFER_DRAIN (R164). -/
  | storeBufferDrain (t : Tenant)
  /-- SYNC (R151): as for NEXT. -/
  | sync (t : Tenant) (mod a b : Nat)
  /-- SYNC_COMPLETE (R151). -/
  | syncComplete (t : Tenant)
  /-- HALT (R152): as for NEXT. -/
  | halt (t : Tenant) (mod a b : Nat)
  /-- HALT_COMPLETE (R152). -/
  | haltComplete (t : Tenant)
  /-- EVENT_INPUT (R163): the tenant, the source of Table PS-9 and the fine offset in the present tick. -/
  | eventInput (t : Tenant) (source : Nat) (fine : Fin 8192)
  /-- SEQ_DEADLOCK (R168). -/
  | seqDeadlock (t : Tenant)
  /-- TF_SET (R161): the writer, the tenant of the index and the value written. -/
  | tfSet (r : Req) (t : Tenant) (v : Bytes)
  /-- TF_CLEAR (R161): the writer, the tenant of the index and the value written. -/
  | tfClear (r : Req) (t : Tenant) (v : Bytes)
  /-- GF_SET (R173): the writer, the tenant of the index and the value written. -/
  | gfSet (r : Req) (t : Tenant) (v : Bytes)
  /-- GF_CLEAR (R173): the writer, the tenant of the index and the value written. -/
  | gfClear (r : Req) (t : Tenant) (v : Bytes)
  /-- EI_INJECT (R170): the writer, the tenant of the index, the event input and the value written. -/
  | eiInject (r : Req) (t : Tenant) (input : Fin 8) (v : Bytes)
  /-- MICRO_SEQ (R179): the engine and its fetch. -/
  | microSeq (e : Engine) (f : MicroFetch)
  /-- MICRO_SAFE (R179): the engine and its fetch. -/
  | microSafe (e : Engine) (f : MicroFetch)
  /-- MICRO_BR (R179): the engine and its fetch. -/
  | microBr (e : Engine) (f : MicroFetch)
  /-- MICRO_JMP (R179): the engine and its fetch. -/
  | microJmp (e : Engine) (f : MicroFetch)
  /-- MICRO_CALL (R182): the engine and its fetch. -/
  | microCall (e : Engine) (f : MicroFetch)
  /-- MICRO_RET (R182): the engine and its fetch. -/
  | microRet (e : Engine) (f : MicroFetch)
  /-- MICRO_DISPATCH (R180): the engine and its fetch. -/
  | microDispatch (e : Engine) (f : MicroFetch)
  /-- SYS_STALL (R181): the engine and its fetch. -/
  | sysStall (e : Engine) (f : MicroFetch)
  /-- SYS_RESUME (R188): the engine and its fetch. -/
  | sysResume (e : Engine) (f : MicroFetch)
  /-- SELF_RESET (R181): the engine and its fetch. -/
  | selfReset (e : Engine) (f : MicroFetch)
  /-- ENGINE_RESET (R199): the writer, the engine and the value written. -/
  | engineReset (r : Req) (e : Engine) (v : Bytes)
  /-- TRIG_IN_EDGE (R239): the line, the direction and the fine offset of the edge at the ball in the present tick. -/
  | trigInEdge (line : Fin 4) (rising : Bool) (fine : Fin 8192)
  /-- TRIGGER_EVENT (R242): the context, the stage whose source has the event, and its fine offset; for a pattern source the slot of the present tick. -/
  | triggerEvent (t : Tenant) (stageB : Bool) (fine : Fin 8192) (slot : Fin 64)
  /-- PRETRIGGER_FULL (R243). -/
  | pretriggerFull (t : Tenant)
  /-- TRIG_WINDOW_CLOSE (R241). -/
  | trigWindowClose (t : Tenant)
  /-- ACQ_FORCE (R240): the writer, the tenant of the index and the value written. -/
  | acqForce (r : Req) (t : Tenant) (v : Bytes)
  /-- SEGMENT_COMPLETE (R233): the context whose segment's last post-trigger sample period ends. -/
  | segmentComplete (t : Tenant)
  /-- SCRUB_ROW (R272): the bank, and the word lanes of its next row that hold a single-bit and an uncorrectable error. -/
  | scrubRow (bank : Fin 64) (corrected uncorrectable : List (Fin 8))
  /-- ECC_WRITEBACK (R270). -/
  | eccWriteback (bank : Fin 64)
  /-- SCRUB_LATE (R272). -/
  | scrubLate (bank : Fin 64)
  /-- QUIET_OVERRUN (R283). -/
  | quietOverrun (t : Tenant)
  /-- BUDGET_BREACH (R287): the class, the bank, the bank-cycles short, and the records, blocks, rows or vectors that were lost. -/
  | budgetBreach (cls : Fin 11) (bank : Fin 64) (shortfall lost : Nat)
  /-- CAL_REQ_SELF_CAL (R304): the writer and the record written. -/
  | calReqSelfCal (r : Req) (v : Bytes)
  /-- CAL_REQ_REF_TRANSFER (R306): the writer and the record written. -/
  | calReqRefTransfer (r : Req) (v : Bytes)
  /-- CAL_REQ_ABORT (R301): the writer and the record written. -/
  | calReqAbort (r : Req) (v : Bytes)
  /-- CAL_ATTEMPT (R297): the attempt. -/
  | calAttempt (m : Measured)
  /-- REFEDGE_FAIL (R306). -/
  | refedgeFail
  /-- SENSOR_READ (R314): the mean of the two elements and their difference, in 0.001 K. -/
  | sensorRead (milliC : Int) (diff : Nat)
  /-- REAPPLY_COMPUTED (R314). -/
  | reapplyComputed
  /-- CAL_REAPPLY_LATE (R315). -/
  | calReapplyLate
  /-- CAL_DUE (R323). -/
  | calDue
  /-- SAVE_SETS (R329): the writer and the record written. -/
  | saveSets (r : Req) (v : Bytes)
  /-- RESTORE_LAB (R329): the writer and the record written. -/
  | restoreLab (r : Req) (v : Bytes)
  /-- RESTORE_FACTORY (R329): the writer and the record written. -/
  | restoreFactory (r : Req) (v : Bytes)
  /-- WRITE_TRACE (R329): the writer and the record written. -/
  | writeTrace (r : Req) (v : Bytes)
  /-- NV_WRITE_PULSE (R327): whether the copy reads back right, and right once rewritten. -/
  | nvWritePulse (first second : Bool)
  /-- LIFETIME_HOUR (R330): powered hours (0) or heater hours (1). -/
  | lifetimeHour (counter : Fin 2)
  /-- READ (R382): the request. -/
  | read (via : Via)
  /-- WRITE (R382): the request. -/
  | write (via : Via)
  /-- READ_BLOCK (R357): the request. -/
  | readBlock (via : Via)
  /-- WRITE_BLOCK (R358): the request. -/
  | writeBlock (via : Via)
  /-- SNAPSHOT (R356): the request. -/
  | snapshot (via : Via)
  /-- COMMIT_NEXT (R348): the request, whose block has KIND NEXT. -/
  | commitNext (via : Via)
  /-- COMMIT_AT_IDLE (R351): the request, whose block has KIND AT_IDLE. -/
  | commitAtIdle (via : Via)
  /-- LOCK (R441): the request. -/
  | lock (via : Via)
  /-- UNLOCK (R442): the request. -/
  | unlock (via : Via)
  /-- TENANT_RESET (R388): the frame. -/
  | tenantReset (f : Frame)
  /-- DEVICE_RESET (R389): the frame. -/
  | deviceReset (f : Frame)
  /-- PING (R373): the frame. -/
  | ping (f : Frame)
  /-- HELD_FRAME (R384): the oldest held frame. -/
  | heldFrame
  /-- ODP_KEY (R375): the tenant whose key management writes, and the block written. -/
  | odpKey (t : Tenant) (offset total : Nat) (data : Bytes)
  /-- LINK_UP (R363): the port and the rate reached (1 25GBASE-R, 2 10GBASE-R). -/
  | linkUp (port : Fin 2) (rate : Nat)
  /-- LINK_DOWN (R363). -/
  | linkDown (port : Fin 2)
  /-- RATE_TRY_TIMEOUT (R363). -/
  | rateTryTimeout (port : Fin 2)
  /-- ARP_REQUEST (R366): the port, the IPv4 addresses asked for and sent from, and whether the frame is an ARP reply. -/
  | arpRequest (port : Fin 2) (target sender : Nat) (isReply : Bool)
  /-- NEIGHBOR_DISCOVERY (R366): the port and the IPv6 address solicited. -/
  | neighborDiscovery (port : Fin 2) (target : Nat)
  /-- ECHO_REQUEST (R366): the port, ICMPv6 or ICMP, the destination address and the data to echo. -/
  | echoRequest (port : Fin 2) (v6 : Bool) (dest : Nat) (data : Bytes)
  /-- DAD_COMPLETE (R366): the port and whether a duplicate was found. -/
  | dadComplete (port : Fin 2) (duplicate : Bool)
  /-- BAR2_WRITE (R402): the function, the offset in BAR2 and the bytes. -/
  | bar2Write (t : Tenant) (offset : Nat) (data : Bytes) (isRead : Bool)
  /-- STAGING_WRITE (R402). -/
  | stagingWrite (t : Tenant)
  /-- RING_PROD (R401): the function and the value written. -/
  | ringProd (t : Tenant) (v : Nat)
  /-- EVENT_DOORBELL (R396). -/
  | eventDoorbell (t : Tenant)
  /-- EVQ_HEAD (R419): the function, the queue and the value written. -/
  | evqHead (t : Tenant) (n : Fin 4) (v : Nat)
  /-- DMA_PROD (R405): the function and the value written. -/
  | dmaProd (t : Tenant) (v : Nat)
  /-- TIME_SNAP (R397). -/
  | timeSnap (t : Tenant)
  /-- BAR0_WRITE (R395): the function, the offset, the access size in bytes, the data, and whether the refused access is a read. -/
  | bar0Write (t : Tenant) (offset size v : Nat) (isRead : Bool)
  /-- DMA_DESCRIPTOR (R405). -/
  | dmaDescriptor (t : Tenant)
  /-- DOWNLOAD_COMPLETION (R407): the function, the completion status and its data. -/
  | downloadCompletion (t : Tenant) (status : CplStatus) (data : Bytes)
  /-- COMPLETION_TIMEOUT (R407). -/
  | completionTimeout (t : Tenant)
  /-- DMA_DONE (R408). -/
  | dmaDone (t : Tenant)
  /-- EVENT_WRITE (R418). -/
  | eventWrite (t : Tenant)
  /-- MSIX_UNMASK (R398): the function and the vector unmasked, or none for Function Mask. -/
  | msixUnmask (t : Tenant) (vector : Option (Fin 64))
  /-- BUS_MASTER_ENABLE (R409): the function and the value of the bit. -/
  | busMasterEnable (t : Tenant) (on : Bool)
  /-- CONFIG_REQUEST (R393): the function and the request. -/
  | configRequest (t : Tenant) (q : CfgReq)
  /-- FLR (R426). -/
  | flr (t : Tenant)
  /-- HOT_RESET (R426). -/
  | hotReset
  /-- L1_EXIT (R423). -/
  | l1Exit
  /-- LEASE_WARNING (R443). -/
  | leaseWarning (lock : Fin 34)
  /-- LEASE_EXPIRY (R443). -/
  | leaseExpiry (lock : Fin 34)
  /-- GET_EVENTS (R450): the message, with ACK_SEQ as its count, and ACK_VALID. -/
  | getEvents (m : Vdm) (ackValid : Bool)
  /-- MCTP_RESET_DEVICE (R451): the message. -/
  | mctpResetDevice (m : Vdm)
  /-- MCTP_RESET_TENANT (R451): the message, with the tenant as its count. -/
  | mctpResetTenant (m : Vdm)
  /-- MCTP_RESET_BLOCK (R538): the message, with the block code as its count. -/
  | mctpResetBlock (m : Vdm)
  /-- MCTP_RESET_ENDPOINT (R451): the message. -/
  | mctpResetEndpoint (m : Vdm)
  /-- SET_ENDPOINT_ID (R447): the message tag, the operation and the identifier. -/
  | setEndpointId (tag op eid : Nat)
  /-- GET_ENDPOINT_ID (R447): the message tag. -/
  | getEndpointId (tag : Nat)
  /-- GET_MCTP_VERSION_SUPPORT (R447): the message tag and the message type asked for. -/
  | getMctpVersionSupport (tag msgType : Nat)
  /-- GET_MESSAGE_TYPE_SUPPORT (R447): the message tag. -/
  | getMessageTypeSupport (tag : Nat)
  /-- GET_VENDOR_DEFINED_MESSAGE_SUPPORT (R447): the message tag and the vendor ID set selector. -/
  | getVendorDefinedMessageSupport (tag selector : Nat)
  /-- GET_TID (R447): the message tag. -/
  | getTid (tag : Nat)
  /-- GET_PLDM_VERSION (R447): the message tag and the PLDM type asked for. -/
  | getPldmVersion (tag pldmType : Nat)
  /-- GET_PLDM_TYPES (R447): the message tag. -/
  | getPldmTypes (tag : Nat)
  /-- GET_PLDM_COMMANDS (R447): the message tag and the PLDM type asked for. -/
  | getPldmCommands (tag pldmType : Nat)
  /-- GET_SENSOR_READING (R452): the message tag and the sensor ID. -/
  | getSensorReading (tag sensor : Nat)
  /-- GET_STATE_SENSOR_READINGS (R452): the message tag and the sensor ID. -/
  | getStateSensorReadings (tag sensor : Nat)
  /-- GET_PDR (R447): the message tag and the record handle. -/
  | getPdr (tag handle : Nat)
  /-- SERVICE_REQ_ENTER (R477): the writer and the value written. -/
  | serviceReqEnter (r : Req) (v : Bytes)
  /-- SERVICE_REQ_LEAVE (R479): the writer and the value written. -/
  | serviceReqLeave (r : Req) (v : Bytes)
  /-- DC_CONVERSION_START (R472). -/
  | dcConversionStart
  /-- DC_CONVERSION_DONE (R471): the voltage measured at the source. -/
  | dcConversionDone (nanovolts : Int)
  /-- STAIR_REQ (R491): the writer and the value written. -/
  | stairReq (r : Req) (v : Bytes)
  /-- STAIR_WAKE (R498): the WAKE_ENABLE bit of the source. -/
  | stairWake (cause : Fin 7)
  /-- STAIR_EXIT_COMPLETE (R501). -/
  | stairExitComplete
  /-- STAIR_EXIT_LATE (R501). -/
  | stairExitLate
  /-- DWELL_END (R502). -/
  | dwellEnd
  /-- HEATER_UPDATE (R504): the reference sensor and its difference, the hottest monitoring sensor (0.001 degrees C), VHTR in mV and the measured heater power (F64). -/
  | heaterUpdate (milliC : Int) (diff : Nat) (hottest : Int) (vhtrMv : Nat) (power : BitVec 64)
  /-- WARMING_DONE (R505). -/
  | warmingDone
  /-- HEATER_LIMIT (R505). -/
  | heaterLimit
  /-- HEATER_CLEAR (R505). -/
  | heaterClear
  /-- POWER_ON (R513). -/
  | powerOn
  /-- RESET_N (R515). -/
  | resetN
  /-- PWRGD_LOW (R514). -/
  | pwrgdLow
  /-- NV_PULSE_END (R523). -/
  | nvPulseEnd
  /-- WATCHDOG_EXPIRED (R516). -/
  | watchdogExpired
  /-- WATCHDOG_KICK (R516): the writer and the value written. -/
  | watchdogKick (r : Req) (v : Bytes)
  /-- WATCHDOG_TIMEOUT (R516): the writer and the value written. -/
  | watchdogTimeout (r : Req) (v : Bytes)
  /-- BLOCK_RESET (R538): the writer, the block code and the value written. -/
  | blockReset (r : Req) (code : Nat) (v : Bytes)
  /-- BRINGUP (R531): what the outside world and the dice of the physical world bring to the phases B0 to B7. -/
  | bringup (env : BringupEnv)
  /-- FLASH_UPDATE (R557): the writer and the block. -/
  | flashUpdate (r : Req) (offset total : Nat) (data : Bytes)
  /-- FLASH_WRITE_TIMEOUT (R558). -/
  | flashWriteTimeout
  /-- FAULT_CONDITION (R570): the source and the resource concerned. -/
  | faultCondition (src : Source) (res : Resource)
  /-- BROKEN_PAIR (R563). -/
  | brokenPair (src : Source)
  /-- PAIR_RESTORED (R563). -/
  | pairRestored (src : Source)
  /-- FAULT_FORCE (R575): the writer, the sub-index and the value written. -/
  | faultForce (r : Req) (k : Fin 4) (v : Bytes)
  /-- FC_CLEAR (R577): the writer and the FS number. -/
  | fcClear (r : Req) (v : Byte)
  /-- FC_CLEAR_ALL (R577): the writer. -/
  | fcClearAll (r : Req)
  /-- ALIVE_TOGGLE (R579). -/
  | aliveToggle
  /-- JTAG_ACTIVE (R582). -/
  | jtagActive
  /-- EXTEST (R622): the word shifted in and the levels at the balls that the input cells capture. -/
  | extest (shift capture : BitVec 271)
  /-- IDCODE (R620). -/
  | idcode
  /-- SAMPLE_PRELOAD (R622): the word shifted in and the levels at the balls that the input cells capture. -/
  | samplePreload (shift capture : BitVec 271)
  /-- CLAMP (R619). -/
  | clamp
  /-- HIGHZ (R619). -/
  | highz
  /-- EXTEST_PULSE (R622): the word shifted in and the levels at the balls that the input cells capture. -/
  | extestPulse (shift capture : BitVec 271)
  /-- EXTEST_TRAIN (R622): the word shifted in and the levels at the balls that the input cells capture. -/
  | extestTrain (shift capture : BitVec 271)
  /-- BYPASS (R619): the opcode that reaches the instruction register. -/
  | bypass (opcode : Fin 64)
  /-- ILLEGAL_OPCODE (R144): the sequencer and the opcode byte. -/
  | illegalOpcode (t : Tenant) (opcode : Nat)
  /-- UNKNOWN_OPCODE (R379): the opcode byte and the frame. -/
  | unknownOpcode (opcode : Nat) (f : Frame)
  /-- MCTP_UNSUPPORTED_COMMAND (R447): the message tag, the message type (0x00 control, 0x01 PLDM, 0x7F vendor defined) and the command, or 0x100 + the ODP opcode of a DICT message. -/
  | mctpUnsupportedCommand (tag msgType command : Nat)
  /-- SMBUS_PEC_FAIL (R447). -/
  | smbusPecFail
  /-- PTP_MESSAGE_TRANSMIT (R45): the message sent. -/
  | ptpMessageTransmit (kind : PtpTx)
  /-- PCIE_LINK_REACHES_L0 (R425): the rate code and the width of the link. -/
  | pcieLinkReachesL0 (rate width : Nat)
  /-- WAKE_N_TIMEOUT (R425). -/
  | wakeNTimeout
  /-- TEST_LOGIC_RESET (R622). -/
  | testLogicReset
  /-- FAULT_CONDITION_FALLS (R576): the source and the resource concerned. -/
  | faultConditionFalls (src : Source) (res : Resource)
  deriving DecidableEq, Repr

end Sys2Proof
end

