-- ==== Sys2Proof/Machine/F64.lean ====
section
/-! DEFINITION. IEEE 754 binary64 values (Table OD-1, R336) as bit patterns, their exact rational values, rounding to
nearest with ties to even (notes/assumptions/9), and square roots of rationals. -/
namespace Sys2Proof.Machine

/-- A rational number `num / den`, not necessarily in lowest terms; `den` is positive. -/
structure Q where
  num : Int
  den : Nat
  deriving DecidableEq, Repr

/-- The sum. -/
def Q.add (a b : Q) : Q := ⟨a.num * b.den + b.num * a.den, a.den * b.den⟩
/-- The difference. -/
def Q.sub (a b : Q) : Q := ⟨a.num * b.den - b.num * a.den, a.den * b.den⟩
/-- The product. -/
def Q.mul (a b : Q) : Q := ⟨a.num * b.num, a.den * b.den⟩
/-- `a < b`. -/
def Q.lt (a b : Q) : Bool := decide (a.num * b.den < b.num * a.den)
/-- `a ≤ b`. -/
def Q.le (a b : Q) : Bool := decide (a.num * b.den ≤ b.num * a.den)
/-- The magnitude. -/
def Q.abs (a : Q) : Q := ⟨a.num.natAbs, a.den⟩
/-- An integer. -/
def Q.ofInt (z : Int) : Q := ⟨z, 1⟩
/-- The quotient; a zero divisor gives zero. -/
def Q.div (a b : Q) : Q :=
  if b.num = 0 then ⟨0, 1⟩ else ⟨a.num * b.den * b.num.sign, a.den * b.num.natAbs⟩
/-- The square. -/
def Q.sq (a : Q) : Q := a.mul a
/-- The larger. -/
def Q.max (a b : Q) : Q := if a.lt b then b else a
/-- The smaller. -/
def Q.min (a b : Q) : Q := if a.lt b then a else b

/-- A NaN or an infinity. -/
def f64NotFinite (b : BitVec 64) : Bool := b.toNat / 2 ^ 52 % 2048 == 2047

/-- The sign bit of a value other than minus zero. -/
def f64Negative (b : BitVec 64) : Bool := b.toNat / 2 ^ 63 == 1 && b.toNat % 2 ^ 63 != 0

/-- Positive infinity. -/
def f64Inf : BitVec 64 := 0x7FF0000000000000#64

/-- The exact value of a finite binary64 number (zero for the others). -/
def f64ToQ (b : BitVec 64) : Q :=
  let n := b.toNat
  let e := n / 2 ^ 52 % 2048
  let f : Nat := n % 2 ^ 52
  let s : Int := if n / 2 ^ 63 = 1 then -1 else 1
  if e = 2047 then ⟨0, 1⟩
  else if e = 0 then ⟨s * (f : Int), 2 ^ 1074⟩
  else if e ≥ 1075 then ⟨s * ((2 ^ 52 + f) * 2 ^ (e - 1075) : Nat), 1⟩
  else ⟨s * (2 ^ 52 + f : Nat), 2 ^ (1075 - e)⟩

/-- `n / d` rounded to the nearest integer, ties to even. -/
def divEven (n d : Nat) : Nat :=
  let q := n / d
  let r := n % d
  if 2 * r < d then q else if 2 * r > d then q + 1 else if q % 2 = 0 then q else q + 1

/-- The binary64 number nearest to `num / den`, ties to even; overflow gives infinity. -/
def f64OfNat (num den : Nat) : BitVec 64 :=
  if num = 0 then 0
  else
    -- 2^(k-1) < num/den < 2^(k+1)
    let k : Int := (Nat.log2 num : Int) - (Nat.log2 den : Int)
    let scale := fun (e : Int) => if e ≥ 0 then divEven num (den * 2 ^ e.toNat) else divEven (num * 2 ^ (-e).toNat) den
    let fits := if k ≥ 0 then decide (den * 2 ^ k.toNat ≤ num) else decide (den ≤ num * 2 ^ (-k).toNat)
    let top : Int := if fits then k else k - 1
    let e : Int := if top - 52 < -1074 then -1074 else top - 52
    let m := scale e
    let m2 := if m = 2 ^ 53 then 2 ^ 52 else m
    let e2 := if m = 2 ^ 53 then e + 1 else e
    if m2 < 2 ^ 52 then BitVec.ofNat 64 m2
    else if e2 + 1075 ≥ 2047 then f64Inf
    else BitVec.ofNat 64 ((e2 + 1075).toNat * 2 ^ 52 + (m2 - 2 ^ 52))

/-- The binary64 number nearest to a rational. -/
def f64OfQ (q : Q) : BitVec 64 :=
  let m := f64OfNat q.num.natAbs q.den
  if q.num < 0 then BitVec.ofNat 64 (m.toNat + 2 ^ 63) else m

/-- One bit per step of the integer square root: `fuel` counts the bits left. -/
def isqrtGo (n : Nat) : Nat → Nat → Nat
  | 0, r => r
  | fuel + 1, r => isqrtGo n fuel (if (r + 2 ^ fuel) * (r + 2 ^ fuel) ≤ n then r + 2 ^ fuel else r)

/-- The integer square root, rounded down. -/
def isqrt (n : Nat) : Nat := isqrtGo n (Nat.log2 n / 2 + 1) 0

/-- The binary64 number nearest to the square root of a non-negative rational. -/
def f64Sqrt (q : Q) : BitVec 64 :=
  let n := q.num.toNat
  if n = 0 then 0
  else
    let k := 64 + (Nat.log2 q.den - Nat.log2 n) / 2
    let big := n * 4 ^ k
    let r := isqrt (big / q.den)
    let exact := decide (r * r * q.den = big)
    f64OfNat (2 * r + if exact then 0 else 1) (2 ^ (k + 1))

/-- The square root of a non-negative rational as a rational (through binary64). -/
def qSqrt (q : Q) : Q := f64ToQ (f64Sqrt q)

end Sys2Proof.Machine
end

