-- ==== Sys2Proof/Config.lean ====
section
/-! DEFINITION. What the spec leaves open: the free values and the constants of the implementation. Every constant here is
opaque: no proof can see a value of it. -/
namespace Sys2Proof.Config

/-- FREE VALUE (notes/assumptions/2). The n-th value the hardware produces where the spec gives an effect and no
value: a step of the heater servo, the value of an abandoned conversion, a comparator within its overdrive band. The model
applies it to the counter `Dev.freeCtr`, which every use advances. -/
opaque freeValue : Nat → BitVec 64

/-- IMPLEMENTATION CONSTANT (notes/assumptions/18). The ROM's 16,384 micro-words by address (R174): routines at 0x0000 to
0x3DFF, the dispatch tables above (R180). The spec does not give them. -/
opaque romWord : Nat → BitVec 24

/-- IMPLEMENTATION CONSTANT (notes/assumptions/18). The ROM's 2,048 nano-words by number (R174, R178). -/
opaque romNano : Nat → BitVec 192

/-- IMPLEMENTATION CONSTANT (notes/assumptions/16). VERSION and FLAGS of the archive records that the device writes (R325). -/
opaque archVersion : Nat
/-- FLAGS, as above. -/
opaque archFlags : Nat

/-- IMPLEMENTATION CONSTANT (notes/assumptions/21). The place of copy A (false) or B of an archive record of a TYPE and KEY: Table
CA-8 gives its area only. -/
opaque archOffset : Nat → Nat → Bool → Nat

/-- IMPLEMENTATION CONSTANT (notes/assumptions/21). The status code of ARCHIVE_DIR, by whether copies A and B pass their check. -/
opaque archStatus : Bool → Bool → BitVec 8

/-- IMPLEMENTATION CONSTANT (notes/assumptions/16). The converter noise u_conv that the archive's figure gives for an INTEG
(R474), as binary64. -/
opaque convNoise : BitVec 64 → Nat → BitVec 64

end Sys2Proof.Config
end

