-- ==== Sys2Proof/Machine/Flags.lean ====
section
/-! DEFINITION. The flag and counter computations that every chapter shares: sets of bits held in a bit vector, and
counters that saturate or run free. -/
namespace Sys2Proof.Machine

/-- Bit `i` of a mask set or cleared. -/
def setBit {w : Nat} (m : BitVec w) (i : Nat) (b : Bool) : BitVec w :=
  if b then m ||| (1#w <<< i) else m &&& ~~~(1#w <<< i)

/-- A counter that stops at its largest value. -/
def satAdd (bits n k : Nat) : Nat := min (n + k) (2 ^ bits - 1)

/-- Free-running 32-bit addition (Table HQ-2: indices are free-running 32-bit values). -/
def add32 (a b : Nat) : Nat := (a + b) % 2 ^ 32

/-- Free-running 32-bit distance from `b` forward to `a`. -/
def sub32 (a b : Nat) : Nat := (a + 2 ^ 32 - b % 2 ^ 32) % 2 ^ 32

/-- The bits set in a mask, ascending, below `n`. -/
def setBits {w : Nat} (m : BitVec w) (n : Nat) : List Nat := (List.range n).filter fun i => m.getLsbD i

/-- Number of set bits of a number's lowest `n` bits. -/
def popCount (v n : Nat) : Nat := ((List.range n).filter fun i => (v / 2 ^ i) % 2 == 1).length

end Sys2Proof.Machine
end

