-- ==== Sys2Proof/Machine/Operands.lean ====
section
/-! DEFINITION. The operand forms: how the bytes of an operand or of a memory structure are read and written (R2, R3,
R337), and the time formats (R6, R7). -/
namespace Sys2Proof.Machine

/-- The unsigned number whose bytes, most significant first, are `b` (R3, ODP frames and dictionary values). -/
def beNat (b : Bytes) : Nat := b.foldl (fun n x => n * 256 + x.toNat) 0

/-- The unsigned number whose bytes, least significant first, are `b` (R3, BAR registers and host memory). -/
def leNat (b : Bytes) : Nat := b.foldr (fun x n => x.toNat + 256 * n) 0

/-- `n` as `k` bytes, least significant first; higher bits are dropped. -/
def natLE : Nat → Nat → Bytes
  | 0, _ => []
  | k + 1, n => BitVec.ofNat 8 n :: natLE k (n / 256)

/-- `n` as `k` bytes, most significant first; higher bits are dropped. -/
def natBE (k n : Nat) : Bytes := (natLE k n).reverse

/-- The two's complement reading of a `bits`-bit number. -/
def toSigned (bits n : Nat) : Int :=
  let m := n % 2 ^ bits
  if 2 * m < 2 ^ bits then (m : Int) else (m : Int) - (2 ^ bits : Nat)

/-- The `bits`-bit two's complement form of an integer (modulo 2^bits). -/
def ofSigned (bits : Nat) (z : Int) : Nat := (z % ((2 ^ bits : Nat) : Int)).toNat

/-- `bytes` from offset `o`, `k` of them; bytes past the end read as zero. -/
def slice (b : Bytes) (o k : Nat) : Bytes :=
  let c := (b.drop o).take k
  c ++ List.replicate (k - c.length) 0

/-- The big-endian field of `k` bytes at offset `o`. -/
def fieldBE (b : Bytes) (o k : Nat) : Nat := beNat (slice b o k)

/-- The little-endian field of `k` bytes at offset `o`. -/
def fieldLE (b : Bytes) (o k : Nat) : Nat := leNat (slice b o k)

/-- Bits `[hi:lo]` of a number. -/
def bits (n hi lo : Nat) : Nat := (n / 2 ^ lo) % 2 ^ (hi + 1 - lo)

/-- Bit `i` of a number. -/
def bit (n i : Nat) : Bool := (n / 2 ^ i) % 2 == 1

/-- 0 or 1. -/
def ofBool (b : Bool) : Nat := if b then 1 else 0

/-- Division rounded up. -/
def ceilDiv (a b : Nat) : Nat := (a + b - 1) / b

/-- `a / b` to the nearest integer, an exact half away from zero (R7). -/
def roundDiv (a : Int) (b : Nat) : Int :=
  if a ≥ 0 then (2 * a + b) / (2 * b) else -((2 * (-a) + b) / (2 * b))

/-! ### Time formats (R6, R7) -/

/-- Units of 2^-16 ns in a second. -/
def subPerSecond : Nat := 65536 * 1000000000

/-- A count of units of 2^-16 ns as a TIME96 value. -/
def timeOfSub (u : Nat) : Time96 :=
  { sec := u / subPerSecond % 2 ^ 48, ns := u % subPerSecond / 65536, sub := u % 65536 }

/-- The units of 2^-16 ns in a TIME96 value. -/
def Time.toSub (t : Time96) : Nat := t.sec * subPerSecond + t.ns * 65536 + t.sub

/-- Fine steps to TIME96: one fine step is 32/7 units of 2^-16 ns; nearest, an exact half away from zero (R7). -/
def timeOfFine (f : Nat) : Time96 := timeOfSub ((64 * f + 7) / 14)

/-- TIME96 to fine steps: nearest, an exact half away from zero (R7). -/
def fineOfTime (t : Time96) : Nat := (14 * Time.toSub t + 32) / 64

/-- TIME96 as the dictionary and ODP carry it: most significant byte first (R337). -/
def timeBE (t : Time96) : Bytes := natBE 6 t.sec ++ natBE 4 t.ns ++ natBE 2 t.sub

/-- TIME96 as host memory holds it: least significant byte first (Table HQ-6). -/
def timeLE (t : Time96) : Bytes := natLE 2 t.sub ++ natLE 4 t.ns ++ natLE 6 t.sec

/-- The TIME96 value of 12 bytes, most significant first. -/
def timeOfBE (b : Bytes) : Time96 := { sec := fieldBE b 0 6, ns := fieldBE b 6 4, sub := fieldBE b 10 2 }

end Sys2Proof.Machine
end

