-- ==== Sys2Proof/Machine/State.lean ====
section
/-! DEFINITION. The state of the block, as plain data: every register, counter, buffer, latch and mode that the spec
gives the device, chapter by chapter, and the queue of commands that wait. Field defaults are the values after reset:
the device at power-on, at the start of bring-up phase B0 (notes/assumptions/4). -/
namespace Sys2Proof.Machine

/-! ### Dictionary, shadows and commits (chapters 11 and 12) -/

/-- A set of dictionary values: pairs of the key `index * 256 + sub` and the value's bytes, most significant byte first
(R337), keys strictly rising. An entry not listed holds its default (R344). -/
abbrev Cfg := List (Nat × Bytes)

/-- Where the answer to a request goes: an ODP reply (R381), the answer to an MCTP message (R449), or the requester of one
item written directly. -/
inductive ReplyTo where
  | odp (port : Fin 2) (src : Nat) (tenant : Tenant) (opcode credential session sequence : Nat) (held : Bool) (key : Bytes)
  | smbus (tag : Nat) (opcode : Nat)
  | direct (r : Req)
  | none
  deriving DecidableEq, Repr

/-- An accepted and not yet landed COMMIT (R349, R351). -/
structure Commit where
  req : Req
  entries : Cfg
  atIdle : Bool := false
  /-- Frame edges left until the timeout of a COMMIT AT_IDLE (R352). -/
  framesLeft : Nat := 0
  reply : ReplyTo := .none
  deriving DecidableEq, Repr

/-- One item of an answer: index, sub-index, status and value (Table NP-6). -/
structure AnsItem where
  ix : Nat
  sub : Nat
  status : Nat
  value : Bytes := []
  deriving DecidableEq, Repr

/-- An answer that waits for the end of the tick, where a retirement that it commands is served (R90). -/
structure HeldAnswer where
  dest : ReplyTo
  items : List AnsItem
  deriving DecidableEq, Repr

/-- A DOMAIN write in progress (R358, R359). -/
structure DomWrite where
  req : Req
  key : Nat
  total : Nat
  data : Bytes
  deriving DecidableEq, Repr

/-- A generation recorded by a READ_BLOCK at offset 0 (R357). -/
structure GenMark where
  req : Req
  key : Nat
  gen : Nat
  deriving DecidableEq, Repr

/-- The dictionary service. -/
structure Dict where
  /-- Values in force that differ from their defaults. -/
  cfg : Cfg := []
  /-- The shadows of T0-T7 (R347). -/
  shadow : Vector Cfg 8 := Vector.replicate 8 []
  mgmtShadow : Cfg := []
  /-- Accepted commits in the order of their acceptance. -/
  commits : List Commit := []
  domWrites : List DomWrite := []
  /-- Generation counts of the DOMAIN entries (R357): key and count, absent = 0. -/
  gens : List (Nat × Nat) := []
  genMarks : List GenMark := []
  commitCount : Vector Nat 8 := Vector.replicate 8 0
  lastLanding : Vector Time96 8 := Vector.replicate 8 {}
  lastCommitStatus : Vector Nat 8 := Vector.replicate 8 0
  landings : Nat := 0
  deriving DecidableEq, Repr

/-- An ODP session (Table NP-9, R374-R377). -/
structure Session where
  number : Nat := 0
  isOpen : Bool := false
  key : Bytes := []
  inFlight : Nat := 0
  seqHigh : Nat := 0
  /-- Bit i: sequence number SEQ_HIGH - i has been seen. -/
  window : BitVec 64 := 0
  authFails : Nat := 0
  replays : Nat := 0
  deriving DecidableEq, Repr

/-- A frame held during Stair 1 or 2 (R384): the port, the opcode byte and the frame. -/
structure HeldFrame where
  opcode : Nat
  frame : Frame
  deriving DecidableEq, Repr

/-- One Ethernet port (Table NP-2, R363). -/
structure Port where
  link : Bool := false
  /-- 0 no link, 1 25GBASE-R, 2 10GBASE-R. -/
  rate : Nat := 0
  /-- In automatic mode, the rate of the present 500 ms try (1 or 2). -/
  trying : Nat := 1
  fec : Bool := false
  ipv6Ready : Bool := false
  /-- Duplicate address detection found the IPv6 global address in use. -/
  dupAddr : Bool := false
  /-- Another station claims the IPv4 address. -/
  v4Conflict : Bool := false
  /-- The millisecond of the last UNAUTH reply (R380). -/
  lastUnauthMs : Option Nat := none
  deriving DecidableEq, Repr

/-- DUP_ADDR (Table NP-2). -/
def Port.dup (p : Port) : Bool := p.dupAddr || p.v4Conflict

/-- The control plane on the field network. -/
structure Odp where
  sess : Vector Session 8 := Vector.replicate 8 {}
  port : Vector Port 2 := Vector.replicate 2 {}
  /-- Held frames of both ports in order of arrival (R384). -/
  held : List HeldFrame := []
  /-- Replies to TENANT_RESET that follow the reset (R388). -/
  resetReplies : List ReplyTo := []
  deriving DecidableEq, Repr

/-! ### Locks and the management endpoint (chapter 14) -/

/-- One lock (Table TM-3). The holder of a free lock is none (read as 0xFF). -/
structure Lock where
  holder : Option Req := none
  warned : Bool := false
  lease : Nat := 0
  remaining : Nat := 0
  grants : Nat := 0
  deriving DecidableEq, Repr

/-! ### Event records (chapter 13) -/

/-- One event record (Table HQ-6). PHASE is added where the record is written. -/
structure EventRec where
  type : Nat
  /-- Bits [3:0] of byte 1 (R410). -/
  tenant : Nat
  pointer : Bool := false
  seq : Nat
  time : Time96
  source : Nat
  epochTrace : BitVec 16
  payload : Bytes
  deriving DecidableEq, Repr

/-- Who receives a record. -/
inductive Recipient where
  | tenant (t : Tenant)
  | mgmt
  deriving DecidableEq, Repr

/-- A record made during the actions of a frame edge and waiting for step 5 (R24, R414). -/
structure EdgeRec where
  dest : Recipient
  type : Nat
  pointer : Bool := false
  /-- The nibble of R410 for the management plane's copy. -/
  about : Nat
  time : Time96
  source : Nat
  /-- EPOCH_TRACE at the record's time (R411). -/
  et : BitVec 16
  payload : Bytes
  deriving DecidableEq, Repr

/-- A holding buffer (R414, R415, R450). -/
structure Hold where
  recs : List EventRec := []
  seq : Nat := 0
  /-- HOLD_DROPS. -/
  drops : Nat := 0
  /-- Drops not yet reported in a LOST record, and the first and last dropped sequence (R422). -/
  dropsUnreported : Nat := 0
  dropFirst : Nat := 0
  dropLast : Nat := 0
  /-- Drops that the last LOST record of R415 could not deliver: the next one waits for further drops (R422). -/
  dropsTried : Nat := 0
  deriving DecidableEq, Repr

/-- The management endpoint (R447-R452). -/
structure Mgmt where
  hold : Hold := {}
  locks : Vector Lock 34 := Vector.replicate 34 {}
  /-- MCTP endpoint identifier. -/
  eid : Nat := 0
  /-- A partly assembled MCTP message (R451). -/
  partialMsg : Bytes := []
  /-- Vendor-defined messages held for a wake (R452), oldest first, each with what it asks: 1-8 the DICT opcode, 0x100
  and 0x101 GET_EVENTS without and with ACK_VALID, 0x200-0x203 RESET with its scope, 0x300 + c the undefined command c. -/
  heldVdm : List (Nat × Vdm) := []
  /-- Replies to RESET that follow the reset (R451): the message tags. -/
  resetReplies : List Nat := []
  deriving DecidableEq, Repr

/-! ### Host interface (chapter 13) -/

/-- One event queue's registers (Table HQ-2). -/
structure Evq where
  head : Nat := 0
  tail : Nat := 0
  lost : Nat := 0
  lostPending : Bool := false
  /-- Records lost since the queue's last LOST record, with the first and last sequence (R421). -/
  lostSince : Nat := 0
  lostFirst : Nat := 0
  lostLast : Nat := 0
  /-- The queue received a record in this frame (R420). -/
  wrote : Bool := false
  deriving DecidableEq, Repr

/-- A transfer in progress (R405-R409). -/
structure DmaRun where
  slot : Nat
  upload : Bool
  source : Nat
  tag : Nat
  hostAddr : Nat
  hostLen : Nat
  first : Nat
  count : Nat
  /-- Bytes the transfer will move. -/
  total : Nat
  /-- Bytes moved so far. -/
  done : Nat := 0
  truncated : Bool := false
  poisoned : Nat := 0
  /-- Max_Payload_Size at the start; bytes requested from the host, and reads outstanding (R407). -/
  unit : Nat := 128
  issued : Nat := 0
  outstanding : Nat := 0
  deriving DecidableEq, Repr

/-- The PCI Express function PFt and its BAR0 (chapter 13). -/
structure HostIf where
  evq : Vector Evq 4 := Vector.replicate 4 {}
  hold : Hold := {}
  /-- The LOST record of R427, made at the reset: the first record written into the first queue that is enabled. -/
  resetLost : Option EventRec := none
  unrouted : Nat := 0
  badAccess : Nat := 0
  /-- TIME_SNAP and TIME_SNAP_TRACE (R395, R397): the TIME96 latched and the traceability bits. -/
  timeSnap : Time96 := {}
  snapTrace : BitVec 2 := 0
  ringProd : Nat := 0
  ringCons : Nat := 0
  ringLanded : Nat := 0
  ringDropped : Nat := 0
  /-- A low-water message has been sent for the present fall (R404). -/
  ringLow : Bool := false
  /-- BAR2 writes buffered in the endpoint, oldest first: offset and bytes (R402). -/
  bar2 : List (Nat × Bytes) := []
  /-- Staging bank-cycles used in this frame (R402). -/
  stagedCycles : Nat := 0
  dmaProd : Nat := 0
  dmaCons : Nat := 0
  dmaDone : Nat := 0
  dmaSlots : Vector (BitVec 256) 64 := Vector.replicate 64 0
  dma : Option DmaRun := none
  msixTable : Vector (BitVec 128) 64 := Vector.replicate 64 0
  msixPba : BitVec 64 := 0
  msixEnable : Bool := false
  functionMask : Bool := false
  busMaster : Bool := false
  memSpace : Bool := false
  d3hot : Bool := false
  maxPayload : Nat := 128
  /-- An FLR has been requested and not yet executed (Table HQ-11). -/
  flr : Bool := false
  deriving DecidableEq, Repr

/-- The PCI Express link (R423-R425, `0x1300.00`). -/
structure Link where
  l0 : Bool := false
  /-- In L1 by ASPM. -/
  l1 : Bool := false
  /-- Rate code 0-5 and width in lanes (R429). -/
  rate : Nat := 0
  width : Nat := 0
  aspmL1 : Bool := false
  /-- WAKE_N driven low. -/
  wakeN : Bool := false
  /-- Host requests that wait for a Stair exit, oldest first (R423, R424). -/
  held : List Instr := []
  /-- Records that the event writer has taken in this frame (R417). -/
  written : Nat := 0
  deriving DecidableEq, Repr

/-! ### Fault collector (chapter 19) -/

/-- The latches of one fault source. Bit 8 of each mask is the device scope, bit t the scope of tenant t (R562). -/
structure FaultSrc where
  /-- Resources at which the signal-level condition is present (R570). -/
  present : List Resource := []
  /-- Scopes in which the signal-level condition is present. -/
  cond : BitVec 9 := 0
  /-- Scopes in which a broken pair makes the source active (R563): its own, for FS-121 and FS-122 also another's. -/
  broken : BitVec 9 := 0
  /-- Scopes in which the force bit made it occur (R575). -/
  forced : BitVec 9 := 0
  latched : BitVec 9 := 0
  /-- The latest occurrence of the scope was forced. -/
  lastForced : BitVec 9 := 0
  /-- The latest occurrence of the scope was merged. -/
  lastMerged : BitVec 9 := 0
  count : Nat := 0
  deriving DecidableEq, Repr

/-- A fault record (Table FC-2). -/
structure FaultRec where
  source : Nat := 0
  cls : Nat := 0
  forced : Bool := false
  merged : Bool := false
  broken : Bool := false
  pin : Bool := false
  scope : Nat := 0
  masterKind : Nat := 0
  master : Nat := 0
  addr : Nat := 0
  access : Nat := 0
  reaction : Nat := 0
  mergeCount : Nat := 0
  time : Time96 := {}
  /-- R572 wrote FC_FIRST (payload bit FIRST). -/
  first : Bool := false
  /-- R572 set FC_OVERFLOW (payload bit OVERFLOW). -/
  overflow : Bool := false
  et : BitVec 16 := 0
  deriving DecidableEq, Repr

/-- An occurrence of the present tick (R571), with the record that it opens when it is neither a repeat nor merged. -/
structure FaultOcc where
  src : Source
  scope : Nat
  /-- The source was latched in the scope already. -/
  repeated : Bool
  record : FaultRec
  deriving DecidableEq, Repr

/-- The records of the collector. -/
structure FaultBook where
  /-- Open records in the order in which they opened, at most one per scope (R571). -/
  opens : List FaultRec := []
  first : Nat := 0xFFFF
  overflow : Bool := false
  last : FaultRec := {}
  deriving DecidableEq, Repr

/-- The fault collector. -/
structure Collector where
  src : Vector FaultSrc 128 := Vector.replicate 128 {}
  /-- Open records in the order in which they opened, at most one per scope (R571). -/
  opens : List FaultRec := []
  first : Nat := 0xFFFF
  overflow : Bool := false
  last : FaultRec := {}
  /-- The occurrences of the present tick in ascending source number, and the records as they stood before them (R571). -/
  tickOccs : List FaultOcc := []
  tickBook : FaultBook := {}
  /-- The sources whose pair is broken (R563). -/
  wires : BitVec 128 := 0
  /-- Conditions of kind S that rose while the core clock stood, as (source, resource): they latch when it runs again (R564). -/
  missed : List (Source × Resource) := []
  /-- FAULT_FORCE: bit FS is the force bit of source FS. -/
  force : BitVec 128 := 0
  /-- STOP_TENANT reactions due at step 1 of the next edge, one bit per tenant. -/
  stopDue : BitVec 8 := 0
  safeHoldDue : Bool := false
  /-- ALIVE toggles (R579), its level, and whether a class D occurrence has latched since bring-up began. -/
  aliveToggling : Bool := false
  alive : Bool := false
  classDSeen : Bool := false
  /-- Always-on cycles since ALIVE last changed level. -/
  aliveCycles : Nat := 0
  /-- Tenants stopped by a reaction, whose channels hold their fuse-map states (R475). -/
  held : BitVec 8 := 0
  /-- Occurrences that stopped a tenant and are not cleared (R568), as (source, tenant). -/
  stoppers : List (Source × Tenant) := []
  deriving DecidableEq, Repr

/-! ### Pin channels (chapter 3) -/

/-- Channel states (Table PC-6), in the order of their codes. -/
inductive ChState where
  | spare | inService | retired | held | recal | pendingJoin | disabled
  deriving DecidableEq, Repr

/-- An accepted retirement that has not yet taken effect (R89-R93). -/
structure RetireReq where
  /-- 0 tenant command, 1 management command, 2 fault (Table PC-7). -/
  cause : Nat
  fs : Nat
  /-- The reserved spare; none when a SPARE channel itself is retired, and when none was free (R91). -/
  spare : Option Chan
  deriving DecidableEq, Repr

/-- A re-admission in progress (R94-R96). -/
structure Readmit where
  /-- 1 to the pin, 2 as a spare. -/
  value : Nat
  /-- 0 tenant command, 1 management command. -/
  cause : Nat
  /-- The channel was HELD (otherwise RETIRED) before the request. -/
  wasHeld : Bool
  /-- The pin the channel returns to. -/
  pin : Option Pin
  /-- Milliseconds left of READMIT_TIMEOUT. -/
  msLeft : Nat
  /-- The block in force when the recalibration was accepted, and the corrections it accepted (512 bytes each). -/
  base : Bytes := []
  block : Bytes := []
  /-- Recalibration attempts of an item and part that have found no agreement so far (R297). -/
  meas : List (Nat × Nat × List (List Int)) := []
  deriving DecidableEq, Repr

/-- A crossing of a comparator (R78): comparator HIGH, direction rising, the time at the balls in fine steps of the tick
counter (R292), and whether the TDC reports it. -/
structure RxEvent where
  high : Bool
  rising : Bool
  pos : Nat
  reported : Bool
  deriving DecidableEq, Repr

/-- What a drive lane puts on its balls (Tables PC-1 and PC-5): high impedance, 50 ohm per ball to a voltage in mV, or a
differential level about a common mode, in mV, source-terminated 50 ohm per ball. -/
inductive BallLevel where
  | hiZ
  | term (vtt : Nat)
  | driven (diff : Int) (common : Nat)
  deriving DecidableEq, Repr

/-- One physical channel. -/
structure Channel where
  st : ChState := .inService
  /-- The logical pin the channel carries (CH_MAP). -/
  map : Option Pin := none
  /-- The logical pin the channel last carried (R94); none when it was retired from SPARE. -/
  lastPin : Option Pin := none
  retire : Option RetireReq := none
  /-- Reserved by the retirement of another channel (R90). -/
  reserved : Bool := false
  readmit : Option Readmit := none
  /-- RETIRE_CAUSE. -/
  retireCause : BitVec 16 := 0
  runt : Nat := 0
  inconsist : Nat := 0
  drvLimit : Nat := 0
  /-- Inconsistent samples in this frame (R77). -/
  inconsistFrame : Nat := 0
  /-- Consecutive ticks for which a driver current limit has been engaged (R69). -/
  limitTicks : Nat := 0
  /-- Results carry INVALID for a driver limit: whole frames still to be clear (R69). -/
  limitInvalid : Bool := false
  limitClear : Bool := false
  /-- The clamp is engaged; termination held HIZ; the last frame was clear (R72). -/
  clamp : Bool := false
  clampHiz : Bool := false
  clampClear : Bool := false
  /-- Results carry INVALID to the end of this frame (R91, R92, R582). -/
  frameInvalid : Bool := false
  /-- The tick of the last Landing that changed a level of the channel (R68). -/
  levelTick : Option Nat := none
  /-- Level of each comparator now. -/
  rxHigh : Bool := false
  rxLow : Bool := false
  /-- Crossings of both comparators in order of time, as far back as a compare, an acquisition or a pattern still asks. -/
  rx : List RxEvent := []
  /-- Past values of SAMPLE_PHASE (R76), newest first: the tick from which each no longer held. -/
  phases : List (Nat × Nat) := []
  /-- The instant up to which inconsistent samples are counted (R77), in fine steps of the tick counter. -/
  inconsistPos : Nat := 0
  /-- What the drive lane was last sent to show at its balls (the model's own field). -/
  ball : BallLevel := .hiZ
  /-- A block reset holds the lanes in the fuse-map state until the next frame edge (Table RB-4). -/
  resetHold : Bool := false
  deriving DecidableEq, Repr

/-- Fused data and the identity the fuses hold (`0x1000`, R83, Table RB-9). -/
structure Fuses where
  gradeB : Bool := false
  stepping : BitVec 16 := 0
  serial : Bytes := []
  dieId : BitVec 64 := 0
  /-- ROLLBACK: 64 fuse bits (R548). -/
  rollbackFuses : BitVec 64 := 0
  /-- Fuse-map drive states: 0 Z, 1 LO, 2 HI, 3 TERM. -/
  pinState : Vector (BitVec 2) 52 := Vector.replicate 52 0
  mac : BitVec 48 := 0
  iana : Nat := 0
  vendorId : BitVec 16 := 0
  smbusAddr : BitVec 7 := 0
  /-- Fuse-map states of the discrete outputs TRIG_OUT0-3, ALIVE (0 Z, 1 LO, 2 HI, 3 TERM). -/
  outState : Vector (BitVec 2) 5 := Vector.replicate 5 1
  /-- ISO_BOOT (Table PK-9: blown on the -M part). -/
  isoBoot : Bool := true
  /-- KEY_HASH (R548). -/
  keyHash : Bytes := []
  /-- IMAGE_KEY, 32 bytes (R548). -/
  imageKey : Bytes := []
  /-- Manufacturer identity of the identification register (R620). -/
  jtagMfr : BitVec 11 := 0
  deriving DecidableEq, Repr

/-- ROLLBACK_COUNT: the consecutive blown bits from bit 0 (R555). -/
def Fuses.rollback (f : Fuses) : Nat := ((List.range 64).find? fun i => !f.rollbackFuses.getLsbD i).getD 64

/-! ### Time base (chapter 2) -/

/-- One time alarm (R56-R59): status 0 idle, 1 armed, 2 fired, 3 LATE. -/
structure Alarm where
  status : Nat := 0
  deriving DecidableEq, Repr

/-- Progress of a handover (R41). -/
structure Handover where
  /-- Residual of the first REFIN edge after the seed, in fine steps. -/
  first : Option Int := none
  /-- The correction has been made or given up. -/
  done : Bool := false
  /-- REFIN was lost during step 3 (R43). -/
  lost : Bool := false
  /-- The handover of an exit from Stair 3 or deeper (R44), not that of phase B4. -/
  fromSleep : Bool := false
  deriving DecidableEq, Repr

/-- What was in force from a tick on, until the next mark (R12, R35, R48, R52, R68): the model's own record of the past
ticks of the handover period, from which the time, the epoch, the state and the flags of a record of an earlier tick are
found (notes/assumptions/38). -/
structure TimeMark where
  tick : Nat
  /-- Device time at the start of the tick, the slew in progress, its ticks so far, and SLEW_LIMIT in force (R34, R47). -/
  fine : Nat
  slew : Int := 0
  slewTicks : Nat := 0
  limit : Nat := 0
  /-- Epoch, traceability state and uncertainties (R12, R53). -/
  major : Nat := 0
  minor : Nat := 0
  trace : Nat := 2
  uY : BitVec 64 := 0
  uT : BitVec 64 := 0
  /-- Logical pins whose records carry INVALID, and those of whose channel a Landing at this tick changed a level (R68). -/
  invalid : BitVec 48 := 0
  level : BitVec 48 := 0
  deriving DecidableEq, Repr

structure TimeBase where
  /-- Device time at the start of the present tick, in fine steps since 1970-01-01 TAI (R34, R36). -/
  devFine : Nat := 0
  /-- TICK_COUNT (R39). -/
  tick : Nat := 0
  /-- The fast clocks run: Stair 0-2 with the core PLL locked or in frequency hold (R40). -/
  fast : Bool := false
  /-- Tahr's count of microseconds and the phase from its edge, in fine steps (chapter 2, Handover). -/
  aonUs : Nat := 0
  phi : Nat := 0
  /-- Ticks since the last always-on edge while the fast clocks run. -/
  usPhase : Nat := 0
  /-- Microseconds since the last whole millisecond of Tahr, and its milliseconds since power-on. -/
  msPhase : Nat := 0
  ms : Nat := 0
  /-- Steps and slews in progress (R47, R48). -/
  pendingStep : Option Int := none
  /-- The source whose offset the pending step is: 1 PPS_IN, 2 PTP, 0 TOD_SET (R630). -/
  stepFrom : Nat := 0
  slew : Int := 0
  slewTicks : Nat := 0
  /-- TOD_SET pending: the value, and whether it is taken at the next PPS instant (R37). -/
  todSet : Option (Time96 × Bool) := none
  /-- REFIN (Table TB-1): last 1 ms count, run of agreeing counts, reference PLL lock, selected frequency code. -/
  refinCount : Nat := 0
  refinRun : Nat := 0
  refinFreq : Nat := 0
  refPllLock : Bool := false
  refinQual : Bool := false
  /-- Reference PLL in frequency hold (R32). -/
  freqHold : Bool := true
  /-- The frequency word that the hold keeps, the mean of the preceding 1 s, and the frequency difference, in parts of
  10^12, by which the reference PLL is still to relock (R32). -/
  holdWord : BitVec 64 := 0
  relock : Nat := 0
  corePllLock : Bool := false
  synceQl : Nat := 0xF
  synceQual : Bool := false
  /-- PPS_IN: device time and tick of the last pulse, as fine steps of the tick counter; run of well-spaced pulses. -/
  ppsTick : Option Nat := none
  ppsRun : Nat := 0
  ppsQual : Bool := false
  ptpState : Nat := 1
  ptpOffset : Int := 0
  ptpDelay : Int := 0
  ptpGm : BitVec 64 := 0
  ptpSteps : Nat := 0
  ptpDiscards : Nat := 0
  ptpRun : Nat := 0
  ptpQual : Bool := false
  /-- Sequence number of the next PTP message of each kind sent. -/
  ptpTxSeq : Nat := 0
  /-- The source that realises a time before 0 s and counts as unqualified: 1 PPS_IN, 2 PTP, 0 none (R630). -/
  todBelow : Nat := 0
  /-- HOLDOVER has reached its limit; the state goes to FREE at the next edge (R49). -/
  holdExpired : Bool := false
  freqActive : Nat := 0
  todActive : Nat := 0
  /-- 0 TRACEABLE, 1 HOLDOVER, 2 FREE (R51). -/
  trace : Nat := 2
  traceSince : Time96 := {}
  /-- Fine steps since the entry into HOLDOVER. -/
  holdFine : Nat := 0
  uY : BitVec 64 := 0x3ED4F8B588E368F1#64
  uT : BitVec 64 := 0x7FF0000000000000#64
  uY0 : BitVec 64 := 0
  uT0 : BitVec 64 := 0x7FF0000000000000#64
  /-- The last 64 source offsets, newest first (Table TB-6). -/
  offsets : List Int := []
  handover : Option Handover := none
  /-- Loss sources of the frequency source lost since the descent (R44, R50). -/
  sleepLoss : List Source := []
  /-- Frame edges since u_y and u_T were last computed (R54). -/
  recomputeFrames : Nat := 0
  /-- The past of the handover period, newest first. -/
  marks : List TimeMark := []
  /-- The time-of-day source must confirm device time before TRACEABLE (R42-R44). -/
  needConfirm : Bool := false
  alarms : Vector (Vector Alarm 2) 9 := Vector.replicate 9 (Vector.replicate 2 {})
  deriving DecidableEq, Repr

/-! ### Pattern sequencers (chapters 4 and 5) -/

/-- An aligned effect (R148). -/
inductive Aligned where
  | mark (value pc loop : Nat)
  | trigout (op mask width : Nat)
  | quietOn
  | quietOff
  | signal (op sel : Nat)
  deriving DecidableEq, Repr

/-- Sequencer states (Table PS-1), in the order of their codes. -/
inductive SeqState where
  | idle | running | waiting | matching | syncing | halted | error | stopped
  deriving DecidableEq, Repr

/-- An entry of the decoded-vector FIFO (R132, R158). -/
structure Vec where
  /-- Release tick of a new run that begins with this entry (R155). -/
  release : Option Nat := none
  tset : Nat := 0
  /-- Pin codes by logical pin, ascending (R140). -/
  codes : List (Pin × Nat) := []
  /-- Consecutive vectors still to play under this entry (REPEAT). -/
  reps : Nat := 1
  /-- A RAW segment: ticks n, first data word W, comparing, taken from the stream ring (R141). -/
  raw : Option (Nat × Nat × Bool × Bool) := none
  /-- Effects that take place at the start of the entry, in order. -/
  effects : List Aligned := []
  /-- No vector: the effects take place at the end of the last vector (R148). -/
  tail : Bool := false
  /-- Fails of this vector are not recorded (R156), and it belongs to a pass of a MATCH-LOOP. -/
  silent : Bool := false
  inMatch : Bool := false
  /-- The first vector, or the first tick of a RAW segment, that plays as a stream gap (R143). -/
  gap : Option Nat := none
  /-- Control address of the issuing instruction, and the counts of the open loops, innermost first (R214). -/
  ctrl : Nat := 0
  loops : List Nat := []
  /-- The words of a RAW segment taken from the ring. -/
  rawData : List Nat := []
  /-- The tick in which the entry entered the FIFO (R280). -/
  entered : Nat := 0
  deriving DecidableEq, Repr

/-- A started vector or RAW segment whose compares are not yet final (R120). -/
structure Cmp where
  vecNo : Nat
  tset : Nat
  start : Nat
  raw : Option (Nat × Nat × Bool × Bool) := none
  silent : Bool
  inMatch : Bool
  marked : Bool
  /-- Latest CMP_CLOSE of a comparing pin (fine steps of the tick counter). -/
  close : Nat
  ctrl : Nat := 0
  loops : List Nat := []
  /-- The compares of a vector (R119): pin, pin code, CMP_OPEN and CMP_CLOSE in fine steps of the tick counter. -/
  wins : List (Pin × Nat × Nat × Nat) := []
  /-- The vector is a stream gap; in a RAW segment, the first tick that is one. -/
  gap : Option Nat := none
  rawData : List Nat := []
  /-- The RAW pins of the segment, as they stood at its start (R122), and its ticks whose results are delivered. -/
  rawPins : List Pin := []
  done : Nat := 0
  deriving DecidableEq, Repr

/-- A MATCH-LOOP in progress (R156). -/
structure Match where
  bodyPc : Nat
  len : Nat
  passes : Nat
  /-- Body instructions of the present pass still to decode. -/
  left : Nat
  event : Bool
  err : Bool
  input : Nat
  failed : Bool := false
  deriving DecidableEq, Repr

/-- A WAIT in progress (R157). -/
structure Wait where
  sel : Nat
  clear : Bool
  err : Bool
  timeout : Nat
  /-- The tick in which the WAIT was decoded; it has not yet been judged at that tick's end. -/
  since : Nat := 0
  fresh : Bool := false
  deriving DecidableEq, Repr

/-- A change of a flag in the present tick (R161): the tenant whose SIGNAL makes it, none for a write; the tenant-private
flag's tenant, none for GF; the flag; operation 0 set, 1 clear, 2 toggle; and the fine offset in the tick. -/
structure FlagOp where
  sender : Option Tenant
  tf : Option Tenant
  n : Nat
  op : Nat
  fine : Nat
  deriving DecidableEq, Repr

/-- An event input (R163): the count and the queue of (source, device time in fine steps), oldest first. -/
structure EventInput where
  count : Nat := 0
  queue : List (Nat × Nat) := []
  saturated : Nat := 0
  deriving DecidableEq, Repr

/-- A store in the store buffer (R164). -/
structure Store where
  addr : Nat
  data : Bytes
  deriving DecidableEq, Repr

structure Seq where
  state : SeqState := .idle
  pc : Nat := 0
  /-- Control address of the last instruction executed (R153). -/
  lastPc : Nat := 0
  error : Nat := 0
  errorPc : Nat := 0
  /-- A stop by an error awaits its frame edge, where SEQ_HALT is made (R135). -/
  haltDue : Bool := false
  /-- Slack and its minimum since START, in fine steps (R158). -/
  slack : Nat := 0
  slackMin : Nat := 64 * 8192
  vectors : Nat := 0
  cond : Bool := false
  gapTicks : Nat := 0
  stall : Nat := 0
  declared : Bool := false
  counters : Vector (BitVec 32) 8 := Vector.replicate 8 0
  /-- Open loops, innermost first: address after LOOP and the count left. -/
  loops : List (Nat × Nat) := []
  calls : List Nat := []
  /-- The image in force: base offsets and lengths in the vector-store area (R137). -/
  ctrlOffset : Nat := 0
  ctrlWords : Nat := 0
  dataOffset : Nat := 0
  dataWords : Nat := 0
  groups : List Group := []
  tset : Nat := 0
  /-- The timing set of the last vector started (R128). -/
  tsetNow : Nat := 0
  /-- The release of the run that the next issued vector begins. -/
  release : Option Nat := none
  /-- End of the last vector started, in fine steps of the tick counter (R106). -/
  pos : Nat := 0
  /-- A vector of the present run has started (R123); the last CMP_CLOSE delivered, in fine steps of the tick counter (R155). -/
  inRun : Bool := false
  closed : Nat := 0
  fifo : List Vec := []
  /-- Aligned effects decoded and waiting for the next vector. -/
  aligned : List Aligned := []
  compares : List Cmp := []
  stores : List Store := []
  /-- The 4 KiB of scratch: address and byte, rising, zero bytes not listed. -/
  scratch : List Host.Cell := []
  /-- STREAM: instructions left, GAP, FS-050 already raised (R142, R143). -/
  streamLeft : Nat := 0
  streamGap : Bool := false
  gapRaised : Bool := false
  /-- Intervals in which the pins' records carry INVALID, in fine steps of the tick counter: a stream gap from its start
  (R143) and a missing vector from the time it was due (R158), to the end of the run where that is known. -/
  invalidSpans : List (Nat × Option Nat) := []
  matching : Option Match := none
  wait : Option Wait := none
  /-- A SYNC in progress, with FRAME; a HALT in progress, with its value. -/
  sync : Option Bool := none
  halt : Option Nat := none
  haltValue : Nat := 0
  /-- A SYNC or HALT completed in this frame (R95). -/
  synced : Bool := false
  /-- The window that QUIET-ON opened is open; the end of the last vector that held a window open, in fine steps of the tick
  counter (R129, R136). -/
  quietOn : Bool := false
  quietTo : Nat := 0
  /-- Guards of the vectors started (R279, R280): first and last tick. -/
  guards : List (Nat × Nat) := []
  tf : BitVec 16 := 0
  /-- The flags at the end of the last tick (R161). -/
  tf0 : BitVec 16 := 0
  ei : Vector EventInput 8 := Vector.replicate 8 {}
  /-- Drive level and driven state of each logical pin as the formatter left it (R117). -/
  level : BitVec 48 := 0
  driven : BitVec 48 := 0
  deriving DecidableEq, Repr

/-! ### The microsequencer (chapter 6) -/

/-- An effect at an engine's outputs (R176): a VEC_OP with its operand A and MOD; an aligned effect decoded; a FLAG_OP on the
flag of a selector; a record of a type; a read or write of MEM_OP at an address, with its size in bytes. -/
inductive MicroEffect where
  | vec (op a mod : Nat)
  | aligned (x : Aligned)
  | flag (op sel : Nat)
  | record (type : Nat)
  | read (op addr size : Nat)
  | write (op addr size : Nat)
  deriving DecidableEq, Repr

/-- An effect on its way through the pipeline of an engine (R176): the tick at which it takes place. -/
structure MicroOut where
  engine : Engine
  due : Nat
  effect : MicroEffect
  deriving DecidableEq, Repr

/-- One engine of the control store. -/
structure MicroEngine where
  upc : Nat := 0
  stack : List Nat := []
  resume : Nat := 0
  /-- The priority of the condition being handled. -/
  handling : Option Nat := none
  /-- Latched conditions: bit k for priority k (Table MS-5). -/
  pending : BitVec 8 := 0
  /-- Work registers W0-W15. -/
  w : Vector (BitVec 32) 16 := Vector.replicate 16 0
  aluZero : Bool := false
  aluNeg : Bool := false
  aluCarry : Bool := false
  /-- Micro-words issued since the last safe point, and the largest such count (R186). -/
  gap : Nat := 0
  gapMax : Nat := 0
  selfResets : Nat := 0
  /-- Stopped by a microsequencer fault (R198). -/
  stopped : Bool := false
  /-- The nano-word of a STALL word has executed (R181). -/
  stalling : Bool := false
  /-- An ENGINE_RESET waits for the next frame edge (R199). -/
  resetDue : Bool := false
  /-- The tick of the last fetch (R175). -/
  fetched : Option Nat := none
  /-- The control prefetch buffer, head first, at most 8 words, and the control address of its head (R177). -/
  prefetch : List Nat := []
  prefetchPc : Nat := 0
  /-- A control-stream fetch in progress: its address, none where it refills the buffer, and the tick of the request. -/
  ctrlReq : Option (Option Nat × Nat) := none
  /-- The control word of the instruction being executed (R177). -/
  instr : Nat := 0
  /-- What the last read of MEM_OP brought, and whether it has returned (Table MS-4, code 10). -/
  data : Bytes := []
  returned : Bool := false
  /-- ENGINE_CTL as last issued (Table MS-3). -/
  ctl : BitVec 26 := 0
  /-- By how much the slack is below zero, in fine steps (Table MS-4, code 4). -/
  debt : Nat := 0
  deriving DecidableEq, Repr

structure Micro where
  engines : Vector MicroEngine 9 := Vector.replicate 9 {}
  /-- Patch micro-words and nano-words that are not zero (R193): index and word, rising. -/
  patchWords : List (Nat × BitVec 24) := []
  patchNanos : List (Nat × BitVec 192) := []
  matchRegs : Vector (BitVec 32) 32 := Vector.replicate 32 0
  patchHits : Vector Nat 32 := Vector.replicate 32 0
  /-- The procedure register of the housekeeping engine: procedure codes queued, oldest first. -/
  procReg : List Nat := []
  /-- Effects that have not reached the engines' outputs, in the order in which they do (R176). -/
  outs : List MicroOut := []
  deriving DecidableEq, Repr

/-! ### The Gallery (chapter 7) -/

/-- A cell write of a counter update in progress (R208): the pin and whether the carry into HIGH is still to be written
(false: only CARRY_PENDING is still to be cleared). -/
structure FlushStep where
  pin : Pin
  high : Bool
  deriving DecidableEq, Repr

/-- What the Gallery does at the end of the tick, in this order (R222, R225): an entry of the record stream, a fail record or a
marker, and the instant of its result; COUNT_LIMIT and its instant; a block of the bitmap, at an offset from the bitmap's base,
with the rows that it completes; and the close of the window. -/
inductive GalWrite where
  | record (fail : Bool) (data : Bytes) (pos : Nat)
  | limit (pos : Nat)
  | block (off : Nat) (data : Bytes) (rows : Nat)
  | closed (pos : Nat)
  deriving DecidableEq, Repr

/-- A tenant's Gallery writer. The counter cells, the records, the marker log and the bitmap lie in the stacked memory. -/
structure Gallery where
  /-- Fail records written since the last ARM (R213). -/
  fails : Nat := 0
  recCount : Nat := 0
  recDropped : Nat := 0
  bitmapRows : Nat := 0
  /-- Rows taken in the window, and of them those that a written block completes (R220). -/
  rowsTaken : Nat := 0
  rowsSent : Nat := 0
  /-- The bytes of the bitmap block that is not yet full. -/
  rowBuf : Bytes := []
  totalFails : Nat := 0
  tornRepairs : Nat := 0
  writesDropped : Nat := 0
  markers : Nat := 0
  recordsFull : Bool := false
  limitReached : Bool := false
  breach : Bool := false
  lost : Bool := false
  /-- Bitmap window: 0 idle, 1 armed, 2 open, 3 closed. -/
  window : Nat := 0
  /-- On-die accumulators of this frame, and those closed at the last edge and not yet written (R207). -/
  accum : Vector Nat 48 := Vector.replicate 48 0
  closed : Vector Nat 48 := Vector.replicate 48 0
  /-- The update under way. -/
  flush : Option FlushStep := none
  invalidCompares : Vector Nat 48 := Vector.replicate 48 0
  /-- A stop falls due at the next edge (R222). -/
  stopDue : Bool := false
  /-- What the end of the tick still does, oldest first. -/
  queue : List GalWrite := []
  deriving DecidableEq, Repr

/-! ### Trigger and acquisition (chapter 8) -/

/-- An accepted trigger (R244, R246). -/
structure TrigPoint where
  /-- The trigger point, in fine steps of the tick counter. -/
  pos : Nat
  source : Nat
  forced : Bool
  /-- Triggers ignored before it in the segment. -/
  ignored : Nat := 0
  /-- Its TRIGGER record waits for the trigger point (R258). -/
  recDue : Bool := false
  deriving DecidableEq, Repr

/-- An event of a trigger source in the present tick (R236, R242): time, source, the stage it reaches, and whether the
qualifier has taken it. -/
structure TrigEv where
  pos : Nat
  src : Nat
  stageB : Bool
  taken : Bool := false
  deriving DecidableEq, Repr

/-- A tenant's acquisition context. -/
structure Acq where
  /-- ACQ_STATE (Table TA-1): 0 IDLE, 1 FILLING, 2 ARMED, 3 POST, 4 DONE, 5 ABORTED. -/
  st : Nat := 0
  /-- Sampling origin of the acquisition and of the present segment (R232, R233), in ticks. -/
  acqOrigin : Nat := 0
  origin : Nat := 0
  seg : Nat := 0
  segDone : Nat := 0
  ignored : Nat := 0
  segIgnored : Nat := 0
  /-- Events counted, and the event time that opened the present window (R241). -/
  count : Nat := 0
  window : Option Nat := none
  /-- The first tick at which the qualifier takes events (R243). -/
  armTick : Nat := 0
  trig : Option TrigPoint := none
  forceDue : Bool := false
  lostBlocks : Nat := 0
  edgeExcess : Nat := 0
  trigInExcess : Nat := 0
  /-- Loss within the present segment (R260). -/
  segLost : Nat := 0
  firstLost : Nat := 0
  lastLost : Nat := 0
  breach : Bool := false
  /-- Pins of which a Landing inside a gate changed a threshold or a phase, with the tick (R251). -/
  thrSplit : List (Pin × Nat) := []
  /-- TIE origins O by pin (R249), in fine steps of the tick counter. -/
  tieO : List (Pin × Nat) := []
  segBytes : Nat := 0
  segCapacity : Nat := 0
  /-- The tick of the last edge delivered from each TRIG_IN line (R239). -/
  lineTick : Vector (Option Nat) 4 := Vector.replicate 4 none
  /-- Events of the present tick, judged at its end in the order of R242. -/
  tickTrigs : List TrigEv := []
  deriving DecidableEq, Repr

/-- A TRIG_OUT line (R261): the sequencer's level and the end ticks of the pulses in progress. -/
structure TrigLine where
  level : Bool := false
  seqPulse : Option Nat := none
  acqPulse : Option Nat := none
  deriving DecidableEq, Repr

/-! ### Stacked memory and the frame arbiter (chapter 9) -/

/-- A shortfall whose BUDGET_BREACH record waits for the frame edge (R288): class, bank, bank-cycles short, flags, the tenants
concerned, and the tenant of a tenant's bank. -/
structure Breach where
  cls : Nat
  bank : Nat
  short : Nat
  flags : Nat
  tenants : List Tenant
  owner : Option Tenant
  deriving DecidableEq, Repr

structure Arb where
  /-- BANK_OWNER: tenant 0-7, 0xFE the system region, 0xFF none (Table MA-7). -/
  bankOwner : Vector Nat 64 := Vector.ofFn fun i => if i.val < 60 then 0xFF else 0xFE
  /-- Owner of each 64 KiB stream staging share, 0xFF none (R438). -/
  shareOwner : Vector Nat 32 := Vector.replicate 32 0xFF
  /-- Addresses of 64-bit words that hold an uncorrectable error (Table MA-2). -/
  poison : List Nat := []
  eccCorrected : Nat := 0
  eccUncorrectable : Nat := 0
  eccLastAddr : Nat := 0
  /-- Corrected words that wait for their write-back (R270): address, oldest first. -/
  writeBack : List Nat := []
  /-- The next row that the scrubber visits, the milliseconds at which the pass began, and SCRUB_LATE raised, by bank. -/
  scrubRow : Vector Nat 64 := Vector.replicate 64 0
  scrubStart : Vector Nat 64 := Vector.replicate 64 0
  scrubLate : Vector Bool 64 := Vector.replicate 64 false
  scrubPassMax : Nat := 0
  scrubPasses : Nat := 0
  lateGuards : Vector Nat 8 := Vector.replicate 8 0
  overruns : Vector Nat 8 := Vector.replicate 8 0
  /-- The tenant's quota has overrun in this frame: its records carry INVALID from the first unwithheld guard tick to the
  frame's end (R283). -/
  overrun : Vector Bool 8 := Vector.replicate 8 false
  /-- A vector-fetch or scratch shortfall in this frame: the tenant's records carry INVALID (Table MA-6). -/
  fetchShort : Vector Bool 8 := Vector.replicate 8 false
  quietDemand : Vector Nat 8 := Vector.replicate 8 0
  bankDemand : Vector Nat 64 := Vector.replicate 64 0
  classDemand : Vector Nat 11 := Vector.replicate 11 0
  /-- Credits left in this frame, by bank and class (R276). -/
  credit : Vector (Vector Nat 11) 64 := Vector.replicate 64 (Vector.replicate 11 0)
  admitLast : Bytes := List.replicate 16 0
  breachCount : Vector Nat 11 := Vector.replicate 11 0
  breachLast : Bytes := List.replicate 12 0
  /-- The shortfalls of this frame, oldest first, one by class and bank (R287). -/
  breaches : List Breach := []
  deriving DecidableEq, Repr

/-! ### Calibration and its archive (chapter 10) -/

/-- Header of a temperature set (R311). -/
structure SetHdr where
  /-- A set exists for the setpoint (R328). -/
  valid : Bool := false
  charTemp : BitVec 64 := 0
  /-- 0 factory, 1 laboratory. -/
  source : Nat := 0
  epoch : Nat := 0
  time : Time96 := {}
  deriving DecidableEq, Repr

/-- An accepted item of one channel (R297): the element-wise sum of the agreeing pair (twice
the mean, fs or uV), the largest difference of its elements, a sample's standard deviation and the redundant elements
found. -/
structure CalItem where
  ch : Chan
  item : Nat
  part : Nat
  sum : List Int
  diff : Nat
  sigma : Nat
  sel : Bytes
  deriving DecidableEq, Repr

/-- An item under measurement: its part, the channel, the attempts made, oldest first, and the attempts lost to shortage
(R297, R299). -/
structure CalMeas where
  item : Nat
  part : Nat
  ch : Chan
  tries : List (List Int) := []
  lost : Nat := 0
  deriving DecidableEq, Repr

/-- A procedure running or staged (R301-R309). -/
structure Proc where
  /-- Tenant 0-7, or 8 for management. -/
  who : Fin 9
  code : Nat
  autoCommit : Bool
  allOrNothing : Bool
  items : Nat
  chans : BitVec 52
  staged : Bool := false
  frames : Nat := 0
  step : Nat := 1
  /-- Items under measurement (R297). -/
  meas : List CalMeas := []
  accepted : List CalItem := []
  kept : BitVec 52 := 0
  /-- FS-096 has been raised in this procedure (R298). -/
  disagreed : Bool := false
  /-- Staged results: channel, block in force at the measurement, new block (R308). -/
  results : List (Chan × Bytes × Bytes) := []
  deriving DecidableEq, Repr

/-- CAL_RESULT (R310). -/
structure CalResult where
  proc : Nat := 0
  state : Nat := 0
  reason : Nat := 0
  step : Nat := 0
  accepted : BitVec 52 := 0
  kept : BitVec 52 := 0
  epoch : Nat := 0
  frames : Nat := 0
  deriving DecidableEq, Repr

/-- A copy of an archive record as it is stored (R325, R327): the fields of its header, the payload and the check word (R326). -/
structure ArchCopy where
  typ : Nat
  key : Nat
  copyB : Bool
  version : Nat
  seq : Nat
  flags : Nat
  payload : Bytes
  check : Nat
  deriving DecidableEq, Repr

/-- A write that waits for its pulse (R327, R318, R330). -/
inductive NvWrite where
  /-- A record in copies A and B; `seq` is set when copy A is written. -/
  | record (typ key : Nat) (payload : Bytes) (copyB : Bool) (seq : Nat)
  | checkpoint (major ceiling : Nat) (continuation : Bool)
  | journal (counter seq value : Nat)
  | counter (counter seq value : Nat)
  deriving DecidableEq, Repr

/-- The first 12 bytes of a lifetime counter block (R330): LOW, HIGH, SEQ. -/
def lifeBytes (value seq : Nat) : Bytes := natLE 8 value ++ natLE 4 seq

/-- A lifetime counter block as it is stored (R330). -/
structure LifeCtr where
  value : Nat := 0
  seq : Nat := 0
  check : Nat := crc32c (lifeBytes value seq)
  deriving DecidableEq, Repr

/-- Bytes 0-27 of a journal entry (R330): SEQ, the counter number, the new value, and reserved bytes. -/
def journalBytes (counter seq value : Nat) : Bytes :=
  natLE 4 seq ++ natLE 1 counter ++ natLE 3 0 ++ natLE 8 value ++ natLE 8 0 ++ natLE 4 0

/-- A journal entry as it is stored (R330). -/
structure JournalEntry where
  counter : Nat
  seq : Nat
  value : Nat
  check : Nat := crc32c (journalBytes counter seq value)
  deriving DecidableEq, Repr

structure Cal where
  /-- Calibration epoch (R11, R317). -/
  major : Nat := 0
  minor : Nat := 0
  /-- The checkpoint's ceiling and flag (R318, R319). -/
  ceiling : Nat := 0
  continuation : Bool := false
  /-- Blocks in force by channel; a channel not listed holds the identity block (R328). -/
  corr : List (Nat × Bytes) := []
  /-- Set headers; the set blocks are the values of SET_CORR. -/
  sets : Vector SetHdr 4 := Vector.replicate 4 {}
  /-- Sensor reading and applied temperature, in units of 0.001 degrees C (R314), and the elements' difference. -/
  tSensor : Int := 0
  tApplied : Int := 0
  tDiff : Nat := 0
  sensorFault : Bool := false
  agreeRun : Nat := 0
  clamped : Bool := false
  /-- A re-application is computing or pending: frames pending, none while computing; and its blend (R314, R315). -/
  reapplyDue : Bool := false
  reapply : Option Nat := none
  reapplyLate : Bool := false
  proc : Option Proc := none
  results : Vector CalResult 9 := Vector.replicate 9 {}
  rtTime : Time96 := {}
  rtEpoch : Nat := 0
  due : Bool := false
  /-- A Landing has changed a temperature set since bring-up, SAVE_SETS or RESTORE (Table PL-3). -/
  setsChanged : Bool := false
  /-- Restored sets that land at the next frame edge (R329): the source, and the command's code. -/
  restoreDue : Option Nat := none
  /-- NV_STATUS and ARCHIVE_CMD_STATUS. -/
  nvStatus : BitVec 4 := 0
  cmd : Option Nat := none
  cmdStatus : Nat := 0
  arch : List ArchCopy := []
  /-- The ring of epoch checkpoints written, newest first: major, ceiling, CONTINUATION. Table CA-8 gives it 448 records of 64
  bytes. -/
  checkpoints : List (Nat × Nat × Bool) := []
  nvQueue : List NvWrite := []
  /-- A write pulse is in progress (R327, R523). -/
  pulse : Bool := false
  /-- Powered hours, heater hours, archive records written, roll-forwards. -/
  life : Vector LifeCtr 4 := Vector.replicate 4 {}
  /-- The last 64 journal entries, newest first. -/
  journal : List JournalEntry := []
  /-- Characterisation data of the archive: U_SS by channel, converter noise, settle time in ms. -/
  uSS : Vector (BitVec 64) 52 := Vector.replicate 52 0
  uConv : BitVec 64 := 0
  tSettle : Nat := 0
  /-- Uncertainty of TRIG_IN_DELAY by line (Table CA-6, u_src). -/
  trigInU : Vector (BitVec 64) 4 := Vector.replicate 4 0
  deriving DecidableEq, Repr

/-! ### Operating modes and the DC converter (chapter 15) -/

/-- DC_RESULT (Table OM-5). -/
structure DcResult where
  value : BitVec 64 := 0
  u : BitVec 64 := 0
  time : Time96 := {}
  source : Nat := 0
  invalid : Bool := false
  epochSpan : Bool := false
  traceSpan : Bool := false
  abandoned : Bool := false
  overrange : Bool := false
  valid : Bool := false
  et : BitVec 16 := 0
  deriving DecidableEq, Repr

/-- A conversion in progress (R471). -/
structure DcConv where
  /-- The tenant, or none for a housekeeping request. -/
  tenant : Option Tenant
  /-- Frames of settling and integration left. -/
  frames : Nat
  integ : Nat
  source : Nat
  /-- First integrated tick. -/
  tick : Nat
  /-- A channel source carried INVALID during the integration (R474), or was reset in the conversion (Table RB-5). -/
  invalid : Bool := false
  deriving DecidableEq, Repr

structure Modes where
  /-- The tenants' modes (R459). -/
  mode : Vector Nat 8 := Vector.replicate 8 0
  /-- DEVICE_MODE: 0, 10 or 11. -/
  device : Nat := 0
  /-- A SERVICE_REQ of 1 has been accepted; a write of 0 leaves M10 at the next edge (R477, R479). -/
  serviceReq : Bool := false
  serviceLeave : Bool := false
  dcQueued : Vector Bool 8 := Vector.replicate 8 false
  /-- Conversions completed in the present series. -/
  dcDone : Vector Nat 8 := Vector.replicate 8 0
  /-- Housekeeping requests for step SC1 that wait (R472). -/
  dcHouse : Nat := 0
  dcLast : Tenant := 7
  dc : Option DcConv := none
  dcResult : Vector DcResult 8 := Vector.replicate 8 {}
  deriving DecidableEq, Repr

/-! ### The Stairs and isothermal hold (chapter 16) -/

/-- What the save has written into the context area (R487): the dictionary's values, shadows and incomplete DOMAIN writes, the
engines' architectural state, the sequencers with their stacks and event-input queues, and, in the calibration part, the sets
and the blocks in force. The holding buffers and the BAR0 indices, which the endpoint keeps (R490), stay in `HostIf`. -/
structure Context where
  dict : Dict
  engines : Vector MicroEngine 9
  seqs : Vector Seq 8
  sets : Vector SetHdr 4
  corr : List (Nat × Bytes)
  deriving DecidableEq, Repr

structure Stairs where
  /-- STAIR_NOW. -/
  now : Nat := 0
  req : Vector Nat 8 := Vector.replicate 8 0
  mgmtReq : Nat := 0
  /-- STAIR_REQ_STATUS. -/
  status : Nat := 0
  /-- An accepted descent that the next edge executes: its target and FORCED (R494). -/
  accepted : Option (Nat × Bool) := none
  /-- A wake has begun: its cause (Table PL-5). -/
  waking : Option Nat := none
  /-- Milliseconds of Tahr at the entry into the Stair and at the wake. -/
  enteredMs : Nat := 0
  wakeMs : Nat := 0
  /-- The Stair left, for the WOKE record that the next edge makes: FROM, CAUSE, duration, flags. -/
  woke : Option (Nat × Nat × Nat × Nat) := none
  /-- A descent that a wake source cancelled, for the record of the next edge: its target and the cause (R496). -/
  cancelled : Option (Nat × Nat) := none
  /-- Milliseconds of the DWELL period left. -/
  dwell : Nat := 0
  /-- The context area from a descent to Stair 4 or deeper on (R487). -/
  context : Option Context := none
  deriving DecidableEq, Repr

structure Heater where
  code : Nat := 0
  /-- HEATER_STATE: 0 off, 1 servo, 2 warming, 3 limit. -/
  state : Nat := 0
  /-- Milliseconds in state 2, within the band, at a code limit, and since a limit cause was absent. -/
  stateMs : Nat := 0
  bandMs : Nat := 0
  edgeMs : Nat := 0
  absentMs : Nat := 0
  /-- HEATER_POWER, F64. -/
  power : BitVec 64 := 0
  /-- VHTR within its range, and the hottest monitoring sensor below 90 degrees C. -/
  vhtrOk : Bool := true
  hot : Bool := false
  /-- The setpoint last held (F64). -/
  tIso : BitVec 64 := 0
  /-- A step that fell due in a withheld tick waits (R281). -/
  frozen : Bool := false
  deriving DecidableEq, Repr

/-! ### Reset and bring-up (chapter 17) -/

/-- An accepted reset that waits for its edge (Table RB-1). -/
structure ResetReq where
  source : Nat
  /-- 0 power-on, 1 device, 2 tenant, 3 block, 4 management endpoint. -/
  reach : Nat
  target : Nat := 0
  busy : Bool := false
  merged : Bool := false
  /-- Held off by an archive write pulse (R523). -/
  heldOff : Bool := false
  deriving DecidableEq, Repr

/-- An entry of the reset-cause history (Table RB-2). -/
structure ResetEntry where
  source : Nat
  reach : Nat
  target : Nat
  flags : Nat
  time : Time96
  deriving DecidableEq, Repr

structure ResetCtl where
  /-- RESET_CAUSE, newest first, at most eight (R526). -/
  history : List ResetEntry := []
  requests : List ResetReq := []
  /-- BRINGUP_PHASE: 0-7, 8 Ready. -/
  phase : Nat := 0
  halted : Bool := false
  bringupTime : Nat := 0
  /-- A holding condition lasts (R513): VDD_AON, RESET_N, PWRGD. -/
  aonLow : Bool := false
  resetNLow : Bool := false
  pwrgdLow : Bool := false
  /-- The fuse map has been latched since power-on (R528, R529). -/
  fuseLatched : Bool := false
  backup : Vector (BitVec 32) 32 := Vector.replicate 32 0
  /-- RETAINED_MEM: address and byte, rising, zero bytes not listed. -/
  retained : List Host.Cell := []
  /-- RESET_KEY: 16 bytes, empty when none is installed. -/
  key : Bytes := []
  /-- Milliseconds of the watchdog count (R516). -/
  wdt : Nat := 0
  /-- FAULT records latched during bring-up, made at the first frame edge after Ready (R533). -/
  bootFaults : List FaultRec := []
  /-- The RESET_NOTICE of the last power-on or device reset, due at the first frame edge after Ready (R541): the entry and
  the transactions completed. -/
  notices : List (ResetEntry × Nat) := [({ source := 0, reach := 0, target := 0, flags := 0, time := {} }, 0)]
  deriving DecidableEq, Repr

/-! ### Serow, the flash and the loaded image (chapter 18) -/

/-- A FLASH_UPDATE in progress (R556, R557). -/
structure FlashUpd where
  slot : Fin 2
  total : Nat
  next : Nat
  header : Bytes
  deriving DecidableEq, Repr

structure Boot where
  /-- The bytes of slots A and B; bytes past the list read as 0xFF. -/
  flash : Vector Bytes 2 := Vector.replicate 2 []
  /-- BOOT_STATUS (Table BP-4). -/
  outcome : Nat := 0
  slot : Nat := 0
  reasonA : Nat := 0
  reasonB : Nat := 0
  updState : Nat := 0
  updReason : Nat := 0
  /-- The loaded image (R561). -/
  version : Nat := 0
  patchLevel : Nat := 0
  svn : Nat := 0
  microCount : Nat := 0
  nanoCount : Nat := 0
  matchCount : Nat := 0
  update : Option FlashUpd := none
  deriving DecidableEq, Repr

/-! ### The test port (chapter 21) -/

structure Jtag where
  /-- The TAP is out of Test-Logic-Reset. -/
  active : Bool := false
  /-- Instruction register (Table PK-5). -/
  ir : Nat := 0x01
  /-- Update latches of the boundary register; bit 0 is the cell next to TDI. -/
  boundary : BitVec 271 := 0
  /-- 0 functional pins, 1 driven from the boundary register, 2 held from it (CLAMP), 3 HIGHZ. -/
  pins : Nat := 0
  deriving DecidableEq, Repr


/-! ### Outputs of the block (the model's own field, notes/assumptions/7) -/

/-- What the block sends to the outside, in order. -/
inductive Output where
  /-- A change of a drive lane at its balls: channel, tick of the tick counter, fine offset, what the balls show from then on,
  and for an edge of the formatter its issue position in fine steps of the tick counter and the tap that delays it (R292). -/
  | drive (ch : Chan) (tick fine : Nat) (level : BallLevel) (issue : Option (Nat × Nat))
  /-- A discrete output changes at a tick: TRIG_OUT0-3, then ALIVE; no level is high impedance. -/
  | discrete (k : Fin 5) (tick : Nat) (level : Option Bool)
  /-- An ODP reply part: the port, the destination and the bytes of the UDP payload. -/
  | odpReply (port : Fin 2) (dst : Nat) (vlan : Option Nat) (payload : Bytes)
  /-- The answer of the dictionary to one item written directly (index, sub-index, status). -/
  | itemStatus (r : Req) (index sub status : Nat)
  /-- The answer of the dictionary to a read of one item (index, sub-index, status, value). -/
  | itemValue (r : Req) (index sub status : Nat) (value : Bytes)
  /-- An answer on MCTP: the tag, the message type, the command and the bytes after it. -/
  | mctp (tag msgType command : Nat) (body : Bytes)
  /-- A frame other than ODP sent by a port: the EtherType or protocol and its content. -/
  | netFrame (port : Fin 2) (proto : Nat) (dst : Nat) (vlan : Option Nat) (body : Bytes)
  /-- A posted write to host memory by PFt. -/
  | hostWrite (t : Tenant) (addr : Nat) (data : Bytes)
  /-- A memory read request to host memory by PFt: address and length. -/
  | hostRead (t : Tenant) (addr len : Nat)
  /-- An MSI-X message by PFt. -/
  | msix (t : Tenant) (vector : Nat) (addr data : Nat)
  /-- The completion of a request to PFt: status 0 success, 1 UR, 2 CA, 5 CRS, and its data. -/
  | completion (t : Tenant) (status : Nat) (data : Bytes)
  /-- A transition or instruction of boundary scan was answered with this register's value. -/
  | jtag (register value : Nat)
  deriving DecidableEq, Repr

/-- Faults of the model: no command stops the block, so no meaning raises one (safe). -/
inductive Fault where
  /-- Raised by no meaning. Safe: a stop allows nothing. -/
  | stopped
  deriving DecidableEq, Repr

/-- Refusals of the model. -/
inductive Refusal where
  /-- Raised only by an arm of exec whose command has no meaning yet. Safe: the model stops. -/
  | notModelled (mnemonic : String)
  deriving DecidableEq, Repr

/-- Everything but the stacked memory and the queue. -/
structure Dev where
  fuses : Fuses := {}
  tb : TimeBase := {}
  chans : Vector Channel 52 :=
    Vector.ofFn fun i => if h : i.val < 48 then { map := some ⟨i.val, h⟩ } else { st := .spare }
  /-- Frames for which results still carry INVALID after VREF_P was out of range (R75). -/
  vrefFrames : Nat := 0
  /-- Past places of the logical pins, newest first: the pin, the instant at which it left the channel, the channel. -/
  moves : List (Pin × Nat × Chan) := []
  /-- Retirements of the present tick that its end serves (R90): by faults, with the source, and by commands, with the cause;
  and the answers that wait for them. -/
  retireFaults : List (Chan × Nat) := []
  retireCmds : List (Chan × Nat) := []
  heldAnswers : List HeldAnswer := []
  seqs : Vector Seq 8 := Vector.replicate 8 {}
  /-- GF_STATE, and its value at the end of the last tick (R161). -/
  gf : BitVec 32 := 0
  gf0 : BitVec 32 := 0
  /-- Flag changes of the present tick (R161): SIGNALs by tenant, then writes. -/
  flagOps : List FlagOp := []
  /-- Sources that have had their event of the present tick at a tenant's event inputs (R162). -/
  tickEvents : List (Tenant × Nat) := []
  arb : Arb := {}
  dict : Dict := {}
  odp : Odp := {}
  host : Vector HostIf 8 := Vector.replicate 8 {}
  link : Link := {}
  mgmt : Mgmt := {}
  fc : Collector := {}
  rst : ResetCtl := {}
  cal : Cal := {}
  gallery : Vector Gallery 8 := Vector.replicate 8 {}
  acq : Vector Acq 8 := Vector.replicate 8 {}
  trigLines : Vector TrigLine 4 := Vector.replicate 4 {}
  /-- What the discrete outputs were last sent to show (the model's own field). -/
  discrete : Vector (Option Bool) 5 := Vector.replicate 5 none
  modes : Modes := {}
  stairs : Stairs := {}
  heater : Heater := {}
  micro : Micro := {}
  boot : Boot := {}
  jtag : Jtag := {}
  /-- Records wait for step 5 of the frame edge in progress (R24). -/
  atEdge : Bool := false
  edgeRecs : List EdgeRec := []
  /-- Records made in the present tick, which enter the holding buffers at its end (R414). -/
  tickRecs : List EdgeRec := []
  /-- What the block has sent, oldest first (the model's own field). -/
  out : List Output := []
  /-- The model's own count of free values used (notes/assumptions/2). -/
  freeCtr : Nat := 0
  deriving DecidableEq, Repr

structure State where
  dev : Dev := {}
  /-- The stacked memory: (address, byte) pairs, addresses rising, no entry equal to zero (R266). -/
  mem : List Host.Cell := []
  /-- Commands that wait, first in, first out. -/
  pending : List Instr := []
  deriving DecidableEq, Repr

/-- The machine right after reset: power-on, start of bring-up phase B0. -/
def State.reset : State := {}

end Sys2Proof.Machine
end

