-- ==== Sys2Proof/Machine/Dict.lean ====
section
/-! DEFINITION. The object dictionary's entries (Table OD-5 and the tables that Table OD-4 names) with their types,
access classes, rights and defaults, the catalogue of fault sources (Table FC-3), and the sorted sets of values. -/
namespace Sys2Proof.Machine

/-- Types of Table OD-1. `u n` and `i n` are n bytes wide; a string or a domain carries its maximum or its size (0 for
FLASH_UPDATE, which chapter 18 bounds). -/
inductive DType where
  | bool | u (n : Nat) | i (n : Nat) | f64 | time96 | dur64 | str (max : Nat) | record (n : Nat) | domain (n : Nat)
  deriving DecidableEq, Repr

/-- Access classes of Table OD-2. -/
inductive Access where
  | ro | rw | wo | rwc
  deriving DecidableEq, Repr

/-- Rights to write (R339). -/
structure Rights where
  own : Bool
  mgmt : Bool
  svc : Bool
  deriving DecidableEq, Repr

/-- A family of entries: the indices base, base + step, ... (count of them), sub-indices lo to hi. -/
structure EntryRow where
  base : Nat
  step : Nat
  count : Nat
  lo : Nat
  hi : Nat
  ty : DType
  acc : Access
  rights : Rights
  dflt : Bytes
  deriving DecidableEq, Repr

/-- `n` zero bytes. -/
def zeros (n : Nat) : Bytes := List.replicate n 0

/-- Entries VENDOR, PART, GRADE, STEPPING, SERIAL, DIE_ID, IMAGE_VERSION, PATCH_LEVEL, ROLLBACK_COUNT, DICT_VERSION, INDEX_COUNT, TENANT_CTRL, TENANT_BINDING, GROUP_OWNER. -/
def entryRows0 : List EntryRow :=
  [ ⟨0x1000, 1, 1, 0x00, 0x00, .str 16, .ro, ⟨false, false, false⟩, []⟩,
    ⟨0x1000, 1, 1, 0x01, 0x01, .str 16, .ro, ⟨false, false, false⟩, []⟩,
    ⟨0x1000, 1, 1, 0x02, 0x02, .u 1, .ro, ⟨false, false, false⟩, [0]⟩,
    ⟨0x1000, 1, 1, 0x03, 0x03, .u 2, .ro, ⟨false, false, false⟩, [0, 0]⟩,
    ⟨0x1000, 1, 1, 0x04, 0x04, .str 16, .ro, ⟨false, false, false⟩, []⟩,
    ⟨0x1000, 1, 1, 0x05, 0x05, .u 8, .ro, ⟨false, false, false⟩, zeros 8⟩,
    ⟨0x1001, 1, 1, 0x00, 0x00, .u 4, .ro, ⟨false, false, false⟩, [0, 0, 0, 0]⟩,
    ⟨0x1001, 1, 1, 0x01, 0x01, .u 2, .ro, ⟨false, false, false⟩, [0, 0]⟩,
    ⟨0x1001, 1, 1, 0x02, 0x02, .u 2, .ro, ⟨false, false, false⟩, [0, 0]⟩,
    ⟨0x1002, 1, 1, 0x00, 0x00, .u 2, .ro, ⟨false, false, false⟩, [0, 1]⟩,
    ⟨0x1002, 1, 1, 0x01, 0x01, .u 2, .ro, ⟨false, false, false⟩, [1, 0x3E]⟩,
    ⟨0x1100, 1, 1, 0x00, 0x07, .u 1, .rwc, ⟨false, true, false⟩, [0]⟩,
    ⟨0x1101, 1, 1, 0x00, 0x07, .record 16, .rwc, ⟨false, true, false⟩, zeros 16⟩,
    ⟨0x1102, 1, 1, 0x00, 0x0B, .u 1, .rwc, ⟨false, true, false⟩, [0xFF]⟩ ]

/-- Entries QUOTA, LOCK_STATE, LEASE_MAX, PORT_CFG, PORT_STATUS, IP_CFG, ODP_SESSION, ODP_KEY, PTP_ENABLE, PTP_PORT, PTP_DOMAIN, PTP_TRANSPORT, PTP_ROLE, PTP_PRIORITY1. -/
def entryRows1 : List EntryRow :=
  [ ⟨0x1103, 1, 1, 0x00, 0x07, .record 4, .rwc, ⟨false, true, false⟩, [0, 0, 0, 0]⟩,
    ⟨0x1108, 1, 1, 0x00, 0x21, .record 16, .ro, ⟨false, false, false⟩, zeros 16⟩,
    ⟨0x1109, 1, 1, 0x00, 0x00, .u 4, .rw, ⟨false, true, false⟩, [0, 9, 0x27, 0xC0]⟩,
    ⟨0x1200, 1, 1, 0x00, 0x01, .u 1, .rwc, ⟨false, true, false⟩, [8]⟩,
    ⟨0x1201, 1, 1, 0x00, 0x01, .u 2, .ro, ⟨false, false, false⟩, [0, 0]⟩,
    ⟨0x1202, 1, 1, 0x00, 0x01, .record 48, .rwc, ⟨false, true, false⟩, zeros 48⟩,
    ⟨0x1210, 1, 1, 0x00, 0x07, .record 16, .ro, ⟨false, false, false⟩, zeros 16⟩,
    ⟨0x1211, 1, 1, 0x00, 0x07, .domain 32, .wo, ⟨false, true, false⟩, []⟩,
    ⟨0x1280, 1, 1, 0x01, 0x01, .bool, .rwc, ⟨false, true, false⟩, [0]⟩,
    ⟨0x1280, 1, 1, 0x02, 0x02, .u 1, .rwc, ⟨false, true, false⟩, [0]⟩,
    ⟨0x1280, 1, 1, 0x03, 0x03, .u 1, .rwc, ⟨false, true, false⟩, [0]⟩,
    ⟨0x1280, 1, 1, 0x04, 0x04, .u 1, .rwc, ⟨false, true, false⟩, [0]⟩,
    ⟨0x1280, 1, 1, 0x05, 0x05, .u 1, .rwc, ⟨false, true, false⟩, [0]⟩,
    ⟨0x1280, 1, 1, 0x06, 0x06, .u 1, .rwc, ⟨false, true, false⟩, [0x80]⟩ ]

/-- Entries PTP_PRIORITY2, PTP_LOG_SYNC, PTP_LOG_DELAY_REQ, PTP_ASYMMETRY, PTP_LAT_INGRESS, PTP_LAT_EGRESS, PTP_PORT_STATE, PTP_OFFSET, PTP_MEAN_PATH_DELAY, PTP_GM_IDENTITY, PTP_STEPS_REMOVED, PTP_DISCARDS, SYNCE_PORT, SYNCE_MIN_QL. -/
def entryRows2 : List EntryRow :=
  [ ⟨0x1280, 1, 1, 0x07, 0x07, .u 1, .rwc, ⟨false, true, false⟩, [0x80]⟩,
    ⟨0x1280, 1, 1, 0x08, 0x08, .i 1, .rwc, ⟨false, true, false⟩, [0xFC]⟩,
    ⟨0x1280, 1, 1, 0x09, 0x09, .i 1, .rwc, ⟨false, true, false⟩, [0xFC]⟩,
    ⟨0x1280, 1, 1, 0x0A, 0x0A, .dur64, .rwc, ⟨false, true, false⟩, zeros 8⟩,
    ⟨0x1280, 1, 1, 0x0B, 0x0B, .dur64, .ro, ⟨false, false, false⟩, zeros 8⟩,
    ⟨0x1280, 1, 1, 0x0C, 0x0C, .dur64, .ro, ⟨false, false, false⟩, zeros 8⟩,
    ⟨0x1281, 1, 1, 0x01, 0x01, .u 1, .ro, ⟨false, false, false⟩, [1]⟩,
    ⟨0x1281, 1, 1, 0x02, 0x02, .dur64, .ro, ⟨false, false, false⟩, zeros 8⟩,
    ⟨0x1281, 1, 1, 0x03, 0x03, .dur64, .ro, ⟨false, false, false⟩, zeros 8⟩,
    ⟨0x1281, 1, 1, 0x04, 0x04, .u 8, .ro, ⟨false, false, false⟩, zeros 8⟩,
    ⟨0x1281, 1, 1, 0x05, 0x05, .u 2, .ro, ⟨false, false, false⟩, [0, 0]⟩,
    ⟨0x1281, 1, 1, 0x06, 0x06, .u 4, .ro, ⟨false, false, false⟩, [0, 0, 0, 0]⟩,
    ⟨0x1290, 1, 1, 0x01, 0x01, .u 1, .rwc, ⟨false, true, false⟩, [0]⟩,
    ⟨0x1290, 1, 1, 0x02, 0x02, .u 1, .rwc, ⟨false, true, false⟩, [2]⟩ ]

/-- Entries SYNCE_QL, PCIE_LINK, EVQ0_CFG–EVQ3_CFG, STREAM_RING, TIME_NOW, TICK_COUNT, TRACE_STATE, TRACE_SINCE, FREQ_SRC_ACTIVE, TOD_SRC_ACTIVE, U_Y, U_T, TOD_SET, UTC_OFFSET. -/
def entryRows3 : List EntryRow :=
  [ ⟨0x1290, 1, 1, 0x03, 0x03, .u 1, .ro, ⟨false, false, false⟩, [0x0F]⟩,
    ⟨0x1300, 1, 1, 0x00, 0x00, .u 2, .ro, ⟨false, false, false⟩, [0, 0]⟩,
    ⟨0x1310, 1, 4, 0x00, 0x07, .record 16, .rwc, ⟨true, false, false⟩, zeros 16⟩,
    ⟨0x1320, 1, 1, 0x00, 0x07, .record 16, .rwc, ⟨true, false, false⟩, zeros 16⟩,
    ⟨0x1400, 1, 1, 0x00, 0x00, .time96, .ro, ⟨false, false, false⟩, zeros 12⟩,
    ⟨0x1401, 1, 1, 0x00, 0x00, .u 8, .ro, ⟨false, false, false⟩, zeros 8⟩,
    ⟨0x1402, 1, 1, 0x01, 0x01, .u 1, .ro, ⟨false, false, false⟩, [2]⟩,
    ⟨0x1402, 1, 1, 0x02, 0x02, .time96, .ro, ⟨false, false, false⟩, zeros 12⟩,
    ⟨0x1402, 1, 1, 0x03, 0x03, .u 1, .ro, ⟨false, false, false⟩, [0]⟩,
    ⟨0x1402, 1, 1, 0x04, 0x04, .u 1, .ro, ⟨false, false, false⟩, [0]⟩,
    ⟨0x1402, 1, 1, 0x05, 0x05, .f64, .ro, ⟨false, false, false⟩, zeros 8⟩,
    ⟨0x1402, 1, 1, 0x06, 0x06, .f64, .ro, ⟨false, false, false⟩, zeros 8⟩,
    ⟨0x1403, 1, 1, 0x00, 0x00, .time96, .wo, ⟨false, true, false⟩, zeros 12⟩,
    ⟨0x1404, 1, 1, 0x00, 0x00, .i 2, .rw, ⟨false, true, false⟩, [0, 0x25]⟩ ]

/-- Entries REFIN_FREQ, FREQ_SRC_PRIORITY, TOD_SRC_PRIORITY, PPS_EDGE, PPS_CABLE_DELAY, STEP_THRESHOLD, HOLDOVER_LIMIT, U_LIMIT, SLEW_LIMIT, U_FREF, U_TOD, U_HOLD_F0, U_HOLD_DRIFT, U_FREE_F. -/
def entryRows4 : List EntryRow :=
  [ ⟨0x1410, 1, 1, 0x01, 0x01, .u 1, .rwc, ⟨false, true, false⟩, [0]⟩,
    ⟨0x1410, 1, 1, 0x02, 0x02, .u 1, .rwc, ⟨false, true, false⟩, [2]⟩,
    ⟨0x1410, 1, 1, 0x03, 0x03, .u 1, .rwc, ⟨false, true, false⟩, [0]⟩,
    ⟨0x1410, 1, 1, 0x04, 0x04, .u 1, .rwc, ⟨false, true, false⟩, [0]⟩,
    ⟨0x1410, 1, 1, 0x05, 0x05, .dur64, .rwc, ⟨false, true, false⟩, zeros 8⟩,
    ⟨0x1410, 1, 1, 0x06, 0x06, .dur64, .rwc, ⟨false, true, false⟩, [0, 0, 0, 0, 0, 0x15, 0xE0, 0]⟩,
    ⟨0x1410, 1, 1, 0x07, 0x07, .u 4, .rwc, ⟨false, true, false⟩, [0, 0, 0x0E, 0x10]⟩,
    ⟨0x1410, 1, 1, 0x08, 0x08, .f64, .rwc, ⟨false, true, false⟩, [0x3E, 0xB0, 0xC6, 0xF7, 0xA0, 0xB5, 0xED, 0x8D]⟩,
    ⟨0x1410, 1, 1, 0x09, 0x09, .f64, .rwc, ⟨false, true, false⟩, [0x3E, 0x45, 0x79, 0x8E, 0xE2, 0x30, 0x8C, 0x3A]⟩,
    ⟨0x1420, 1, 1, 0x01, 0x01, .f64, .rwc, ⟨false, true, false⟩, [0x3D, 0xA5, 0xFD, 0x7F, 0xE1, 0x79, 0x64, 0x95]⟩,
    ⟨0x1420, 1, 1, 0x02, 0x02, .f64, .rwc, ⟨false, true, false⟩, [0x3E, 0x45, 0x79, 0x8E, 0xE2, 0x30, 0x8C, 0x3A]⟩,
    ⟨0x1420, 1, 1, 0x03, 0x03, .f64, .rwc, ⟨false, true, false⟩, zeros 8⟩,
    ⟨0x1420, 1, 1, 0x04, 0x04, .f64, .rwc, ⟨false, true, false⟩, zeros 8⟩,
    ⟨0x1420, 1, 1, 0x05, 0x05, .f64, .rwc, ⟨false, true, false⟩, [0x3E, 0xD4, 0xF8, 0xB5, 0x88, 0xE3, 0x68, 0xF1]⟩ ]

/-- Entries ALARM_TIME_A, ALARM_TIME_B, ALARM_CTRL, ALARM_STATUS, ALARM_WAKE_LEAD, STAIR_NOW, STAIR_REQ, STAIR_REQ_STATUS, STAIR_POLICY, WAKE_ENABLE. -/
def entryRows5 : List EntryRow :=
  [ ⟨0x1440, 1, 1, 0x00, 0x07, .time96, .rwc, ⟨true, false, false⟩, zeros 12⟩,
    ⟨0x1440, 1, 1, 0x08, 0x08, .time96, .rwc, ⟨false, true, false⟩, zeros 12⟩,
    ⟨0x1441, 1, 1, 0x00, 0x07, .time96, .rwc, ⟨true, false, false⟩, zeros 12⟩,
    ⟨0x1441, 1, 1, 0x08, 0x08, .time96, .rwc, ⟨false, true, false⟩, zeros 12⟩,
    ⟨0x1442, 1, 1, 0x00, 0x07, .u 1, .rwc, ⟨true, false, false⟩, [0]⟩,
    ⟨0x1442, 1, 1, 0x08, 0x08, .u 1, .rwc, ⟨false, true, false⟩, [0]⟩,
    ⟨0x1443, 1, 1, 0x00, 0x07, .u 1, .ro, ⟨false, false, false⟩, [0]⟩,
    ⟨0x1443, 1, 1, 0x08, 0x08, .u 1, .ro, ⟨false, false, false⟩, [0]⟩,
    ⟨0x1444, 1, 1, 0x00, 0x00, .u 4, .rw, ⟨false, true, false⟩, [0, 0, 0, 0]⟩,
    ⟨0x1500, 1, 1, 0x00, 0x00, .u 1, .ro, ⟨false, false, false⟩, [0]⟩,
    ⟨0x1500, 1, 1, 0x01, 0x01, .u 1, .wo, ⟨false, false, false⟩, [0]⟩,
    ⟨0x1500, 1, 1, 0x02, 0x02, .u 1, .ro, ⟨false, false, false⟩, [0]⟩,
    ⟨0x1501, 1, 1, 0x00, 0x00, .record 16, .rwc, ⟨false, true, false⟩, zeros 16⟩,
    ⟨0x1502, 1, 1, 0x00, 0x00, .u 2, .rwc, ⟨false, true, false⟩, [0, 0x7F]⟩ ]

/-- Entries ISO_ENABLE, ISO_SETPOINT, ISO_STORAGE_SETPOINT, HEATER_POWER, HEATER_STATE, RESET_CAUSE, BRINGUP_PHASE, BRINGUP_TIME, BACKUP_REG, RETAINED_MEM, BLOCK_RESET, WATCHDOG_TIMEOUT, WATCHDOG_KICK, RESET_KEY. -/
def entryRows6 : List EntryRow :=
  [ ⟨0x1510, 1, 1, 0x00, 0x00, .bool, .rwc, ⟨false, true, false⟩, [0]⟩,
    ⟨0x1510, 1, 1, 0x01, 0x01, .f64, .rwc, ⟨false, true, false⟩, [0x40, 0x50, 0x40, 0, 0, 0, 0, 0]⟩,
    ⟨0x1510, 1, 1, 0x02, 0x02, .f64, .rwc, ⟨false, true, false⟩, [0x40, 0x50, 0x40, 0, 0, 0, 0, 0]⟩,
    ⟨0x1511, 1, 1, 0x00, 0x00, .f64, .ro, ⟨false, false, false⟩, zeros 8⟩,
    ⟨0x1511, 1, 1, 0x01, 0x01, .u 1, .ro, ⟨false, false, false⟩, [0]⟩,
    ⟨0x1600, 1, 1, 0x00, 0x07, .record 16, .ro, ⟨false, false, false⟩, zeros 16⟩,
    ⟨0x1601, 1, 1, 0x00, 0x00, .u 1, .ro, ⟨false, false, false⟩, [8]⟩,
    ⟨0x1601, 1, 1, 0x01, 0x01, .u 4, .ro, ⟨false, false, false⟩, [0, 0, 0, 0]⟩,
    ⟨0x1602, 1, 1, 0x00, 0x1F, .u 4, .rw, ⟨false, true, false⟩, [0, 0, 0, 0]⟩,
    ⟨0x1603, 1, 1, 0x00, 0x00, .domain 8192, .rw, ⟨false, true, false⟩, []⟩,
    ⟨0x1604, 1, 1, 0x00, 0x65, .bool, .wo, ⟨false, true, false⟩, [0]⟩,
    ⟨0x1605, 1, 1, 0x00, 0x00, .u 4, .rw, ⟨false, true, false⟩, [0, 0, 0, 0]⟩,
    ⟨0x1605, 1, 1, 0x01, 0x01, .bool, .wo, ⟨false, true, false⟩, [0]⟩,
    ⟨0x1605, 1, 1, 0x02, 0x02, .domain 16, .wo, ⟨false, true, false⟩, []⟩ ]

/-- Entries BOOT_STATUS, PATCH_INFO, FLASH_UPDATE, FC_FIRST, FC_OVERFLOW, FC_PINS, FC_LAST_RECORD, FC_CLEAR, FS_REACTION, FS_STATE, FS_COUNT, BANK_OWNER, ECC_CORRECTED, ECC_UNCORRECTABLE. -/
def entryRows7 : List EntryRow :=
  [ ⟨0x1700, 1, 1, 0x00, 0x00, .u 4, .ro, ⟨false, false, false⟩, [0, 0, 0, 0]⟩,
    ⟨0x1701, 1, 1, 0x00, 0x00, .record 16, .ro, ⟨false, false, false⟩, zeros 16⟩,
    ⟨0x1702, 1, 1, 0x00, 0x00, .domain 0, .wo, ⟨false, false, true⟩, []⟩,
    ⟨0x1800, 1, 1, 0x00, 0x00, .u 2, .ro, ⟨false, false, false⟩, [0xFF, 0xFF]⟩,
    ⟨0x1800, 1, 1, 0x01, 0x01, .bool, .ro, ⟨false, false, false⟩, [0]⟩,
    ⟨0x1800, 1, 1, 0x02, 0x02, .u 1, .ro, ⟨false, false, false⟩, [1]⟩,
    ⟨0x1801, 1, 1, 0x00, 0x00, .record 32, .ro, ⟨false, false, false⟩, zeros 32⟩,
    ⟨0x1802, 1, 1, 0x00, 0x00, .u 1, .wo, ⟨true, true, false⟩, [0]⟩,
    ⟨0x1810, 1, 1, 0x00, 0x7F, .u 1, .rwc, ⟨false, true, false⟩, [0]⟩,
    ⟨0x1811, 1, 1, 0x00, 0x7F, .u 1, .ro, ⟨false, false, false⟩, [0]⟩,
    ⟨0x1812, 1, 1, 0x00, 0x7F, .u 4, .ro, ⟨false, false, false⟩, [0, 0, 0, 0]⟩,
    ⟨0x1900, 1, 1, 0x00, 0x3F, .u 1, .ro, ⟨false, false, false⟩, [0xFF]⟩,
    ⟨0x1901, 1, 1, 0x00, 0x00, .u 4, .ro, ⟨false, false, false⟩, [0, 0, 0, 0]⟩,
    ⟨0x1901, 1, 1, 0x01, 0x01, .u 4, .ro, ⟨false, false, false⟩, [0, 0, 0, 0]⟩ ]

/-- Entries ECC_LAST_ADDR, SCRUB_PASS_LIMIT, SCRUB_PASS_MAX, SCRUB_PASSES, STREAM_RESERVE, RAW_CMP, QUIET_GUARD_PRE, QUIET_GUARD_POST, QUIET_QUOTA, QUIET_ON_USE, QUIET_DEMAND, QUIET_LATE_GUARDS, QUIET_OVERRUNS, BANK_DEMAND. -/
def entryRows8 : List EntryRow :=
  [ ⟨0x1901, 1, 1, 0x02, 0x02, .u 4, .ro, ⟨false, false, false⟩, [0, 0, 0, 0]⟩,
    ⟨0x1902, 1, 1, 0x00, 0x00, .u 4, .rw, ⟨false, true, false⟩, [0, 0, 3, 0xE8]⟩,
    ⟨0x1902, 1, 1, 0x01, 0x01, .u 4, .ro, ⟨false, false, false⟩, [0, 0, 0, 0]⟩,
    ⟨0x1902, 1, 1, 0x02, 0x02, .u 4, .ro, ⟨false, false, false⟩, [0, 0, 0, 0]⟩,
    ⟨0x1910, 1, 1, 0x00, 0x07, .u 2, .rwc, ⟨false, true, false⟩, [0, 0]⟩,
    ⟨0x1911, 1, 1, 0x00, 0x07, .bool, .rwc, ⟨true, false, false⟩, [1]⟩,
    ⟨0x1920, 1, 1, 0x00, 0x00, .u 1, .rwc, ⟨false, true, false⟩, [4]⟩,
    ⟨0x1920, 1, 1, 0x01, 0x01, .u 1, .rwc, ⟨false, true, false⟩, [2]⟩,
    ⟨0x1921, 1, 1, 0x00, 0x07, .u 2, .rwc, ⟨false, true, false⟩, [0, 0]⟩,
    ⟨0x1922, 1, 1, 0x00, 0x07, .bool, .rwc, ⟨true, false, false⟩, [0]⟩,
    ⟨0x1923, 1, 1, 0x00, 0x07, .u 2, .ro, ⟨false, false, false⟩, [0, 0]⟩,
    ⟨0x1924, 1, 1, 0x00, 0x07, .u 4, .ro, ⟨false, false, false⟩, [0, 0, 0, 0]⟩,
    ⟨0x1925, 1, 1, 0x00, 0x07, .u 4, .ro, ⟨false, false, false⟩, [0, 0, 0, 0]⟩,
    ⟨0x1930, 1, 1, 0x00, 0x3F, .u 2, .ro, ⟨false, false, false⟩, [0, 0]⟩ ]

/-- Entries CLASS_DEMAND, ADMIT_LAST, BREACH_COUNT, BREACH_LAST, MODE_REQ, MODE, COMMIT_STATE, COMMIT_COUNT, LAST_LANDING, LAST_COMMIT_STATUS, SHADOW_COUNT, SEQ_CTRL, SEQ_IMAGE_BASE, SEQ_ENTRY. -/
def entryRows9 : List EntryRow :=
  [ ⟨0x1931, 1, 1, 0x00, 0x0A, .u 4, .ro, ⟨false, false, false⟩, [0, 0, 0, 0]⟩,
    ⟨0x1932, 1, 1, 0x00, 0x00, .record 16, .ro, ⟨false, false, false⟩, zeros 16⟩,
    ⟨0x1940, 1, 1, 0x00, 0x0A, .u 4, .ro, ⟨false, false, false⟩, [0, 0, 0, 0]⟩,
    ⟨0x1941, 1, 1, 0x00, 0x00, .record 12, .ro, ⟨false, false, false⟩, zeros 12⟩,
    ⟨0x2000, 256, 8, 0x00, 0x00, .u 1, .rwc, ⟨true, false, false⟩, [0]⟩,
    ⟨0x2000, 256, 8, 0x01, 0x01, .u 1, .ro, ⟨false, false, false⟩, [0]⟩,
    ⟨0x2001, 256, 8, 0x00, 0x00, .u 1, .ro, ⟨false, false, false⟩, [0]⟩,
    ⟨0x2001, 256, 8, 0x01, 0x01, .u 4, .ro, ⟨false, false, false⟩, [0, 0, 0, 0]⟩,
    ⟨0x2001, 256, 8, 0x02, 0x02, .time96, .ro, ⟨false, false, false⟩, zeros 12⟩,
    ⟨0x2001, 256, 8, 0x03, 0x03, .u 1, .ro, ⟨false, false, false⟩, [0]⟩,
    ⟨0x2001, 256, 8, 0x04, 0x04, .u 2, .ro, ⟨false, false, false⟩, [0, 0]⟩,
    ⟨0x2010, 256, 8, 0x00, 0x00, .u 1, .rwc, ⟨true, false, false⟩, [0]⟩,
    ⟨0x2010, 256, 8, 0x01, 0x01, .u 4, .rwc, ⟨true, false, false⟩, [0, 0, 0, 0]⟩,
    ⟨0x2010, 256, 8, 0x02, 0x02, .u 4, .rwc, ⟨true, false, false⟩, [0, 0, 0, 0]⟩ ]

/-- Entries DEADLOCK_REACTION, SEQ_STATE, SEQ_PC, SEQ_ERROR, SEQ_ERROR_PC, SEQ_SLACK_MIN, SEQ_VECTORS, SEQ_IDLE, SEQ_COND, STREAM_GAP_TICKS, STALL_TICKS, SEQ_COUNTER, LOOP_COUNT, LOOP_DEPTH. -/
def entryRows10 : List EntryRow :=
  [ ⟨0x2010, 256, 8, 0x03, 0x03, .u 1, .rw, ⟨true, false, false⟩, [0]⟩,
    ⟨0x2011, 256, 8, 0x00, 0x00, .u 1, .ro, ⟨false, false, false⟩, [0]⟩,
    ⟨0x2011, 256, 8, 0x01, 0x01, .u 4, .ro, ⟨false, false, false⟩, [0, 0, 0, 0]⟩,
    ⟨0x2011, 256, 8, 0x02, 0x02, .u 1, .ro, ⟨false, false, false⟩, [0]⟩,
    ⟨0x2011, 256, 8, 0x03, 0x03, .u 4, .ro, ⟨false, false, false⟩, [0, 0, 0, 0]⟩,
    ⟨0x2011, 256, 8, 0x04, 0x04, .u 2, .ro, ⟨false, false, false⟩, [0, 0x40]⟩,
    ⟨0x2011, 256, 8, 0x05, 0x05, .u 8, .ro, ⟨false, false, false⟩, zeros 8⟩,
    ⟨0x2011, 256, 8, 0x06, 0x06, .bool, .ro, ⟨false, false, false⟩, [1]⟩,
    ⟨0x2011, 256, 8, 0x07, 0x07, .u 1, .ro, ⟨false, false, false⟩, [0]⟩,
    ⟨0x2011, 256, 8, 0x08, 0x08, .u 8, .ro, ⟨false, false, false⟩, zeros 8⟩,
    ⟨0x2011, 256, 8, 0x09, 0x09, .u 2, .ro, ⟨false, false, false⟩, [0, 0]⟩,
    ⟨0x2012, 256, 8, 0x00, 0x07, .u 4, .ro, ⟨false, false, false⟩, [0, 0, 0, 0]⟩,
    ⟨0x2013, 256, 8, 0x00, 0x07, .u 4, .ro, ⟨false, false, false⟩, [0, 0, 0, 0]⟩,
    ⟨0x2013, 256, 8, 0x08, 0x08, .u 1, .ro, ⟨false, false, false⟩, [0]⟩ ]

/-- Entries CALL_DEPTH, TF_STATE, TF_SET, TF_CLEAR, GF_GRANT, GF_STATE, GF_SET, GF_CLEAR, EI_BIND, EI_COUNT, EI_INJECT, EI_SATURATED, TRIGOUT_GRANT, CH_MAP. -/
def entryRows11 : List EntryRow :=
  [ ⟨0x2013, 256, 8, 0x09, 0x09, .u 1, .ro, ⟨false, false, false⟩, [0]⟩,
    ⟨0x2018, 256, 8, 0x00, 0x00, .u 2, .ro, ⟨false, false, false⟩, [0, 0]⟩,
    ⟨0x2018, 256, 8, 0x01, 0x01, .u 2, .wo, ⟨true, true, false⟩, [0, 0]⟩,
    ⟨0x2018, 256, 8, 0x02, 0x02, .u 2, .wo, ⟨true, true, false⟩, [0, 0]⟩,
    ⟨0x2020, 256, 8, 0x00, 0x00, .u 4, .rwc, ⟨false, true, false⟩, [0, 0, 0, 0]⟩,
    ⟨0x2021, 256, 8, 0x00, 0x00, .u 4, .ro, ⟨false, false, false⟩, [0, 0, 0, 0]⟩,
    ⟨0x2021, 256, 8, 0x01, 0x01, .u 4, .wo, ⟨true, true, false⟩, [0, 0, 0, 0]⟩,
    ⟨0x2021, 256, 8, 0x02, 0x02, .u 4, .wo, ⟨true, true, false⟩, [0, 0, 0, 0]⟩,
    ⟨0x2024, 256, 8, 0x00, 0x07, .u 2, .rwc, ⟨true, false, false⟩, [0xFF, 0xFF]⟩,
    ⟨0x2025, 256, 8, 0x00, 0x07, .u 2, .ro, ⟨false, false, false⟩, [0, 0]⟩,
    ⟨0x2026, 256, 8, 0x00, 0x07, .bool, .wo, ⟨true, true, false⟩, [0]⟩,
    ⟨0x2027, 256, 8, 0x00, 0x07, .u 4, .ro, ⟨false, false, false⟩, [0, 0, 0, 0]⟩,
    ⟨0x202C, 256, 8, 0x00, 0x00, .u 1, .rwc, ⟨false, true, false⟩, [0]⟩,
    ⟨0x3000, 1, 1, 0x00, 0x33, .u 1, .ro, ⟨false, false, false⟩, [0]⟩ ]

/-- Entries CH_STATE, CH_OWNER, DRV_MODE, LANE_SWING, LANE_VTT, DRV_OFF_STATE, FUSE_STATE, RX_TERM, THR_HIGH, THR_LOW, THR_HYST, SAMPLE_PHASE, LOOPBACK, LOOP_ISOLATE. -/
def entryRows12 : List EntryRow :=
  [ ⟨0x3001, 1, 1, 0x00, 0x33, .u 1, .ro, ⟨false, false, false⟩, [1]⟩,
    ⟨0x3002, 1, 1, 0x00, 0x33, .u 1, .ro, ⟨false, false, false⟩, [0xFF]⟩,
    ⟨0x3003, 1, 1, 0x00, 0x33, .u 1, .rwc, ⟨true, false, false⟩, [0]⟩,
    ⟨0x3004, 1, 1, 0x00, 0x33, .u 2, .rwc, ⟨true, false, false⟩, [3, 0x20]⟩,
    ⟨0x3005, 1, 1, 0x00, 0x33, .u 2, .rwc, ⟨true, false, false⟩, [0, 0]⟩,
    ⟨0x3006, 1, 1, 0x00, 0x33, .u 1, .rwc, ⟨true, false, false⟩, [1]⟩,
    ⟨0x3007, 1, 1, 0x00, 0x33, .u 1, .ro, ⟨false, false, false⟩, [0]⟩,
    ⟨0x3008, 1, 1, 0x00, 0x33, .u 1, .rwc, ⟨true, false, false⟩, [1]⟩,
    ⟨0x3009, 1, 1, 0x00, 0x33, .i 2, .rwc, ⟨true, false, false⟩, [1, 0x90]⟩,
    ⟨0x300A, 1, 1, 0x00, 0x33, .i 2, .rwc, ⟨true, false, false⟩, [0xFE, 0x70]⟩,
    ⟨0x300B, 1, 1, 0x00, 0x33, .u 1, .rwc, ⟨true, false, false⟩, [0]⟩,
    ⟨0x300C, 1, 1, 0x00, 0x33, .u 1, .rwc, ⟨true, false, false⟩, [0x40]⟩,
    ⟨0x300D, 1, 1, 0x00, 0x33, .u 1, .rwc, ⟨true, true, false⟩, [0]⟩,
    ⟨0x300E, 1, 1, 0x00, 0x33, .bool, .rwc, ⟨true, false, false⟩, [1]⟩ ]

/-- Entries CH_RETIRE, CH_READMIT, READMIT_TIMEOUT, CH_DISABLE, RETIRE_CAUSE, RUNT_COUNT, INCONSIST_COUNT, DRV_LIMIT_COUNT, CH_IDLE, TSET_PIN, TSET_PERIOD, TSET_ATTR, TSET_CHECK, FG_CTRL. -/
def entryRows13 : List EntryRow :=
  [ ⟨0x3010, 1, 1, 0x00, 0x33, .u 1, .wo, ⟨true, true, false⟩, [0]⟩,
    ⟨0x3011, 1, 1, 0x00, 0x33, .u 1, .wo, ⟨true, true, false⟩, [0]⟩,
    ⟨0x3012, 1, 1, 0x00, 0x33, .u 4, .rw, ⟨false, true, false⟩, [0, 0, 0xEA, 0x60]⟩,
    ⟨0x3013, 1, 1, 0x00, 0x33, .bool, .rwc, ⟨false, true, false⟩, [0]⟩,
    ⟨0x3014, 1, 1, 0x00, 0x33, .u 2, .ro, ⟨false, false, false⟩, [0, 0]⟩,
    ⟨0x3018, 1, 1, 0x00, 0x33, .u 4, .rw, ⟨false, true, false⟩, [0, 0, 0, 0]⟩,
    ⟨0x3019, 1, 1, 0x00, 0x33, .u 4, .rw, ⟨false, true, false⟩, [0, 0, 0, 0]⟩,
    ⟨0x301A, 1, 1, 0x00, 0x33, .u 4, .rw, ⟨false, true, false⟩, [0, 0, 0, 0]⟩,
    ⟨0x301C, 1, 1, 0x00, 0x33, .bool, .ro, ⟨false, false, false⟩, [1]⟩,
    ⟨0x4000, 1, 512, 0x00, 0x2F, .record 28, .rwc, ⟨true, false, false⟩, zeros 28⟩,
    ⟨0x4000, 1, 512, 0x40, 0x40, .u 4, .rwc, ⟨true, false, false⟩, [0, 0, 0x20, 0]⟩,
    ⟨0x4000, 1, 512, 0x41, 0x41, .u 1, .rwc, ⟨true, false, false⟩, [1]⟩,
    ⟨0x4000, 1, 512, 0x42, 0x42, .u 4, .ro, ⟨false, false, false⟩, [0, 0, 0, 0]⟩,
    ⟨0x5000, 16, 8, 0x00, 0x00, .u 1, .rwc, ⟨true, false, false⟩, [0]⟩ ]

/-- Entries FG_MODE, FG_REC_N, FG_BITMAP_START, FG_BITMAP_LEN, FG_FAIL_LIMIT, FG_LIMIT_REACTION, FG_STATUS, FG_REC_COUNT, FG_REC_DROPPED, FG_REC_CAPACITY, FG_BITMAP_ROWS, FG_TOTAL_FAILS, FG_TORN_REPAIRS, FG_WRITES_DROPPED. -/
def entryRows14 : List EntryRow :=
  [ ⟨0x5000, 16, 8, 0x01, 0x01, .u 1, .rwc, ⟨true, false, false⟩, [0]⟩,
    ⟨0x5000, 16, 8, 0x02, 0x02, .u 4, .rwc, ⟨true, false, false⟩, [0, 0, 4, 0]⟩,
    ⟨0x5000, 16, 8, 0x03, 0x03, .u 8, .rwc, ⟨true, false, false⟩, zeros 8⟩,
    ⟨0x5000, 16, 8, 0x04, 0x04, .u 4, .rwc, ⟨true, false, false⟩, [0, 0, 0, 0]⟩,
    ⟨0x5000, 16, 8, 0x05, 0x05, .u 8, .rwc, ⟨true, false, false⟩, zeros 8⟩,
    ⟨0x5000, 16, 8, 0x06, 0x06, .u 1, .rwc, ⟨true, false, false⟩, [0]⟩,
    ⟨0x5001, 16, 8, 0x00, 0x00, .u 1, .ro, ⟨false, false, false⟩, [0]⟩,
    ⟨0x5001, 16, 8, 0x01, 0x01, .u 4, .ro, ⟨false, false, false⟩, [0, 0, 0, 0]⟩,
    ⟨0x5001, 16, 8, 0x02, 0x02, .u 8, .ro, ⟨false, false, false⟩, zeros 8⟩,
    ⟨0x5001, 16, 8, 0x03, 0x03, .u 4, .ro, ⟨false, false, false⟩, [0, 0, 0, 0]⟩,
    ⟨0x5001, 16, 8, 0x04, 0x04, .u 4, .ro, ⟨false, false, false⟩, [0, 0, 0, 0]⟩,
    ⟨0x5001, 16, 8, 0x05, 0x05, .u 8, .ro, ⟨false, false, false⟩, zeros 8⟩,
    ⟨0x5001, 16, 8, 0x06, 0x06, .u 4, .ro, ⟨false, false, false⟩, [0, 0, 0, 0]⟩,
    ⟨0x5001, 16, 8, 0x07, 0x07, .u 4, .ro, ⟨false, false, false⟩, [0, 0, 0, 0]⟩ ]

/-- Entries FG_MARKERS, FG_IDLE, FAIL_COUNT, INVALID_COMPARES, ACQ_CTRL, ACQ_KIND, ACQ_REDUCE, ACQ_REDUCE_SEL, ACQ_INTERVAL, ACQ_PRE, ACQ_POST, ACQ_SEGMENTS, ACQ_PIN_MASK, ACQ_TIE_SEL. -/
def entryRows15 : List EntryRow :=
  [ ⟨0x5001, 16, 8, 0x08, 0x08, .u 4, .ro, ⟨false, false, false⟩, [0, 0, 0, 0]⟩,
    ⟨0x5001, 16, 8, 0x09, 0x09, .bool, .ro, ⟨false, false, false⟩, [1]⟩,
    ⟨0x5002, 16, 8, 0x00, 0x2F, .u 8, .ro, ⟨false, false, false⟩, zeros 8⟩,
    ⟨0x5003, 16, 8, 0x00, 0x2F, .u 4, .ro, ⟨false, false, false⟩, [0, 0, 0, 0]⟩,
    ⟨0x5100, 16, 8, 0x00, 0x00, .u 1, .rwc, ⟨true, false, false⟩, [0]⟩,
    ⟨0x5100, 16, 8, 0x01, 0x01, .u 1, .rwc, ⟨true, false, false⟩, [1]⟩,
    ⟨0x5100, 16, 8, 0x02, 0x02, .u 1, .rwc, ⟨true, false, false⟩, [0]⟩,
    ⟨0x5100, 16, 8, 0x03, 0x03, .u 4, .rwc, ⟨true, false, false⟩, [0, 0, 0, 0]⟩,
    ⟨0x5100, 16, 8, 0x04, 0x04, .u 2, .rwc, ⟨true, false, false⟩, [0, 1]⟩,
    ⟨0x5100, 16, 8, 0x05, 0x05, .u 4, .rwc, ⟨true, false, false⟩, [0, 0, 0, 0]⟩,
    ⟨0x5100, 16, 8, 0x06, 0x06, .u 4, .rwc, ⟨true, false, false⟩, [0, 0, 0, 0]⟩,
    ⟨0x5100, 16, 8, 0x07, 0x07, .u 2, .rwc, ⟨true, false, false⟩, [0, 1]⟩,
    ⟨0x5100, 16, 8, 0x08, 0x08, .u 8, .rwc, ⟨true, false, false⟩, zeros 8⟩,
    ⟨0x5100, 16, 8, 0x09, 0x09, .u 1, .rwc, ⟨true, false, false⟩, [2]⟩ ]

/-- Entries ACQ_TIE_UI, ACQ_TIE_EDGES, ACQ_HIST_LO, ACQ_HIST_BIN, ACQ_EVENTS, TRIG_MODE, TRIG_SRC_A, TRIG_SRC_B, TRIG_COUNT, TRIG_WINDOW, TRIG_DELAY, TRIG_PAT_MODE, TRIG_IN_ARM, TRIG_IN_EDGE. -/
def entryRows16 : List EntryRow :=
  [ ⟨0x5100, 16, 8, 0x0A, 0x0A, .u 8, .rwc, ⟨true, false, false⟩, zeros 8⟩,
    ⟨0x5100, 16, 8, 0x0B, 0x0B, .u 1, .rwc, ⟨true, false, false⟩, [2]⟩,
    ⟨0x5100, 16, 8, 0x0C, 0x0C, .i 4, .rwc, ⟨true, false, false⟩, [0, 0, 0, 0]⟩,
    ⟨0x5100, 16, 8, 0x0D, 0x0D, .u 4, .rwc, ⟨true, false, false⟩, [0, 0, 0, 1]⟩,
    ⟨0x5100, 16, 8, 0x0E, 0x0E, .u 1, .rwc, ⟨true, false, false⟩, [1]⟩,
    ⟨0x5101, 16, 8, 0x00, 0x00, .u 1, .rwc, ⟨true, false, false⟩, [0]⟩,
    ⟨0x5101, 16, 8, 0x01, 0x01, .u 1, .rwc, ⟨true, false, false⟩, [0]⟩,
    ⟨0x5101, 16, 8, 0x02, 0x02, .u 1, .rwc, ⟨true, false, false⟩, [0]⟩,
    ⟨0x5101, 16, 8, 0x03, 0x03, .u 4, .rwc, ⟨true, false, false⟩, [0, 0, 0, 1]⟩,
    ⟨0x5101, 16, 8, 0x04, 0x04, .u 4, .rwc, ⟨true, false, false⟩, [0, 0, 0, 0]⟩,
    ⟨0x5101, 16, 8, 0x05, 0x05, .dur64, .rwc, ⟨true, false, false⟩, zeros 8⟩,
    ⟨0x5101, 16, 8, 0x06, 0x06, .u 1, .rwc, ⟨true, false, false⟩, [0]⟩,
    ⟨0x5101, 16, 8, 0x07, 0x07, .u 1, .rwc, ⟨true, false, false⟩, [0]⟩,
    ⟨0x5101, 16, 8, 0x08, 0x08, .u 1, .rwc, ⟨true, false, false⟩, [0]⟩ ]

/-- Entries ACQ_TRIGOUT_MASK, ACQ_TRIGOUT_WIDTH, ACQ_FORCE, TRIG_PAT_A, TRIG_PAT_B, ACQ_STATE, ACQ_SEG_DONE, ACQ_TRIG_IGNORED, ACQ_SEG_BYTES, ACQ_SEG_CAPACITY, ACQ_LOST_BLOCKS, ACQ_EDGE_EXCESS, TRIG_IN_EXCESS, ACQ_IDLE. -/
def entryRows17 : List EntryRow :=
  [ ⟨0x5101, 16, 8, 0x09, 0x09, .u 1, .rwc, ⟨true, false, false⟩, [0]⟩,
    ⟨0x5101, 16, 8, 0x0A, 0x0A, .u 2, .rwc, ⟨true, false, false⟩, [0, 1]⟩,
    ⟨0x5101, 16, 8, 0x0B, 0x0B, .bool, .wo, ⟨true, false, false⟩, [0]⟩,
    ⟨0x5102, 16, 8, 0x00, 0x2F, .u 1, .rwc, ⟨true, false, false⟩, [0]⟩,
    ⟨0x5103, 16, 8, 0x00, 0x2F, .u 1, .rwc, ⟨true, false, false⟩, [0]⟩,
    ⟨0x5104, 16, 8, 0x00, 0x00, .u 1, .ro, ⟨false, false, false⟩, [0]⟩,
    ⟨0x5104, 16, 8, 0x01, 0x01, .u 4, .ro, ⟨false, false, false⟩, [0, 0, 0, 0]⟩,
    ⟨0x5104, 16, 8, 0x02, 0x02, .u 4, .ro, ⟨false, false, false⟩, [0, 0, 0, 0]⟩,
    ⟨0x5104, 16, 8, 0x03, 0x03, .u 4, .ro, ⟨false, false, false⟩, [0, 0, 0, 0]⟩,
    ⟨0x5104, 16, 8, 0x04, 0x04, .u 4, .ro, ⟨false, false, false⟩, [0, 0, 0, 0]⟩,
    ⟨0x5104, 16, 8, 0x05, 0x05, .u 4, .ro, ⟨false, false, false⟩, [0, 0, 0, 0]⟩,
    ⟨0x5104, 16, 8, 0x06, 0x06, .u 4, .ro, ⟨false, false, false⟩, [0, 0, 0, 0]⟩,
    ⟨0x5104, 16, 8, 0x07, 0x07, .u 4, .ro, ⟨false, false, false⟩, [0, 0, 0, 0]⟩,
    ⟨0x5104, 16, 8, 0x08, 0x08, .bool, .ro, ⟨false, false, false⟩, [1]⟩ ]

/-- Entries TRIG_IN_DELAY, CAL_EPOCH, CAL_STATUS, T_SENSOR, T_APPLIED, SET_COUNT, SET_SETPOINT, REAPPLY_STEP, REAPPLY_DEFER_MAX, TC_RES, TC_OUT, TOL_TIME, TOL_THR, TOL_SWING. -/
def entryRows18 : List EntryRow :=
  [ ⟨0x5180, 1, 1, 0x00, 0x03, .dur64, .ro, ⟨false, false, false⟩, zeros 8⟩,
    ⟨0x6000, 1, 1, 0x00, 0x00, .u 4, .ro, ⟨false, false, false⟩, [0, 0, 0, 0]⟩,
    ⟨0x6000, 1, 1, 0x01, 0x01, .u 2, .ro, ⟨false, false, false⟩, [0, 0]⟩,
    ⟨0x6001, 1, 1, 0x00, 0x00, .f64, .ro, ⟨false, false, false⟩, zeros 8⟩,
    ⟨0x6001, 1, 1, 0x01, 0x01, .f64, .ro, ⟨false, false, false⟩, zeros 8⟩,
    ⟨0x6002, 1, 1, 0x00, 0x00, .u 1, .ro, ⟨false, false, false⟩, [4]⟩,
    ⟨0x6002, 1, 1, 0x01, 0x04, .f64, .ro, ⟨false, false, false⟩, zeros 8⟩,
    ⟨0x6003, 1, 1, 0x00, 0x00, .f64, .rwc, ⟨false, true, false⟩, [0x3F, 0xA9, 0x99, 0x99, 0x99, 0x99, 0x99, 0x9A]⟩,
    ⟨0x6003, 1, 1, 0x01, 0x01, .u 4, .rwc, ⟨false, true, false⟩, [0, 0, 4, 0]⟩,
    ⟨0x6003, 1, 1, 0x02, 0x02, .f64, .rwc, ⟨false, true, false⟩, [0x3C, 0xEB, 5, 0x87, 0x6E, 0x5B, 1, 0x20]⟩,
    ⟨0x6003, 1, 1, 0x03, 0x03, .f64, .rwc, ⟨false, true, false⟩, [0x3D, 0x16, 0x84, 0x9B, 0x86, 0xA1, 0x2B, 0x9B]⟩,
    ⟨0x6004, 1, 1, 0x00, 0x00, .f64, .rwc, ⟨false, true, false⟩, [0x3D, 0x45, 0x1C, 0x51, 0xCE, 0x37, 0x18, 0xE1]⟩,
    ⟨0x6004, 1, 1, 0x01, 0x01, .f64, .rwc, ⟨false, true, false⟩, [0x3F, 0x33, 0xA9, 0x2A, 0x30, 0x55, 0x32, 0x61]⟩,
    ⟨0x6004, 1, 1, 0x02, 0x02, .f64, .rwc, ⟨false, true, false⟩, [0x3F, 0x50, 0x62, 0x4D, 0xD2, 0xF1, 0xA9, 0xFC]⟩ ]

/-- Entries CAL_ATTEMPTS, CAL_SAMPLES, CH_CORR, SET_CORR, CAL_REQ, CAL_RESULT, RT_RX_PATH, RT_DRV_PATH, RT_RX_PATH_U, RT_DRV_PATH_U, REFEDGE_OFFSET, REFEDGE_U, REFEDGE_EDGE. -/
def entryRows19 : List EntryRow :=
  [ ⟨0x6004, 1, 1, 0x03, 0x03, .u 1, .rwc, ⟨false, true, false⟩, [8]⟩,
    ⟨0x6004, 1, 1, 0x04, 0x04, .u 4, .rwc, ⟨false, true, false⟩, [0, 0, 0x10, 0]⟩,
    ⟨0x6010, 1, 1, 0x00, 0x33, .domain 512, .ro, ⟨false, false, false⟩, []⟩,
    ⟨0x6011, 1, 4, 0x00, 0x33, .domain 512, .rwc, ⟨false, false, true⟩, []⟩,
    ⟨0x6020, 1, 1, 0x00, 0x07, .record 16, .wo, ⟨true, false, false⟩, zeros 16⟩,
    ⟨0x6020, 1, 1, 0x08, 0x08, .record 16, .wo, ⟨false, true, false⟩, zeros 16⟩,
    ⟨0x6021, 1, 1, 0x00, 0x08, .record 32, .ro, ⟨false, false, false⟩, zeros 32⟩,
    ⟨0x6030, 1, 1, 0x00, 0x33, .dur64, .rwc, ⟨true, false, false⟩, zeros 8⟩,
    ⟨0x6031, 1, 1, 0x00, 0x33, .dur64, .rwc, ⟨true, false, false⟩, zeros 8⟩,
    ⟨0x6032, 1, 1, 0x00, 0x33, .f64, .rwc, ⟨true, false, false⟩, [0x3D, 0x71, 0x97, 0x99, 0x81, 0x2D, 0xEA, 0x11]⟩,
    ⟨0x6033, 1, 1, 0x00, 0x33, .f64, .rwc, ⟨true, false, false⟩, [0x3D, 0x71, 0x97, 0x99, 0x81, 0x2D, 0xEA, 0x11]⟩,
    ⟨0x6034, 1, 1, 0x00, 0x00, .dur64, .rwc, ⟨false, true, false⟩, zeros 8⟩,
    ⟨0x6034, 1, 1, 0x01, 0x01, .f64, .rwc, ⟨false, true, false⟩, [0x3D, 0x71, 0x97, 0x99, 0x81, 0x2D, 0xEA, 0x11]⟩,
    ⟨0x6034, 1, 1, 0x02, 0x02, .u 1, .rwc, ⟨false, true, false⟩, [0]⟩ ]

/-- Entries VREF_VALUE, VREF_U, NV_STATUS, ARCHIVE_CMD, ARCHIVE_CMD_STATUS, ARCHIVE_DIR, ARCHIVE_IMAGE, CERT_ID, REF_ID, RT_TIME, RT_EPOCH, RT_DUE, DRIFT_RATE_T, DRIFT_RATE_V. -/
def entryRows20 : List EntryRow :=
  [ ⟨0x6035, 1, 1, 0x00, 0x00, .f64, .rwc, ⟨false, true, false⟩, [0x40, 4, 0, 0, 0, 0, 0, 0]⟩,
    ⟨0x6035, 1, 1, 0x01, 0x01, .f64, .rwc, ⟨false, true, false⟩, [0x3F, 0x30, 0x62, 0x4D, 0xD2, 0xF1, 0xA9, 0xFC]⟩,
    ⟨0x6100, 1, 1, 0x00, 0x00, .u 4, .ro, ⟨false, false, false⟩, [0, 0, 0, 0]⟩,
    ⟨0x6100, 1, 1, 0x01, 0x01, .record 8, .wo, ⟨false, true, false⟩, zeros 8⟩,
    ⟨0x6100, 1, 1, 0x02, 0x02, .u 1, .ro, ⟨false, false, false⟩, [0]⟩,
    ⟨0x6101, 1, 1, 0x00, 0x3F, .record 16, .ro, ⟨false, false, false⟩, zeros 16⟩,
    ⟨0x6102, 1, 1, 0x00, 0x00, .domain 524288, .ro, ⟨false, false, false⟩, []⟩,
    ⟨0x6110, 1, 1, 0x00, 0x00, .str 32, .rwc, ⟨false, true, false⟩, []⟩,
    ⟨0x6110, 1, 1, 0x01, 0x01, .str 32, .rwc, ⟨false, true, false⟩, []⟩,
    ⟨0x6110, 1, 1, 0x02, 0x02, .time96, .ro, ⟨false, false, false⟩, zeros 12⟩,
    ⟨0x6110, 1, 1, 0x03, 0x03, .u 4, .ro, ⟨false, false, false⟩, [0, 0, 0, 0]⟩,
    ⟨0x6110, 1, 1, 0x04, 0x04, .time96, .rwc, ⟨false, true, false⟩, zeros 12⟩,
    ⟨0x6120, 1, 1, 0x00, 0x00, .f64, .rwc, ⟨false, true, false⟩, [0x3D, 0x33, 0x81, 0x97, 0x5D, 0x43, 0x4B, 0x37]⟩,
    ⟨0x6120, 1, 1, 0x01, 0x01, .f64, .rwc, ⟨false, true, false⟩, [0x3F, 0x02, 0x23, 0xEE, 0xF2, 0x91, 0x82, 0x74]⟩ ]

/-- Entries U_SS, LIFE_POWERED_H, LIFE_HEATER_H, LIFE_NV_WRITES, LIFE_ROLLFWD, DEVICE_MODE, SERVICE_REQ, DC_CFG, DC_RESULT, LANDINGS, MGMT_COMMIT_STATE, MGMT_SHADOW_COUNT, ENGINE_UPC, ENGINE_MSTACK. -/
def entryRows21 : List EntryRow :=
  [ ⟨0x6121, 1, 1, 0x00, 0x33, .f64, .ro, ⟨false, false, false⟩, zeros 8⟩,
    ⟨0x6130, 1, 1, 0x00, 0x00, .u 8, .ro, ⟨false, false, false⟩, zeros 8⟩,
    ⟨0x6130, 1, 1, 0x01, 0x01, .u 8, .ro, ⟨false, false, false⟩, zeros 8⟩,
    ⟨0x6130, 1, 1, 0x02, 0x02, .u 8, .ro, ⟨false, false, false⟩, zeros 8⟩,
    ⟨0x6130, 1, 1, 0x03, 0x03, .u 8, .ro, ⟨false, false, false⟩, zeros 8⟩,
    ⟨0x7000, 1, 1, 0x00, 0x00, .u 1, .ro, ⟨false, false, false⟩, [0]⟩,
    ⟨0x7000, 1, 1, 0x01, 0x01, .u 1, .wo, ⟨false, true, false⟩, [0]⟩,
    ⟨0x7010, 1, 1, 0x00, 0x07, .record 16, .rwc, ⟨true, false, false⟩, zeros 16⟩,
    ⟨0x7011, 1, 1, 0x00, 0x07, .record 32, .ro, ⟨false, false, false⟩, zeros 32⟩,
    ⟨0x7F00, 1, 1, 0x00, 0x00, .u 8, .ro, ⟨false, false, false⟩, zeros 8⟩,
    ⟨0x7F00, 1, 1, 0x01, 0x01, .u 1, .ro, ⟨false, false, false⟩, [0]⟩,
    ⟨0x7F00, 1, 1, 0x02, 0x02, .u 2, .ro, ⟨false, false, false⟩, [0, 0]⟩,
    ⟨0x7F10, 1, 1, 0x00, 0x08, .u 2, .ro, ⟨false, false, false⟩, [0, 0]⟩,
    ⟨0x7F11, 1, 1, 0x00, 0x08, .u 1, .ro, ⟨false, false, false⟩, [0]⟩ ]

/-- Entries SAFE_GAP_MAX, COND_PENDING, SELF_RESETS, ENGINE_RESET, PATCH_HITS, FAULT_FORCE. -/
def entryRows22 : List EntryRow :=
  [ ⟨0x7F12, 1, 1, 0x00, 0x08, .u 1, .ro, ⟨false, false, false⟩, [0]⟩,
    ⟨0x7F13, 1, 1, 0x00, 0x08, .u 1, .ro, ⟨false, false, false⟩, [0]⟩,
    ⟨0x7F14, 1, 1, 0x00, 0x08, .u 4, .ro, ⟨false, false, false⟩, [0, 0, 0, 0]⟩,
    ⟨0x7F15, 1, 1, 0x00, 0x08, .bool, .wo, ⟨false, false, true⟩, [0]⟩,
    ⟨0x7F18, 1, 1, 0x00, 0x1F, .u 4, .ro, ⟨false, false, false⟩, [0, 0, 0, 0]⟩,
    ⟨0x7F20, 1, 1, 0x00, 0x03, .u 4, .rw, ⟨false, true, false⟩, [0, 0, 0, 0]⟩ ]

/-- Every entry of Table OD-5 and of the tables that Table OD-4 names (R333). -/
def entryRows : List EntryRow :=
  entryRows0 ++ entryRows1 ++ entryRows2 ++ entryRows3 ++ entryRows4 ++ entryRows5 ++ entryRows6 ++ entryRows7 ++ entryRows8 ++ entryRows9 ++ entryRows10 ++ entryRows11 ++ entryRows12 ++ entryRows13 ++ entryRows14 ++ entryRows15 ++ entryRows16 ++ entryRows17 ++ entryRows18 ++ entryRows19 ++ entryRows20 ++ entryRows21 ++ entryRows22

/-- Scope rules of R562. -/
inductive ScopeRule where
  | dev | own | req
  deriving DecidableEq, Repr

/-- Kinds of Table FC-3: signal-level on the core clock, signal-level collected by Tahr, transaction. -/
inductive FaultKind where
  | signal | always | trans
  deriving DecidableEq, Repr

/-- One row of Table FC-3: source, class (0 C, 1 T, 2 D, 3 M), scope, kind, allowed reactions, default reaction. -/
structure FaultRow where
  src : Nat
  cls : Nat
  scope : ScopeRule
  kind : FaultKind
  allowed : List Nat
  dflt : Nat
  deriving DecidableEq, Repr

/-- Rows of Table FC-3. -/
def faultRows0 : List FaultRow :=
  [ ⟨0, 2, .dev, .always, [4, 5], 4⟩,
    ⟨1, 3, .dev, .always, [1], 1⟩,
    ⟨2, 3, .dev, .always, [1, 4], 1⟩,
    ⟨3, 0, .dev, .always, [0], 0⟩,
    ⟨4, 2, .dev, .always, [4, 5], 5⟩,
    ⟨5, 2, .dev, .always, [4, 5], 5⟩,
    ⟨6, 2, .dev, .always, [4, 5], 5⟩,
    ⟨7, 2, .dev, .always, [4, 5], 5⟩,
    ⟨8, 2, .dev, .always, [4, 5], 5⟩,
    ⟨9, 3, .dev, .always, [1, 4], 1⟩,
    ⟨10, 3, .dev, .always, [1, 4], 1⟩,
    ⟨16, 3, .dev, .signal, [1], 1⟩ ]

/-- Rows of Table FC-3. -/
def faultRows1 : List FaultRow :=
  [ ⟨17, 3, .dev, .signal, [1], 1⟩,
    ⟨18, 3, .dev, .signal, [1], 1⟩,
    ⟨19, 3, .dev, .signal, [1], 1⟩,
    ⟨20, 3, .dev, .signal, [1], 1⟩,
    ⟨21, 2, .dev, .signal, [4, 5], 4⟩,
    ⟨22, 0, .dev, .signal, [0], 0⟩,
    ⟨23, 3, .dev, .signal, [1], 1⟩,
    ⟨24, 0, .dev, .signal, [0], 0⟩,
    ⟨25, 3, .dev, .always, [1], 1⟩,
    ⟨32, 0, .own, .trans, [0], 0⟩,
    ⟨33, 3, .own, .trans, [1, 3], 1⟩,
    ⟨34, 2, .dev, .trans, [4, 5], 4⟩ ]

/-- Rows of Table FC-3. -/
def faultRows2 : List FaultRow :=
  [ ⟨35, 0, .dev, .signal, [0], 0⟩,
    ⟨36, 3, .own, .trans, [1, 3], 1⟩,
    ⟨37, 3, .own, .signal, [1, 3], 1⟩,
    ⟨38, 2, .dev, .trans, [4, 5], 4⟩,
    ⟨39, 1, .own, .trans, [3], 3⟩,
    ⟨40, 2, .dev, .trans, [4, 5], 4⟩,
    ⟨42, 0, .own, .trans, [0], 0⟩,
    ⟨48, 1, .own, .trans, [3], 3⟩,
    ⟨49, 1, .own, .trans, [3], 3⟩,
    ⟨50, 3, .own, .trans, [1, 3], 1⟩,
    ⟨51, 0, .own, .signal, [0], 0⟩,
    ⟨52, 0, .own, .trans, [0], 0⟩ ]

/-- Rows of Table FC-3. -/
def faultRows3 : List FaultRow :=
  [ ⟨53, 1, .own, .trans, [3], 3⟩,
    ⟨54, 2, .dev, .trans, [4, 5], 5⟩,
    ⟨55, 0, .dev, .trans, [0], 0⟩,
    ⟨64, 3, .own, .signal, [1, 2, 3], 1⟩,
    ⟨65, 3, .own, .signal, [1, 2, 3], 1⟩,
    ⟨66, 3, .own, .signal, [1, 2, 3], 1⟩,
    ⟨67, 3, .own, .signal, [1, 2, 3], 2⟩,
    ⟨68, 3, .own, .signal, [1, 2, 3], 1⟩,
    ⟨69, 3, .own, .signal, [1, 2, 3], 1⟩,
    ⟨70, 0, .own, .trans, [0], 0⟩,
    ⟨71, 3, .dev, .signal, [1, 4], 1⟩,
    ⟨80, 0, .dev, .signal, [0], 0⟩ ]

/-- Rows of Table FC-3. -/
def faultRows4 : List FaultRow :=
  [ ⟨81, 0, .dev, .signal, [0], 0⟩,
    ⟨82, 0, .dev, .signal, [0], 0⟩,
    ⟨83, 0, .dev, .signal, [0], 0⟩,
    ⟨84, 0, .dev, .trans, [0], 0⟩,
    ⟨85, 2, .dev, .trans, [4, 5], 4⟩,
    ⟨86, 0, .dev, .signal, [0], 0⟩,
    ⟨87, 0, .dev, .trans, [0], 0⟩,
    ⟨89, 0, .own, .trans, [0, 3], 0⟩,
    ⟨90, 0, .own, .trans, [0, 3], 0⟩,
    ⟨96, 0, .req, .trans, [0], 0⟩,
    ⟨97, 3, .dev, .signal, [1], 1⟩,
    ⟨98, 0, .dev, .trans, [0], 0⟩ ]

/-- Rows of Table FC-3. -/
def faultRows5 : List FaultRow :=
  [ ⟨99, 0, .dev, .trans, [0], 0⟩,
    ⟨100, 3, .dev, .trans, [1, 4], 1⟩,
    ⟨101, 0, .dev, .trans, [0], 0⟩,
    ⟨102, 3, .dev, .trans, [1, 4], 1⟩,
    ⟨103, 3, .dev, .signal, [1, 4], 1⟩,
    ⟨104, 3, .own, .trans, [1, 3], 1⟩,
    ⟨105, 0, .dev, .signal, [0], 0⟩,
    ⟨106, 3, .req, .signal, [1, 3], 1⟩,
    ⟨107, 0, .req, .trans, [0], 0⟩,
    ⟨108, 3, .dev, .trans, [1, 4], 1⟩,
    ⟨112, 0, .own, .trans, [0], 0⟩,
    ⟨113, 2, .dev, .always, [4, 5], 5⟩ ]

/-- Rows of Table FC-3. -/
def faultRows6 : List FaultRow :=
  [ ⟨114, 2, .dev, .trans, [4], 4⟩,
    ⟨115, 2, .dev, .trans, [4], 4⟩,
    ⟨116, 0, .dev, .trans, [0], 0⟩,
    ⟨117, 0, .dev, .trans, [0], 0⟩,
    ⟨118, 3, .dev, .trans, [1, 4], 1⟩,
    ⟨119, 0, .dev, .trans, [0], 0⟩,
    ⟨120, 0, .dev, .trans, [0], 0⟩,
    ⟨121, 3, .dev, .signal, [1, 4], 1⟩,
    ⟨122, 2, .dev, .signal, [4, 5], 4⟩,
    ⟨123, 3, .dev, .always, [1], 1⟩ ]

/-- Table FC-3: every source that is not reserved (R581). -/
def faultRows : List FaultRow :=
  faultRows0 ++ faultRows1 ++ faultRows2 ++ faultRows3 ++ faultRows4 ++ faultRows5 ++ faultRows6

/-- The catalogue row of a source; none for a reserved source. -/
def faultRow (src : Nat) : Option FaultRow := faultRows.find? fun r => r.src == src

/-- The default of FS_REACTION: the catalogue's code, and PIN for class D (R565). -/
def faultDefault (src : Nat) : Nat :=
  match faultRow src with
  | some r => r.dflt + (if r.cls = 2 then 0x80 else 0)
  | none => 0

/-- The family that holds an address. -/
def EntryRow.holds (e : EntryRow) (ix sub : Nat) : Bool :=
  decide (e.base ≤ ix) && decide ((ix - e.base) % e.step = 0) && decide ((ix - e.base) / e.step < e.count)
    && decide (e.lo ≤ sub) && decide (sub ≤ e.hi)

/-- The entry at an address (R333); none is NO_OBJECT. -/
def lookupEntry (ix sub : Nat) : Option EntryRow := entryRows.find? fun e => e.holds ix sub

/-- The default value of an RW or RWC entry (R344). -/
def entryDefault (ix sub : Nat) : Bytes :=
  if ix = 0x1810 then [BitVec.ofNat 8 (faultDefault sub)]
  else if 0x4000 ≤ ix ∧ ix < 0x4200 ∧ sub = 0x41 then [if ix % 64 = 0 then 1 else 0]
  else match lookupEntry ix sub with
    | some e => e.dflt
    | none => []

/-! ### Sorted sets of values -/

/-- The key of an address. -/
def keyOf (ix sub : Nat) : Nat := ix * 256 + sub

/-- The value listed for a key. -/
def Cfg.find : Cfg → Nat → Option Bytes
  | [], _ => none
  | (k, v) :: c, key => if k = key then some v else if key < k then none else Cfg.find c key

/-- The set with a value listed. -/
def Cfg.insert : Cfg → Nat → Bytes → Cfg
  | [], key, v => [(key, v)]
  | (k, w) :: c, key, v =>
    if key < k then (key, v) :: (k, w) :: c
    else if key = k then (k, v) :: c
    else (k, w) :: Cfg.insert c key v

/-- The set with a key removed. -/
def Cfg.erase (c : Cfg) (key : Nat) : Cfg := c.filter fun p => p.1 != key

/-- The set with a value set: an entry equal to its default is not listed. -/
def Cfg.set (c : Cfg) (ix sub : Nat) (v : Bytes) : Cfg :=
  if v = entryDefault ix sub then c.erase (keyOf ix sub) else c.insert (keyOf ix sub) v

/-- The value of an entry: the one listed, or the default. -/
def Cfg.get (c : Cfg) (ix sub : Nat) : Bytes := (c.find (keyOf ix sub)).getD (entryDefault ix sub)

/-- The value of an entry as an unsigned number. -/
def Cfg.nat (c : Cfg) (ix sub : Nat) : Nat := beNat (c.get ix sub)

/-- The value of an entry as a signed number of its width. -/
def Cfg.int (c : Cfg) (ix sub : Nat) : Int := let v := c.get ix sub; toSigned (8 * v.length) (beNat v)

/-- Every listed value of `new` set over `c`, in order. -/
def Cfg.overlay (c new : Cfg) : Cfg := new.foldl (fun a p => a.set (p.1 / 256) (p.1 % 256) p.2) c

end Sys2Proof.Machine
end

