-- ==== Sys2Proof/Machine/Ops.lean ====
section
/-! DEFINITION. The named operations that every chapter shares: indexed state, the stacked memory, device time, free
values, and event records with their holding buffers (chapter 13). -/
namespace Sys2Proof.Machine

/-! ### Indexed state -/

/-- Component `i` of a file. -/
def vget {α : Type} {n : Nat} (v : Vector α n) (i : Fin n) : α := v[i.val]

/-- The file with component `i` changed by `f`. -/
def vmod {α : Type} {n : Nat} (v : Vector α n) (i : Fin n) (f : α → α) : Vector α n := v.set i.val (f v[i.val])

/-- Every tenant, ascending. -/
def allTenants : List Tenant := [0, 1, 2, 3, 4, 5, 6, 7]

/-- Every channel, ascending. -/
def allChans : List Chan := List.ofFn id

/-- Every logical pin, ascending. -/
def allPins : List Pin := List.ofFn id

/-! ### Stacked memory: sparse bytes, canonical form -/

/-- Memory: (address, byte) pairs. -/
abbrev Mem := List Host.Cell

/-- The byte at an address; an unlisted address reads as zero (Table RB-3: 0 from B5). -/
def Mem.read : Mem → Nat → Byte
  | [], _ => 0
  | (k, v) :: m, a => if k = a then v else if a < k then 0 else Mem.read m a

/-- The memory with one byte written; a zero byte is not listed. -/
def Mem.write : Mem → Nat → Byte → Mem
  | [], a, b => if b = 0 then [] else [(a, b)]
  | (k, v) :: m, a, b =>
    if a < k then (if b = 0 then (k, v) :: m else (a, b) :: (k, v) :: m)
    else if a = k then (if b = 0 then m else (k, b) :: m)
    else (k, v) :: Mem.write m a b

/-- Bytes written at consecutive addresses from `a`. -/
def Mem.writeBytes (m : Mem) (a : Nat) : Bytes → Mem
  | [] => m
  | b :: bs => Mem.writeBytes (m.write a b) (a + 1) bs

/-- `n` bytes from address `a`. -/
def Mem.readBytes (m : Mem) (a n : Nat) : Bytes := (List.range n).map fun i => m.read (a + i)

/-- Every byte of `[lo, hi)` zero. -/
def Mem.zero (m : Mem) (lo hi : Nat) : Mem := m.filter fun c => decide (c.1 < lo) || decide (hi ≤ c.1)

/-- The addresses of a list rise strictly. -/
def Mem.rising : Mem → Bool
  | [] => true
  | [_] => true
  | (a, _) :: (b, w) :: m => decide (a < b) && Mem.rising ((b, w) :: m)

/-- The canonical form: addresses rise and no zero byte is listed. -/
def Mem.wf (m : Mem) : Bool := Mem.rising m && m.all fun c => c.2 != 0

/-! ### Time, free values, tenancy -/

/-- The TIME96 value of the instant `fine` fine steps into the present tick (R35). While the fast clocks are stopped
device time is Tahr's count plus the phase (chapter 2, Handover). -/
def Dev.timeAt (d : Dev) (fine : Nat) : Time96 := timeOfFine (d.tb.devFine + fine)

/-- The present device time. -/
def Dev.now (d : Dev) : Time96 := d.timeAt 0

/-- The frame number of the present tick (R31). -/
def Dev.frame (d : Dev) : Nat := d.tb.tick / ticksPerFrame

/-- Draw a free value (notes/assumptions/2). -/
def Dev.free (d : Dev) : BitVec 64 × Dev := (Config.freeValue d.freeCtr, { d with freeCtr := d.freeCtr + 1 })

/-- Send something to the outside. -/
def Dev.send (d : Dev) (o : Output) : Dev := { d with out := d.out ++ [o] }

/-- `0x1100.t TENANT_CTRL` is 1 in a configuration. -/
def Cfg.present (c : Cfg) (t : Tenant) : Bool := c.nat 0x1100 t.val == 1

/-- Tenant t is present (in force). -/
def Dev.present (d : Dev) (t : Tenant) : Bool := d.dict.cfg.present t

/-- The present tenants, ascending. -/
def Dev.presentTenants (d : Dev) : List Tenant := allTenants.filter d.present

/-- A tenant number that a dictionary byte holds; 0xFF and other values are none. -/
def tenantOf (n : Nat) : Option Tenant := if h : n < 8 then some ⟨n, h⟩ else none

/-- The owner of the group of a logical pin in a configuration (R435). -/
def Cfg.pinOwner (c : Cfg) (p : Pin) : Option Tenant := tenantOf (c.nat 0x1102 (p.val / 4))

/-- The owner of a physical channel (R435): the owner of the group of the pin it carries. -/
def Dev.chOwnerIn (d : Dev) (c : Cfg) (ch : Chan) : Option Tenant :=
  match (vget d.chans ch).map with
  | some p => c.pinOwner p
  | none => none

/-- The owner of a channel in force. -/
def Dev.chOwner (d : Dev) (ch : Chan) : Option Tenant := d.chOwnerIn d.dict.cfg ch

/-- The channel that carries a logical pin (R13). -/
def Dev.pinChan (d : Dev) (p : Pin) : Option Chan := allChans.find? fun c => (vget d.chans c).map == some p

/-- The number of a requester as Table TM-3 and Table FC-2 write it: tenant 0-7, 8 the management plane. -/
def reqCode : Req → Nat
  | .tenant t => t.val
  | .mgmt => 8

/-- The generation count of a DOMAIN goes up by one (R357). -/
def Dict.bumpGen (x : Dict) (key : Nat) : Dict :=
  let n := ((x.gens.find? fun p => p.1 == key).map (·.2)).getD 0
  { x with gens := (key, (n + 1) % 2 ^ 32) :: x.gens.filter fun p => p.1 != key }

/-! ### Engine conditions (Table MS-5) -/

/-- The engine of a tenant's sequencer. -/
def tenantEngine (t : Tenant) : Engine := ⟨t.val, by omega⟩

/-- Change an engine. -/
def Dev.modEngine (d : Dev) (e : Engine) (f : MicroEngine → MicroEngine) : Dev :=
  { d with micro := { d.micro with engines := vmod d.micro.engines e f } }

/-- A push into the decoded-vector FIFO, an aligned effect or a flag change (R191). -/
def MicroEffect.withheld : MicroEffect → Bool
  | .vec op _ _ => decide (op ≤ 3)
  | .aligned _ => true
  | .flag _ _ => true
  | _ => false

/-- Effects of an engine that a stop withholds (R191, R198). -/
def Dev.withhold (d : Dev) (e : Engine) : Dev :=
  { d with micro := { d.micro with outs := d.micro.outs.filter fun o => !(o.engine == e && o.effect.withheld) } }

/-- A condition of an engine is latched (R187): 0 KILL, 1 STOP, 2 DEADLOCK_HALT, 3 STAIR_SAVE, 4 HK_REQUEST. A KILL lets a
stopped pattern engine reach its handler (R198). -/
def Dev.latchCond (d : Dev) (e : Engine) (k : Nat) : Dev :=
  (if k ≤ 2 then d.withhold e else d).modEngine e fun m => { m with pending := setBit m.pending k true, stopped := m.stopped && !(k == 0 && decide (e.val < 8)) }

/-- A housekeeping procedure is queued (R180, Table MS-5). -/
def Dev.queueProc (d : Dev) (code : Nat) : Dev :=
  { d with micro := { d.micro with procReg := d.micro.procReg ++ [code] } }.latchCond 8 4

/-- The engine of a tenant has stopped by a microsequencer fault (R198). -/
def Dev.engineStopped (d : Dev) (t : Tenant) : Bool := (vget d.micro.engines (tenantEngine t)).stopped

/-! ### Event records (chapter 13) -/

/-- The traceability state that records carry: HOLDOVER between the seed and the completion of a handover (R41) and while
Tahr keeps device time (R59), otherwise the state machine's (R51). -/
def Dev.traceShown (d : Dev) : Nat :=
  if d.tb.handover.isSome || (decide (d.stairs.now ≥ 3) && !d.tb.fast) then 1 else d.tb.trace

/-- EPOCH_TRACE (Table HQ-6) of an epoch and a state. -/
def epochTraceOf (major minor trace : Nat) : BitVec 16 :=
  BitVec.ofNat 16 (trace * 2 ^ 14 + (major % 64) * 2 ^ 8 + minor % 256)

/-- EPOCH_TRACE in force. -/
def Dev.epochTrace (d : Dev) : BitVec 16 := epochTraceOf d.cal.major d.cal.minor d.traceShown

/-- The physical address of an offset in banks interleaved by 64-byte block (R201, R266). -/
def interleave (banks : List Nat) (off : Nat) : Nat :=
  let q := banks.length
  banks.getD (off / 64 % q) 0 * 2 ^ 20 + off / (64 * q) % 2 ^ 14 * 64 + off % 64

/-- The physical address of an offset in banks 61-63 (R269). -/
def systemAddr (off : Nat) : Nat := interleave [61, 62, 63] off

/-- The 64-bit word of an address. -/
def wordOf (a : Nat) : Nat := a / 8 * 8

/-- The words of banks 61-63 that hold the record with a sequence number in a tenant's holding buffer (Table MA-1). -/
def holdWords (t : Tenant) (seq : Nat) : List Nat := (List.range 4).map fun i => systemAddr (0x2000 * t.val + 32 * (seq % 256) + 8 * i)

/-- The words of banks 61-63 that hold a DMA slot of a tenant (Table MA-1). -/
def slotWords (t : Tenant) (slot : Nat) : List Nat := (List.range 4).map fun i => systemAddr (0x10000 + 0x2000 * t.val + 32 * slot + 8 * i)

/-- The record with a sequence number is dropped, and counted (R415). -/
def Hold.lose (h : Hold) (seq : Nat) : Hold :=
  { h with drops := satAdd 32 h.drops 1, dropsUnreported := h.dropsUnreported + 1
           dropFirst := if h.dropsUnreported = 0 then seq else h.dropFirst, dropLast := seq }

/-- A record enters a holding buffer and takes the next sequence number; a full buffer drops it (R414, R415). -/
def Hold.put (h : Hold) (mk : Nat → EventRec) : Hold :=
  let seq := h.seq
  let h1 := { h with seq := (seq + 1) % 2 ^ 16 }
  if h.recs.length < 256 then { h1 with recs := h.recs ++ [mk seq] } else h1.lose seq

/-- The record of an edge record with its sequence number. -/
def EdgeRec.toRec (e : EdgeRec) (seq : Nat) : EventRec :=
  { type := e.type, tenant := match e.dest with | .tenant t => t.val | .mgmt => e.about
    pointer := e.pointer, seq := seq, time := e.time, source := e.source, epochTrace := e.et, payload := e.payload }

/-- Put a record into its receiver's holding buffer; its words there are overwritten (R271). -/
def Dev.put (d : Dev) (e : EdgeRec) : Dev :=
  match e.dest with
  | .tenant t =>
    let h := (vget d.host t).hold
    { d with
      host := vmod d.host t fun h => { h with hold := h.hold.put e.toRec }
      arb := if h.recs.length < 256 then { d.arb with poison := d.arb.poison.filter fun w => !(holdWords t h.seq).contains w } else d.arb }
  | .mgmt => { d with mgmt := { d.mgmt with hold := d.mgmt.hold.put e.toRec } }

/-- Make a record, which enters its buffer at the end of the tick, or, made by an action of a frame edge, at step 5 (R24,
R414). -/
def Dev.emit (d : Dev) (e : EdgeRec) : Dev :=
  if d.atEdge then { d with edgeRecs := d.edgeRecs ++ [e] } else { d with tickRecs := d.tickRecs ++ [e] }

/-- A record to be made now, with the epoch and traceability state in force (R12). -/
def Dev.mkRec (d : Dev) (dest : Recipient) (about type source : Nat) (time : Time96) (payload : Bytes) : EdgeRec :=
  { dest := dest, type := type, about := about, time := time, source := source, et := d.epochTrace, payload := payload }

/-- A record made for one tenant, with the management plane's copy when `mgmt`. -/
def Dev.emitTenant (d : Dev) (t : Tenant) (mgmt : Bool) (type source : Nat) (time : Time96) (payload : Bytes) : Dev :=
  let d1 := d.emit (d.mkRec (.tenant t) t.val type source time payload)
  if mgmt then d1.emit (d.mkRec .mgmt t.val type source time payload) else d1

/-- A record made for the management plane alone (byte 1 holds 0x8, R410). -/
def Dev.emitMgmt (d : Dev) (type source : Nat) (time : Time96) (payload : Bytes) : Dev :=
  d.emit (d.mkRec .mgmt 8 type source time payload)

/-- A device-wide record: every present tenant and the management plane. -/
def Dev.emitAll (d : Dev) (type source : Nat) (time : Time96) (payload : Bytes) : Dev :=
  let d1 := d.presentTenants.foldl (fun d t => d.emit (d.mkRec (.tenant t) 8 type source time payload)) d
  d1.emitMgmt type source time payload

/-- The VLAN tag that a port's frames carry: priority and VID (Table NP-3); none where VLAN is disabled. -/
def Dev.vlanOf (d : Dev) (port : Fin 2) : Option Nat :=
  let v := fieldBE (d.dict.cfg.get 0x1202 port.val) 6 2
  if bit v 15 then some (v % 2 ^ 15) else none

/-- Order of the types of step 5: FAULT, LANDING, STAIR, RESET_NOTICE, then every other type (R24, R414). -/
def edgeRank (type : Nat) : Nat :=
  if type = 0x08 then 0 else if type = 0x11 then 1 else if type = 0x0A then 2 else if type = 0x0D then 3 else 4

/-- `a` enters before `b` at one edge: by rank, and among the others by ascending SOURCE. -/
def edgeBefore (a b : EdgeRec) : Bool :=
  if edgeRank a.type = edgeRank b.type then edgeRank a.type = 4 && decide (a.source < b.source)
  else decide (edgeRank a.type < edgeRank b.type)

/-- `a` enters before `b` in one tick: by time stamp, then by ascending SOURCE (R414). -/
def tickBefore (a b : EdgeRec) : Bool :=
  if Time.toSub a.time = Time.toSub b.time then decide (a.source < b.source) else decide (Time.toSub a.time < Time.toSub b.time)

/-- Insert a record behind every record that does not follow it (a stable insertion sort). -/
def insertRec (before : EdgeRec → EdgeRec → Bool) (e : EdgeRec) : List EdgeRec → List EdgeRec
  | [] => [e]
  | x :: xs => if before e x then e :: x :: xs else x :: insertRec before e xs

/-- Records in an order of R414. -/
def sortRecs (before : EdgeRec → EdgeRec → Bool) (l : List EdgeRec) : List EdgeRec :=
  l.foldl (fun acc e => insertRec before e acc) []

/-- The records of an edge in the order of R414. -/
def sortEdge (l : List EdgeRec) : List EdgeRec := sortRecs edgeBefore l

/-- Step 5 of R24: the records of the edge enter the holding buffers in order. -/
def Dev.flushEdge (d : Dev) : Dev :=
  (sortEdge d.edgeRecs).foldl (fun d e => d.put e) { d with atEdge := false, edgeRecs := [] }

/-- The end of a tick: the records made in it enter the holding buffers in order (R414). -/
def Dev.flushTick (d : Dev) : Dev :=
  (sortRecs tickBefore d.tickRecs).foldl (fun d e => d.put e) { d with tickRecs := [] }

end Sys2Proof.Machine
end

