-- ==== Sys2Proof/Machine/Retire.lean ====
section
/-! DEFINITION. Accepting a retirement (R89-R93) and the CHANNEL_ADMIT record (R98); its effect at the frame edge is in
Machine/Channels.lean. -/
namespace Sys2Proof.Machine

/-- Status codes of Table NP-7. -/
abbrev stOK : Nat := 0x00
abbrev stNoObject : Nat := 0x02
abbrev stNoRight : Nat := 0x03
abbrev stType : Nat := 0x04
abbrev stRange : Nat := 0x05
abbrev stWaking : Nat := 0x06
abbrev stConflict : Nat := 0x07
abbrev stBudget : Nat := 0x08
abbrev stAuth : Nat := 0x09
abbrev stReplay : Nat := 0x0A
abbrev stResetPending : Nat := 0x0B
abbrev stTorn : Nat := 0x0C
abbrev stMode : Nat := 0x0D
abbrev stLocked : Nat := 0x0E
abbrev stTooMany : Nat := 0x0F
abbrev stBringup : Nat := 0x01
/-- No status code: the answer waits for the end of the tick (R90). -/
abbrev stPending : Nat := 0x100

/-- A byte of an optional number: 0xFF for none. -/
def optByte : Option Nat → Byte
  | some n => BitVec.ofNat 8 n
  | none => 0xFF

/-- A CHANNEL_ADMIT record (R98, Table PC-7). -/
def Dev.channelAdmit (d : Dev) (action : Nat) (ch : Chan) (pin : Option Pin) (partner : Option Chan) (cause fs reason : Nat) :
    Dev :=
  let ten := match pin with | some p => d.dict.cfg.pinOwner p | none => none
  let payload : Bytes :=
    [BitVec.ofNat 8 action, BitVec.ofNat 8 ch.val, optByte (pin.map (·.val)), optByte (ten.map (·.val)),
     optByte (partner.map (·.val)), BitVec.ofNat 8 cause] ++ natBE 2 fs ++ [BitVec.ofNat 8 reason, 0, 0, 0]
  match ten with
  | some t => d.emitTenant t true 0x0F (0x3000 + ch.val) d.now payload
  | none => d.emitMgmt 0x0F (0x3000 + ch.val) d.now payload

/-- The spare that R90 reserves: the lowest-numbered SPARE channel that no earlier retirement has reserved or retires. -/
def Dev.freeSpare (d : Dev) : Option Chan :=
  allChans.find? fun c => let x := vget d.chans c; x.st == .spare && !x.reserved && x.retire.isNone

/-- RETIRE_CAUSE of a retirement (Table PC-8): cause 0 tenant, 1 management, 2 fault. -/
def retireCauseOf (cause fs : Nat) : BitVec 16 := BitVec.ofNat 16 ((cause + 1) * 256 + (if cause = 2 then fs % 256 else 0))

/-- Accept a retirement of `ch` (R89-R93), or refuse it with MODE. The answer is the state and the status. A fault-driven one
with no spare free makes the channel HELD at the frame edge (R91, notes/assumptions/12). -/
def Dev.acceptRetire (d : Dev) (ch : Chan) (cause fs : Nat) : Dev × Nat :=
  let c := vget d.chans ch
  if c.retire.isSome then (d, stOK)
  else match c.st with
    | .inService =>
      match d.freeSpare with
      | some s =>
        ({ d with chans := vmod (vmod d.chans s fun x => { x with reserved := true }) ch fun x =>
            { x with retire := some { cause := cause, fs := fs, spare := some s }, retireCause := retireCauseOf cause fs,
                     frameInvalid := x.frameInvalid || cause == 2 } }, stOK)
      | none =>
        if cause = 2 then
          ({ d with chans := vmod d.chans ch fun x =>
              { x with retire := some { cause := cause, fs := fs, spare := none }, retireCause := retireCauseOf cause fs,
                       frameInvalid := true } }, stOK)
        else (d, stMode)
    | .spare =>
      if c.reserved then (d, stMode)
      else ({ d with chans := vmod d.chans ch fun x =>
              { x with retire := some { cause := cause, fs := fs, spare := none },
                       retireCause := retireCauseOf cause fs } }, stOK)
    | _ => (d, stMode)

/-- A fault asks for a retirement (R89): served at the end of the tick (R90), at once where no tick runs; INVALID begins
(R91, R92). -/
def Dev.faultRetire (d : Dev) (ch : Chan) (fs : Nat) : Dev :=
  if !d.tb.fast then (d.acceptRetire ch 2 fs).1
  else { d with
    retireFaults := d.retireFaults ++ [(ch, fs)]
    chans := vmod d.chans ch fun x => { x with frameInvalid := x.frameInvalid || x.st == .inService } }

/-- A write of CH_RETIRE asks for a retirement (R90): the answer waits for the end of the tick. -/
def Dev.commandRetire (d : Dev) (ch : Chan) (cause : Nat) : Dev × Nat :=
  if !d.tb.fast then d.acceptRetire ch cause 0xFFFF
  else ({ d with retireCmds := d.retireCmds ++ [(ch, cause)] }, stPending)

/-- The retirements of a tick are served at its end: faults first and then commands, each in ascending physical channel order
(R90). Beside the state, the status of each commanded channel. -/
def Dev.serveRetires (d : Dev) : Dev × List (Chan × Nat) :=
  let d0 := { d with retireFaults := [], retireCmds := [] }
  let of := fun (l : List (Chan × Nat)) => allChans.flatMap fun c => l.filter fun x => x.1 == c
  let d1 := (of d.retireFaults).foldl (fun d x => (d.acceptRetire x.1 2 x.2).1) d0
  (of d.retireCmds).foldl (fun acc x => let r := acc.1.acceptRetire x.1 x.2 0xFFFF; (r.1, acc.2 ++ [(x.1, r.2)])) (d1, [])

end Sys2Proof.Machine
end

