-- ==== Sys2Proof/Machine/Faults.lean ====
section
/-! DEFINITION. The fault collector (chapter 19): occurrences, latches, open records, merging, reactions, the FAULT
records, clearing, forcing, broken pairs, ALIVE and FAULT_N. -/
namespace Sys2Proof.Machine

/-- What a transaction source names (Table FC-2), and the channels an occurrence names. -/
structure FaultInfo where
  masterKind : Nat := 0xFF
  master : Nat := 0
  addr : Nat := 0
  access : Nat := 0
  forced : Bool := false
  broken : Bool := false
  chans : List Chan := []

/-- The mask of one scope. -/
def scopeBit (s : Scope) : BitVec 9 := 1#9 <<< s.val

/-- Tenant t's scope. -/
def tenantScope (t : Tenant) : Scope := ⟨t.val, by omega⟩

/-- The device scope. -/
def devScope : Scope := 8

/-- The tenant of a scope. -/
def scopeTenant (s : Scope) : Option Tenant := tenantOf s.val

/-- The scopes of every present tenant, or the device scope when none is present (R563, R575). -/
def Dev.presentScopes (d : Dev) : List Scope :=
  match d.presentTenants with
  | [] => [devScope]
  | ts => ts.map tenantScope

/-- The scope of an optional owner (R562, scope Own). -/
def ownerScope : Option Tenant → Scope
  | some t => tenantScope t
  | none => devScope

/-- FS_REACTION in force. -/
def Dev.reaction (d : Dev) (src : Source) : Nat := d.dict.cfg.nat 0x1810 src.val

/-- The reaction code that acts in a scope (R568). -/
def Dev.reactionIn (d : Dev) (row : FaultRow) (src : Source) (sc : Scope) : Nat :=
  let r := d.reaction src % 16
  if r = 3 && sc = devScope then (if row.cls = 3 then 1 else 0) else r

/-- The scopes in which a source is active (R576, R577). -/
def FaultSrc.actives (f : FaultSrc) : BitVec 9 := f.cond ||| f.broken ||| f.forced

/-- FS_STATE bit 0 in one scope (R576, R577). -/
def FaultSrc.activeIn (f : FaultSrc) (s : Scope) : Bool := (f.actives &&& scopeBit s) != 0

/-- Apply a reaction at the latch (R567-R569); Safe Hold wakes a device below Stair 0 (R482). -/
def Dev.react (d : Dev) (src : Source) (sc : Scope) (code : Nat) (chans : List Chan) : Dev :=
  if code = 2 then chans.foldl (fun d c => d.faultRetire c src.val) d
  else if code = 3 then
    match scopeTenant sc with
    | some t => { d with fc := { d.fc with stopDue := d.fc.stopDue ||| (1#8 <<< t.val), stoppers := (src, t) :: d.fc.stoppers } }
    | none => d
  else if code = 4 then
    let d1 := { d with fc := { d.fc with safeHoldDue := true } }
    if d1.stairs.now ≠ 0 && d1.stairs.waking.isNone then
      { d1 with stairs := { d1.stairs with waking := some 0x11, wakeMs := d1.tb.ms } }
    else d1
  else if code = 5 then
    { d with rst := { d.rst with requests := d.rst.requests ++ [{ source := if src = 113 then 0x02 else 0x03, reach := 1 }] } }
  else d

/-- The record of an occurrence, should it open one (R573). -/
def Dev.newFaultRec (d : Dev) (row : FaultRow) (src : Source) (sc : Scope) (code : Nat) (i : FaultInfo) : FaultRec :=
  let sig := row.kind != .trans
  { source := src.val, cls := row.cls, forced := i.forced, broken := i.broken, pin := bit (d.reaction src) 7,
    scope := sc.val,
    masterKind := if sig then 0xFF else i.masterKind, master := if sig then 0 else i.master, addr := i.addr,
    access := if sig then 0 else i.access, reaction := code, time := d.now, et := d.epochTrace }

/-- The records as they stand. -/
def Collector.book (fc : Collector) : FaultBook := { opens := fc.opens, first := fc.first, overflow := fc.overflow, last := fc.last }

/-- Merge an occurrence into a record (R571). -/
def FaultRec.bump (r : FaultRec) : FaultRec := { r with merged := true, mergeCount := satAdd 16 r.mergeCount 1 }

/-- A record opens, and FC_FIRST and FC_OVERFLOW note the record of a signal-level source (R572). -/
def FaultBook.opening (b : FaultBook) (r : FaultRec) : FaultBook :=
  let sig := match faultRow r.source with | some row => row.kind != .trans | none => false
  let wrote := sig && b.first == 0xFFFF
  let more := sig && b.first != 0xFFFF && b.first != r.source
  let r1 := { r with first := wrote, overflow := more }
  { opens := b.opens ++ [r1], last := r1, first := if wrote then r.source else b.first, overflow := b.overflow || more }

/-- A record of the occurrence's scope is open. -/
def FaultBook.openIn (b : FaultBook) (scope : Nat) : Bool := b.opens.any fun r => r.scope == scope

/-- Take one occurrence (R570-R573): merged where a record of its scope is open, no record where it repeats, else a record. -/
def FaultBook.take (b : FaultBook) (o : FaultOcc) : FaultBook :=
  if b.openIn o.scope then
    { b with opens := b.opens.map fun x => if x.scope == o.scope then x.bump else x
             last := if b.last.scope == o.scope then b.last.bump else b.last }
  else if o.repeated then b
  else b.opening o.record

/-- Put an occurrence in its place: ascending source number (R571), in the order of arrival within a source. -/
def insertOcc (o : FaultOcc) : List FaultOcc → List FaultOcc
  | [] => [o]
  | x :: l => if o.src < x.src then o :: x :: l else x :: insertOcc o l

/-- The occurrences of one tick, taken in order (R571). -/
def Collector.takeAll (fc : Collector) : List FaultOcc → Collector
  | [] => fc
  | o :: l =>
    let merged := fc.book.openIn o.scope
    let b := fc.book.take o
    let fc1 := { fc with opens := b.opens, first := b.first, overflow := b.overflow, last := b.last
                         src := vmod fc.src o.src fun f => { f with lastMerged := setBit f.lastMerged o.scope merged } }
    fc1.takeAll l

/-- An occurrence joins those of its tick: they are taken anew from the records before them (R571). -/
def Collector.takeOcc (fc : Collector) (o : FaultOcc) : Collector :=
  let same := match fc.tickOccs with | [] => false | x :: _ => x.record.time == o.record.time
  let base := if same then fc.tickBook else fc.book
  let occs := insertOcc o (if same then fc.tickOccs else [])
  { fc with opens := base.opens, first := base.first, overflow := base.overflow, last := base.last
            tickOccs := occs, tickBook := base }.takeAll occs

/-- What has been taken stands: a later occurrence of the tick comes after it. -/
def Collector.seal (fc : Collector) : Collector := { fc with tickOccs := [] }

/-- One occurrence of a source in one scope (R570-R573): count, latch, open or merge, react. During bring-up the records
wait for the first frame edge after Ready, one for each newly latched source, and reactions are not applied (R533). -/
def Dev.occur (d : Dev) (src : Source) (sc : Scope) (i : FaultInfo) : Dev :=
  match faultRow src.val with
  | none => d
  | some row =>
    let f := vget d.fc.src src
    let boot := d.rst.phase != 8
    let rep := (f.latched &&& scopeBit sc) != 0
    let code := d.reactionIn row src sc
    let r := d.newFaultRec row src sc code i
    let f1 : FaultSrc :=
      { f with latched := f.latched ||| scopeBit sc, count := satAdd 32 f.count 1
               lastForced := setBit f.lastForced sc.val i.forced }
    let fc1 := { d.fc with src := vmod d.fc.src src fun _ => f1 }
    let fc2 :=
      if boot then
        let b := if rep then fc1.book else fc1.book.opening r
        { fc1 with first := b.first, overflow := b.overflow, last := b.last
                   src := vmod fc1.src src fun f => { f with lastMerged := setBit f.lastMerged sc.val false } }
      else fc1.takeOcc { src := src, scope := sc.val, repeated := rep, record := r }
    let fc3 := if row.cls = 2 then { fc2 with aliveToggling := false, classDSeen := true } else fc2
    let made := { r with first := fc2.last.first, overflow := fc2.last.overflow }
    let d1 := { d with fc := fc3, rst := if boot && !rep then { d.rst with bootFaults := d.rst.bootFaults ++ [made] } else d.rst }
    if d.rst.phase = 8 then d1.react src sc code i.chans else d1

/-- An occurrence of a transaction source in the scope of an owner (R562). -/
def Dev.raiseTrans (d : Dev) (src : Source) (owner : Option Tenant) (masterKind master addr access : Nat) : Dev :=
  d.occur src (ownerScope owner) { masterKind := masterKind, master := master, addr := addr, access := access }

/-- The source latches now: one that the core part collects only while the core clock runs, in Stairs 0 and 1 (R563, R564). -/
def Dev.latches (d : Dev) (src : Source) : Bool :=
  decide (d.stairs.now < 2) || (match faultRow src.val with | some row => row.kind == .always | none => true)

/-- A scope as the resource that a condition concerns. -/
def scopeResource (sc : Scope) : Resource := match scopeTenant sc with | some t => .tenant t | none => .device

/-- A signal-level condition rises in a scope: the source becomes active there, and an occurrence is made unless the
condition was already present there (R570), a broken pair hides the rail (R563), or the core clock stands (R564). -/
def Dev.condRise (d : Dev) (src : Source) (sc : Scope) (addr : Nat) (chans : List Chan) : Dev :=
  let f := vget d.fc.src src
  if (f.cond &&& scopeBit sc) != 0 then d
  else
    let d1 := { d with fc := { d.fc with src := vmod d.fc.src src fun f => { f with cond := f.cond ||| scopeBit sc } } }
    if d.fc.wires.getLsbD src.val then d1
    else if !d.latches src then { d1 with fc := { d1.fc with missed := d1.fc.missed ++ [(src, scopeResource sc)] } }
    else d1.occur src sc { addr := addr, chans := chans }

/-- A signal-level condition ends in a scope (R576). -/
def Dev.condFall (d : Dev) (src : Source) (sc : Scope) : Dev :=
  { d with fc := { d.fc with src := vmod d.fc.src src fun f => { f with cond := f.cond &&& ~~~(scopeBit sc) } } }

/-- A momentary signal-level occurrence of the device scope: the condition holds for the tick of the event only. -/
def Dev.raiseDev (d : Dev) (src : Source) : Dev := (d.condRise src devScope 0 []).condFall src devScope

/-- The scopes in which a resource's condition counts (R562): the owners of its channels, its tenant, or the device. -/
def Dev.resourceScopes (d : Dev) (row : FaultRow) (res : Resource) : List Scope :=
  if row.scope = .dev then [devScope]
  else match res with
    | .device => [devScope]
    | .channel c => [ownerScope (d.chOwner c)]
    | .lanePll k => (allChans.filter fun c => c.val / 4 == k.val).foldl
        (fun l c => let s := ownerScope (d.chOwner c); if l.contains s then l else l ++ [s]) []
    | .tenant t => [tenantScope t]

/-- The channels a resource names. -/
def resChans : Resource → List Chan
  | .channel c => [c]
  | .lanePll k => allChans.filter fun c => c.val / 4 == k.val
  | _ => []

/-- The scopes of a list of resources as a mask. -/
def Dev.scopeMask (d : Dev) (row : FaultRow) (rs : List Resource) : BitVec 9 :=
  (rs.flatMap (d.resourceScopes row)).foldl (fun m s => m ||| scopeBit s) 0

/-- One occurrence of a signal-level source in each scope of a resource (R562); ADDRESS is the physical channel, the lowest
of the scope for a lane PLL (R573). -/
def Dev.occurAt (d : Dev) (row : FaultRow) (src : Source) (res : Resource) : Dev :=
  (d.resourceScopes row res).foldl (fun d s =>
    let cs := (resChans res).filter fun c => row.scope = .dev || ownerScope (d.chOwner c) = s
    d.occur src s { addr := match cs with | c :: _ => c.val | [] => 0, chans := cs }) d

/-- FAULT_CONDITION: the condition of a signal-level source rises for a resource: one occurrence in each of its scopes, unless
the condition is already present at that resource (R562, R570) or a broken pair hides the rail (R563); a source that the core
part collects latches only while the core clock runs (R564). -/
def Dev.faultCondition (d : Dev) (src : Source) (res : Resource) : Dev :=
  match faultRow src.val with
  | none => d
  | some row =>
    if row.kind = .trans || (vget d.fc.src src).present.contains res then d
    else
      let d1 := { d with fc := { d.fc with src := vmod d.fc.src src fun f => { f with
        present := f.present ++ [res], cond := f.cond ||| d.scopeMask row [res] } } }
      if d.fc.wires.getLsbD src.val then d1
      else if !d.latches src then
        { d1 with fc := { d1.fc with missed := d1.fc.missed ++ [(src, res)] } }
      else d1.occurAt row src res

/-- The core clock runs again: the conditions that rose meanwhile and are still present latch (R564). -/
def Dev.latchMissed (d : Dev) : Dev :=
  d.fc.missed.foldl (fun d p => match faultRow p.1.val with
    | some row => if ((vget d.fc.src p.1).cond &&& d.scopeMask row [p.2]) != 0 then d.occurAt row p.1 p.2 else d
    | none => d) { d with fc := { d.fc with missed := [] } }

/-- FAULT_CONDITION_FALLS: the condition ends for a resource; a scope stays active while another resource of it has the
condition (R576). -/
def Dev.faultConditionFalls (d : Dev) (src : Source) (res : Resource) : Dev :=
  match faultRow src.val with
  | none => d
  | some row =>
    let left := (vget d.fc.src src).present.erase res
    let still := d.fc.missed.filter fun p => p != (src, res)
    { d with fc := { d.fc with missed := still, src := vmod d.fc.src src fun f => { f with
      present := left, cond := d.scopeMask row left } } }

/-- The pairs that are broken change: FS-121 is active while any pair but its own is broken, FS-122 while its own or that of
FS-121 is, any other source by its own `mask` (R563). -/
def Collector.setWire (fc : Collector) (src : Source) (on : Bool) (mask : BitVec 9) : Collector :=
  let w := setBit fc.wires src.val on
  let bit8 := fun (b : Bool) => if b then scopeBit devScope else (0 : BitVec 9)
  let src1 := vmod fc.src src fun f => { f with broken := if on then mask else 0 }
  let src2 := vmod src1 121 fun f => { f with broken := bit8 ((setBit w 121 false) != 0) }
  { fc with wires := w, src := vmod src2 122 fun f => { f with broken := bit8 (w.getLsbD 121 || w.getLsbD 122) } }

/-- BROKEN_PAIR (R563): once, FS-121 occurs, and the source is treated as active with the BROKEN flag. A broken pair of FS-121
itself is an occurrence of FS-122. -/
def Dev.brokenPair (d : Dev) (src : Source) : Dev :=
  if d.fc.wires.getLsbD src.val then d
  else if src = 121 then { d with fc := d.fc.setWire src true 0 }.occur 122 devScope {}
  else
    match faultRow src.val with
    | none => { d with fc := d.fc.setWire src true 0 }.occur 121 devScope { addr := src.val }
    | some row =>
      let scopes := if row.scope = .dev then [devScope] else d.presentScopes
      let mask := scopes.foldl (fun m s => m ||| scopeBit s) (0 : BitVec 9)
      let d1 := { d with fc := d.fc.setWire src true mask }
      scopes.foldl (fun d s => d.occur src s { broken := true }) (d1.occur 121 devScope { addr := src.val })

/-- PAIR_RESTORED (R563): the source follows its true rail again. -/
def Dev.pairRestored (d : Dev) (src : Source) : Dev := { d with fc := d.fc.setWire src false 0 }

/-- FAULT_FORCE served (R575): newly set bits make one occurrence each, in ascending source number; cleared bits end the
activity. The value is already checked to name no reserved source. -/
def Dev.writeForce (d : Dev) (k : Fin 4) (v : Nat) : Dev :=
  (List.range 32).foldl (fun d n =>
    let fs := 32 * k.val + n
    if h : fs < 128 then
      let src : Source := ⟨fs, h⟩
      let was := d.fc.force.getLsbD fs
      let set := bit v n
      let d1 := { d with fc := { d.fc with force := setBit d.fc.force fs set } }
      if set && !was then
        match faultRow fs with
        | none => d1
        | some row =>
          let scopes := if row.scope = .dev then [devScope] else d1.presentScopes
          let mask := scopes.foldl (fun m s => m ||| scopeBit s) (0 : BitVec 9)
          let d2 := { d1 with fc := { d1.fc with src := vmod d1.fc.src src fun f => { f with forced := mask } } }
          scopes.foldl (fun d s => d.occur src s { masterKind := 5, forced := true }) d2
      else if was && !set then
        { d1 with fc := { d1.fc with src := vmod d1.fc.src src fun f => { f with forced := 0 } } }
      else d1
    else d) d

/-- A class T source is latched in t's scope, or an occurrence that stopped t is not cleared (R462, R475, R568). -/
def Collector.tHeld (fc : Collector) (t : Tenant) : Bool :=
  (fc.stoppers.any fun p => p.2 == t) || (List.ofFn (n := 128) id).any fun s =>
    ((vget fc.src s).latched &&& scopeBit (tenantScope t)) != 0 && (match faultRow s.val with | some r => r.cls == 1 | none => false)

/-- The tail of every clear (R577): FC_FIRST and FC_OVERFLOW fall when the first source is clear everywhere, and stops
that the cleared occurrences caused no longer stand (R568). -/
def Dev.afterClear (d : Dev) : Dev :=
  let fc := d.fc.seal
  let live := fun (p : Source × Tenant) => ((vget fc.src p.1).latched &&& scopeBit (tenantScope p.2)) != 0
  let fc1 := { fc with stoppers := fc.stoppers.filter live }
  let held := allTenants.foldl (fun (m : BitVec 8) t => if fc1.tHeld t then m else setBit m t.val false) fc1.held
  let fc1 := { fc1 with held := held }
  let firstClear := if h : fc.first < 128 then (vget fc.src ⟨fc.first, h⟩).latched == 0 else false
  { d with fc := if firstClear then { fc1 with first := 0xFFFF, overflow := false } else fc1 }

/-- Clear the latch of a source in one scope. -/
def Dev.clearLatch (d : Dev) (src : Source) (s : Scope) : Dev :=
  { d with fc := { d.fc with src := vmod d.fc.src src fun f => { f with latched := f.latched &&& ~~~(scopeBit s) } } }

/-- The scopes a writer may clear. -/
def clearScopes : Req → List Scope
  | .tenant t => [tenantScope t]
  | .mgmt => List.ofFn id

/-- FC_CLEAR with an FS number (R577); the status answers the write. -/
def Dev.fcClear (d : Dev) (r : Req) (src : Source) : Dev × Nat :=
  let f := vget d.fc.src src
  match r with
  | .tenant t =>
    let s := tenantScope t
    if (f.latched &&& scopeBit s) = 0 then (d, stNoRight)
    else if f.activeIn s then (d, stMode)
    else ((d.clearLatch src s).afterClear, stOK)
  | .mgmt =>
    let d1 := (List.ofFn (n := 9) id).foldl (fun d s => if f.activeIn s then d else d.clearLatch src s) d
    (d1.afterClear, if (vget d1.fc.src src).latched = 0 then stOK else stMode)

/-- Every source. -/
def allSources : List Source := List.ofFn id

/-- FC_CLEAR with 0xFF (R577). -/
def Dev.fcClearAll (d : Dev) (r : Req) : Dev :=
  (allSources.foldl (fun d src =>
    (clearScopes r).foldl (fun d s => if (vget d.fc.src src).activeIn s then d else d.clearLatch src s) d) d).afterClear

/-- The 12 payload bytes of a FAULT record (R574). -/
def FaultRec.payload (r : FaultRec) : Bytes :=
  let flags := ofBool r.forced + 2 * ofBool r.merged + 4 * ofBool r.broken + 8 * ofBool r.pin + 16 * ofBool r.first
    + 32 * ofBool r.overflow
  natLE 1 r.cls ++ natLE 1 r.reaction ++ natLE 1 flags ++ natLE 1 r.access ++ natLE 1 r.masterKind ++ natLE 1 r.master
    ++ natLE 2 r.mergeCount ++ natLE 4 r.addr

/-- The clearing of a tenant reset (R578): latches of sources not active in t's scope, and t's open record. -/
def Dev.fcTenantReset (d : Dev) (t : Tenant) : Dev :=
  let d1 := allSources.foldl (fun d src =>
    if (vget d.fc.src src).activeIn (tenantScope t) then d else d.clearLatch src (tenantScope t)) d
  let d2 := d1.afterClear
  let mine := d2.fc.opens.filter fun r => r.scope == t.val
  let others := d2.fc.opens.filter fun r => r.scope != t.val
  let d3 := { d2 with fc := { d2.fc.seal with opens := others, stopDue := setBit d2.fc.stopDue t.val false } }
  mine.foldl (fun (d : Dev) r => d.emit
    { dest := .mgmt, type := 0x08, about := t.val, time := r.time, source := 0x4000 + r.source, et := r.et, payload := r.payload }) d3

/-- The FAULT event of a record (R574): a tenant scope goes to the tenant and management, the device scope to all. -/
def Dev.faultEvent (d : Dev) (r : FaultRec) : Dev :=
  let mk := fun (dest : Recipient) (about : Nat) =>
    ({ dest := dest, type := 0x08, about := about, time := r.time, source := 0x4000 + r.source, et := r.et,
       payload := r.payload } : EdgeRec)
  match tenantOf r.scope with
  | some t => (d.emit (mk (.tenant t) t.val)).emit (mk .mgmt t.val)
  | none => (d.presentTenants.foldl (fun d t => d.emit (mk (.tenant t) 8)) d).emit (mk .mgmt 8)

/-- Close every open record at the edge: each makes its FAULT event, in the order of opening (R571). -/
def Dev.closeFaults (d : Dev) : Dev :=
  d.fc.opens.foldl (fun d r => d.faultEvent r) { d with fc := { d.fc.seal with opens := [] } }

/-- FAULT_N is held low (R580, R530). -/
def Dev.faultN (d : Dev) : Bool :=
  d.rst.phase != 8 || allSources.any fun s => (vget d.fc.src s).latched != 0 && bit (d.reaction s) 7

/-- The FS_STATE byte that a requester reads (R576). -/
def Dev.fsState (d : Dev) (r : Req) (src : Source) : Nat :=
  let f := vget d.fc.src src
  let m : BitVec 9 := match r with
    | .tenant t => scopeBit (tenantScope t) ||| scopeBit devScope
    | .mgmt => BitVec.allOnes 9
  ofBool ((f.actives &&& m) != 0) + 2 * ofBool ((f.latched &&& m) != 0)
    + 4 * ofBool ((f.lastForced &&& m) != 0) + 8 * ofBool ((f.lastMerged &&& m) != 0)

/-- FC_LAST_RECORD as the dictionary carries it (Table FC-2, R573). -/
def FaultRec.bytes (r : FaultRec) : Bytes :=
  natBE 2 r.source ++ natBE 1 r.cls
    ++ natBE 1 (ofBool r.forced + 2 * ofBool r.merged + 4 * ofBool r.broken + 8 * ofBool r.pin) ++ natBE 1 r.scope
    ++ natBE 1 r.masterKind ++ natBE 2 r.master ++ natBE 8 r.addr ++ natBE 1 r.access ++ natBE 1 r.reaction
    ++ natBE 2 r.mergeCount ++ timeBE r.time

/-- ALIVE_TOGGLE (R579): every 500 always-on cycles, while it toggles. -/
def Dev.aliveToggle (d : Dev) : Dev :=
  if d.fc.aliveToggling then { d with fc := { d.fc with alive := !d.fc.alive, aliveCycles := 0 } } else d

end Sys2Proof.Machine
end

