-- ==== Sys2Proof/Machine/TimeBase.lean ====
section
/-! DEFINITION. The time base (chapter 2): time passing, the reference inputs, steps and slews, the handover, the
traceability state machine, the uncertainty law and the alarms. -/
namespace Sys2Proof.Machine

/-- A dictionary F64 setting as an exact rational. -/
def Cfg.q (c : Cfg) (ix sub : Nat) : Q := f64ToQ (BitVec.ofNat 64 (c.nat ix sub))

/-! ### Time passing -/

/-- The fine steps by which a slew has moved device time after `n` ticks (R47): one fine step at evenly spaced ticks, at
most SLEW_LIMIT of the time passed, and never past the offset. -/
def slewDone (limit : Q) (offset : Int) (n : Nat) : Int :=
  let cap : Int := (min n (limit.num.natAbs * n * finePerTick / limit.den) : Nat)
  if offset ≥ 0 then min offset cap else max offset (-cap)

/-- Milliseconds of Tahr's clock pass: leases (R443), re-admission timeouts (R96), the DWELL period (R502), the watchdog
count (R516, R500) and the relock of the reference PLL, by at most 10^-9 in a millisecond (R32), move.
A count that runs out stops one short of its end; the command that reports the expiry makes the last step
(notes/assumptions/5). -/
def Dev.passMs (d : Dev) (m : Nat) : Dev :=
  let down := fun (n : Nat) => if n = 0 then 0 else Nat.max 1 (n - m)
  { d with
    tb := { d.tb with ms := d.tb.ms + m, relock := d.tb.relock - 1000 * m }
    mgmt := { d.mgmt with locks := d.mgmt.locks.map fun l => { l with remaining := down l.remaining } }
    chans := d.chans.map fun c => { c with readmit := c.readmit.map fun r => { r with msLeft := down r.msLeft } }
    stairs := { d.stairs with dwell := down d.stairs.dwell }
    rst := if d.stairs.now = 0 || bit (d.dict.cfg.nat 0x1502 0) 6 then
        { d.rst with wdt := Nat.max d.rst.wdt (Nat.min (d.rst.wdt + m) (d.dict.cfg.nat 0x1605 0 - 1)) } else d.rst }

/-- Microseconds of the always-on clock pass. -/
def Dev.passUs (d : Dev) (k : Nat) : Dev :=
  let total := d.tb.msPhase + k
  let d1 := { d with tb := { d.tb with msPhase := total % 1000, aonUs := d.tb.aonUs + k }
                     fc := { d.fc with aliveCycles := d.fc.aliveCycles + k } }
  if total / 1000 = 0 then d1 else d1.passMs (total / 1000)

/-- Device time `n` ticks after a tick that starts at `fine`, under a slew that has run for `done` ticks (R34, R47). -/
def fineAfter (limit : Q) (fine : Nat) (slew : Int) (done n : Nat) : Nat :=
  ((fine : Int) + finePerTick * n + (slewDone limit slew (done + n) - slewDone limit slew done)).toNat

/-- Device time at the start of the tick `n` ticks ahead. -/
def Dev.fineAhead (d : Dev) (n : Nat) : Nat := fineAfter (d.dict.cfg.q 0x1410 9) d.tb.devFine d.tb.slew d.tb.slewTicks n

/-- `n` ticks pass with the fast clocks running (R34, R39, R47). -/
def Dev.passTicks (d : Dev) (n : Nat) : Dev :=
  let us := d.tb.usPhase + n
  let d1 := { d with tb := { d.tb with
    devFine := d.fineAhead n, tick := (d.tb.tick + n) % 2 ^ 64, slewTicks := d.tb.slewTicks + n
    holdFine := if d.traceShown = 1 then d.tb.holdFine + finePerTick * n else d.tb.holdFine
    usPhase := us % ticksPerUs } }
  d1.passUs (us / ticksPerUs)

/-- `k` microseconds pass with the fast clocks stopped: Tahr keeps device time. -/
def Dev.passAsleep (d : Dev) (k : Nat) : Dev :=
  let d1 := d.passUs k
  { d1 with tb := { d1.tb with devFine := d1.tb.devFine + k * 1000 * finePerNs
                               holdFine := if d1.traceShown = 1 then d1.tb.holdFine + k * 1000 * finePerNs
                                           else d1.tb.holdFine } }

/-! ### TIME_STATUS -/

/-- The payload of a TIME_STATUS record (R61). -/
def Dev.timeStatusPayload (d : Dev) (reason prev : Nat) (value : Nat) : Bytes :=
  natLE 1 reason ++ natLE 1 d.traceShown ++ natLE 1 prev ++ natLE 1 (d.tb.freqActive + 16 * d.tb.todActive) ++ natLE 8 value

/-- A TIME_STATUS record to every tenant and the management plane. -/
def Dev.timeStatus (d : Dev) (reason prev value : Nat) : Dev :=
  d.emitAll 0x0B 0x5000 d.now (d.timeStatusPayload reason prev value)

/-- A step's size as R61 carries it: DUR64, saturated. -/
def stepValue (z : Int) : Nat :=
  if z > 2 ^ 63 - 1 then 0x7FFFFFFFFFFFFFFF else if z < -(2 ^ 63) then 2 ^ 63 else ofSigned 64 z

/-! ### Reference inputs -/

/-- Nominal REFIN edges in 1 ms by frequency code (R28). -/
def refinNominal : Nat → Nat
  | 1 => 5000 | 2 => 10000 | 3 => 100000 | _ => 0

/-- REFIN period in fine steps by frequency code. -/
def refinPeriod : Nat → Nat
  | 1 => 2867200 | 2 => 1433600 | 3 => 143360 | _ => 0

/-- `a` and `b` differ by at most `k`. -/
def near (a b k : Nat) : Bool := decide (a ≤ b + k) && decide (b ≤ a + k)

/-- The frequency code that a count selects (R28). -/
def refinSelect (setting edges : Nat) : Nat :=
  if setting ≠ 0 then setting
  else if near edges 5000 50 then 1 else if near edges 10000 100 then 2 else if near edges 100000 1000 then 3 else 0

/-- The frequency source that R30 chooses: 0 none, 1 REFIN, 2 SyncE. -/
def freqChoice (prio : Nat) (refin synce : Bool) : Nat :=
  match prio with
  | 0 => if refin then 1 else if synce then 2 else 0
  | 1 => if synce then 2 else if refin then 1 else 0
  | 2 => if refin then 1 else 0
  | 3 => if synce then 2 else 0
  | _ => 0

/-- The frequency source that serves: by qualification and priority alone. -/
def Dev.freqPick (d : Dev) : Nat := freqChoice (d.dict.cfg.nat 0x1410 2) d.tb.refinQual d.tb.synceQual

/-- The reference PLL after a change of the qualified sources (R32): without one it enters frequency hold and keeps the mean
word of the preceding 1 s; with one again it relocks from the word held, over a difference that the spec does not state
(both values free, notes/assumptions/2). -/
def Dev.followFreq (d : Dev) : Dev :=
  if d.freqPick = 0 then
    if d.tb.freqHold then d
    else let (v, d1) := d.free; { d1 with tb := { d1.tb with freqHold := true, holdWord := v, relock := 0 } }
  else if d.tb.freqHold then
    let (v, d1) := d.free; { d1 with tb := { d1.tb with freqHold := false, relock := v.toNat } }
  else d

/-- The loss of a frequency source while the fast domain sleeps or wakes is remembered for the completing edge (R43, R44,
R50). -/
def Dev.noteSleepLoss (d : Dev) (code : Nat) (src : Source) : Dev :=
  let asleep := decide (d.stairs.now ≥ 3) && !d.tb.fast
  let tb := d.tb
  { d with tb := { tb with
    sleepLoss := if (asleep || tb.handover.isSome) && tb.freqActive == code && !tb.sleepLoss.contains src
      then tb.sleepLoss ++ [src] else tb.sleepLoss
    handover := tb.handover.map fun h => if code = 1 && !h.done then { h with done := true, lost := true } else h } }

/-- REFIN_COUNT: a 1 ms count completes (R28, Table TB-1). "Ten consecutive counts differ by at most one edge" is judged
between each count and the one before it, and REFIN once qualified keeps its frequency code until it is lost, also where
REFIN_FREQ changes (DEDUCED, notes/assumptions/37). -/
def Dev.refinCount (d : Dev) (edges : Nat) (lock : Bool) : Dev :=
  let code := refinSelect (d.dict.cfg.nat 0x1410 1) edges
  let nom := refinNominal code
  let inRange := code != 0 && decide (10000 * (max edges nom - min edges nom) ≤ nom)
  let run := if !inRange then 0 else if d.tb.refinRun > 0 && near edges d.tb.refinCount 1 then d.tb.refinRun + 1 else 1
  let qual := d.tb.refinQual || (decide (run ≥ 10) && lock)
  { d with tb := { d.tb with refinCount := edges, refinRun := min run 10, refinFreq := if d.tb.refinQual then d.tb.refinFreq else code
                             refPllLock := lock, refinQual := qual } }.followFreq

/-- REFIN_LOSS: no edge within two nominal periods (Table TB-1, R32). The reference PLL holds unless SyncE serves. In Stair 6
REFIN is not watched (R44). -/
def Dev.refinLoss (d : Dev) : Dev :=
  ({ d with tb := { d.tb with refinQual := false, refinRun := 0, refPllLock := false } }.noteSleepLoss 1 16).followFreq

/-- CORE_PLL_UNLOCK (R33). -/
def Dev.corePllUnlock (d : Dev) : Dev :=
  let d1 := { d with tb := { d.tb with corePllLock := false } }
  if d.freqPick != 0 then d1.condRise 21 devScope 0 [] else d1

/-- `ql` is at or above the minimum Quality Level: in the SSM codes of option 1 a lower code is a better level
(notes/assumptions/10). -/
def qlAtLeast (ql least : Nat) : Bool := decide (ql ≤ least)

/-- SYNCE_LOSS: link down, the level below the minimum, or no ESMC message for 5 s (Table TB-1). -/
def Dev.synceLoss (d : Dev) : Dev := ({ d with tb := { d.tb with synceQual := false } }.noteSleepLoss 2 19).followFreq

/-- ESMC_MESSAGE (R46): on the selected port the level is taken; below the minimum SyncE is lost (Table TB-1). -/
def Dev.esmc (d : Dev) (port : Fin 2) (ql : Nat) : Dev :=
  if port.val = d.dict.cfg.nat 0x1290 1 then
    let d1 := { d with tb := { d.tb with synceQl := ql % 16 } }
    if d.tb.synceQual && !qlAtLeast (ql % 16) (d.dict.cfg.nat 0x1290 2) then d1.synceLoss else d1
  else d

/-- The port that SYNCE_PORT or PTP_PORT names. -/
def Dev.portOf (d : Dev) (n : Nat) : Port := if n = 0 then vget d.odp.port 0 else vget d.odp.port 1

/-- SYNCE_QUALIFY: link up and the level held for 10 s (Table TB-1). -/
def Dev.synceQualify (d : Dev) : Dev :=
  if (d.portOf (d.dict.cfg.nat 0x1290 1)).link && qlAtLeast d.tb.synceQl (d.dict.cfg.nat 0x1290 2) then
    { d with tb := { d.tb with synceQual := true } }.followFreq
  else d

/-- The link of a port goes down: a SyncE input on it is lost (Table TB-1). -/
def Dev.synceLinkDown (d : Dev) (port : Nat) : Dev :=
  if d.tb.synceQual && d.dict.cfg.nat 0x1290 1 = port then d.synceLoss else d

/-- The time-of-day source that R30 chooses: 0 none, 1 PPS_IN, 2 PTP. -/
def todChoice (prio : Nat) (pps ptp : Bool) : Nat :=
  match prio with
  | 0 => if pps then 1 else if ptp then 2 else 0
  | 1 => if ptp then 2 else if pps then 1 else 0
  | 2 => if pps then 1 else 0
  | 3 => if ptp then 2 else 0
  | _ => 0

/-- A time-of-day source is qualified, and its time does not lie below 0 s (Table TB-1, R630). -/
def Dev.todQualified (d : Dev) (src : Nat) : Bool :=
  d.tb.todBelow != src && (if src = 1 then d.tb.ppsQual else src == 2 && d.tb.ptpQual)

/-- The time-of-day source by priority among the qualified ones (R30, R630). -/
def Dev.todPick (d : Dev) : Nat := todChoice (d.dict.cfg.nat 0x1410 3) (d.todQualified 1) (d.todQualified 2)

/-- The priority code names a time-of-day source (Table TB-2). -/
def todNamed (prio src : Nat) : Bool := todChoice prio (src == 1) (src == 2) == src && src != 0

/-- The time-of-day source in use: the one chosen at the last frame edge while it stays qualified (R30: the device returns to
the first at the next frame edge), otherwise the one that priority gives. -/
def Dev.todInUse (d : Dev) : Nat :=
  if d.todQualified d.tb.todActive && todNamed (d.dict.cfg.nat 0x1410 3) d.tb.todActive then d.tb.todActive else d.todPick

/-- A new offset from the time-of-day source in use (R47): a step at the next frame edge, or a slew. Slew and step within
reach confirm device time (R44). -/
def Dev.newOffset (d : Dev) (src : Nat) (o : Int) : Dev :=
  let tb := { d.tb with offsets := (o :: d.tb.offsets).take 64 }
  if o.natAbs > (d.dict.cfg.int 0x1410 6).natAbs then { d with tb := { tb with pendingStep := some o, stepFrom := src } }
  else { d with tb := { tb with slew := o, slewTicks := 0, todBelow := if tb.todBelow = src then 0 else tb.todBelow
                                needConfirm := false } }

/-- A time-of-day source delivers an offset. It acts while its source is in use. A source that counts as unqualified under
R630 delivers on: where no other source serves, its offset may step device time again, and otherwise an offset that keeps
device time at or above 0 s qualifies it. -/
def Dev.sourceOffset (d : Dev) (src : Nat) (o : Int) : Dev :=
  let below := d.tb.todBelow == src
  if d.todInUse = src || (below && d.todInUse == 0 && todNamed (d.dict.cfg.nat 0x1410 3) src) then d.newOffset src o
  else if below && decide ((d.tb.devFine : Int) + o ≥ 0) then { d with tb := { d.tb with todBelow := 0 } }
  else d

/-- The offset from device time to the nearest whole second. -/
def secondOffset (fine : Int) : Int := roundDiv fine finePerSecond * finePerSecond - fine

/-- PPS_PULSE (R29, R37, Table TB-1): a pulse whose rising edge lies at `fine` in the present tick and which is `widthNs`
high. PPS_EDGE selects the edge that marks the second, and the marked instant lies PPS_CABLE_DELAY before it. Bring-up
ignores the pulse (Table RB-7), and with the fast clocks stopped no tick takes its time. -/
def Dev.ppsPulse (d : Dev) (fine : Fin 8192) (widthNs : Nat) : Dev :=
  if widthNs < 100 || d.rst.phase ≠ 8 || !d.tb.fast then d
  else
    let edge := fine.val + if d.dict.cfg.nat 0x1410 4 = 1 then widthNs * finePerNs else 0
    let at_ := d.tb.tick * finePerTick + edge
    let spaced := match d.tb.ppsTick with
      | some p => near at_ (p + ticksPerSecond * finePerTick) (1750 * finePerTick)
      | none => false
    let run := if spaced then min (d.tb.ppsRun + 1) 3 else 1
    let d1 := { d with tb := { d.tb with ppsTick := some at_, ppsRun := run, ppsQual := d.tb.ppsQual || decide (run ≥ 3) } }
    let marked : Int := (d.tb.devFine + edge : Nat) - d.dict.cfg.int 0x1410 5
    match d.tb.todSet with
    | some (v, true) =>
      { d1 with tb := { d1.tb with todSet := none, pendingStep := some ((fineOfTime v : Int) - marked), stepFrom := 0 } }
    | _ => if d1.tb.ppsQual then d1.sourceOffset 1 (secondOffset marked) else d1

/-- The PTP port leaves the time transmitter's role once PPS_IN is no longer the qualified time-of-day source (Table TB-4): it
listens again (portState 4, PRESUMED from IEEE 1588-2019, notes/assumptions/39). -/
def Dev.ptpYield (d : Dev) : Dev :=
  if d.tb.ptpState = 6 && d.todInUse != 1 then
    { d with tb := { d.tb with ptpState := 4 } }.timeStatus 0x07 d.traceShown 0
  else d

/-- PPS_LOSS. -/
def Dev.ppsLoss (d : Dev) : Dev :=
  { d with tb := { d.tb with ppsQual := false, ppsRun := 0, ppsTick := none, todBelow := if d.tb.todBelow = 1 then 0 else d.tb.todBelow } }.ptpYield

/-- The offset and the mean path delay of a Sync interval, corrected for the latencies of the port and the link's asymmetry
(Table TB-4, `0x1280.0A`-`0C`): half of both latencies stands in the delay, half of their difference in the offset. -/
def Cfg.ptpCorrect (c : Cfg) (offset delay : Int) : Int × Int :=
  let i := c.int 0x1280 0x0B
  let e := c.int 0x1280 0x0C
  (offset - roundDiv (i - e) 2 - c.int 0x1280 0x0A, delay - roundDiv (i + e) 2)

/-- PTP_MESSAGE (R36, R45). A message on another port or another transport does not reach the PTP port; one of another
domain, or one that uses an unsupported feature, is discarded and counted. -/
def Dev.ptpMessage (d : Dev) (port : Fin 2) (transport domain : Nat) (m : PtpMsg) : Dev :=
  let c := d.dict.cfg
  let discard := { d with tb := { d.tb with ptpDiscards := satAdd 32 d.tb.ptpDiscards 1 } }
  if c.nat 0x1280 1 = 0 || port.val != c.nat 0x1280 2 || transport != c.nat 0x1280 4 then d
  else if domain != c.nat 0x1280 3 then discard
  else match m with
    | .unsupported => discard
    | .announce gm steps utc valid st =>
      let st1 := if st = 6 && !(c.nat 0x1280 5 = 1 && d.todInUse = 1) then d.tb.ptpState else st
      let cfg1 := if d.tb.todActive = 2 && valid then c.set 0x1404 0 (natBE 2 (ofSigned 16 utc)) else c
      let d1 := { d with dict := { d.dict with cfg := cfg1 }
                         tb := { d.tb with ptpGm := BitVec.ofNat 64 gm, ptpSteps := steps % 2 ^ 16, ptpState := st1 } }
      if st1 = d.tb.ptpState then d1 else d1.timeStatus 0x07 d1.traceShown 0
    | .sync rawOffset rawDelay =>
      let (o, delay) := c.ptpCorrect rawOffset rawDelay
      let small := decide (o.natAbs < (c.int 0x1410 6).natAbs)
      let run := if d.tb.ptpState = 9 && small then min (d.tb.ptpRun + 1) 16 else 0
      let d1 := { d with tb := { d.tb with ptpOffset := o, ptpDelay := delay, ptpRun := run
                                           ptpQual := d.tb.ptpQual || decide (run ≥ 16) } }
      if d1.tb.ptpQual then d1.sourceOffset 2 (-o) else d1

/-- PTP_LOSS. -/
def Dev.ptpLoss (d : Dev) : Dev :=
  { d with tb := { d.tb with ptpQual := false, ptpRun := 0, todBelow := if d.tb.todBelow = 2 then 0 else d.tb.todBelow } }

/-- PTP_MESSAGE_TRANSMIT (R45, Table TB-4): a time receiver sends Delay_Req, a time transmitter the others, the latter only
while PPS_IN is the qualified time-of-day source. The frame names the transport. -/
def Dev.ptpTransmit (d : Dev) (k : PtpTx) : Dev :=
  let c := d.dict.cfg
  let port : Fin 2 := if c.nat 0x1280 2 = 0 then 0 else 1
  let may := match k with
    | .delayReq => d.tb.ptpState == 9 || d.tb.ptpState == 8
    | _ => d.tb.ptpState == 6 && d.todInUse == 1
  let code := match k with | .sync => 0 | .delayReq => 1 | .followUp => 8 | .announce => 11
  let stamp := timeOfFine (((d.tb.devFine : Int) + c.int 0x1280 0x0C).toNat)
  if c.nat 0x1280 1 = 1 && may && (vget d.odp.port port).link then
    { d with tb := { d.tb with ptpTxSeq := (d.tb.ptpTxSeq + 1) % 2 ^ 16 } }.send
      (.netFrame port 0x88F7 (c.nat 0x1280 4) (d.vlanOf port) (natBE 1 code ++ natBE 1 (c.nat 0x1280 3) ++ natBE 2 d.tb.ptpTxSeq ++ timeBE stamp))
  else d

/-! ### The uncertainty law (Table TB-6) -/

/-- A duration in fine steps, in seconds. -/
def secondsOf (fine : Nat) : Q := ⟨fine, finePerSecond⟩

/-- u_phi squared, in s^2: the variance of the offsets held, and at least one fine step squared over 12. The standard
deviation is the population's (the sum of squares over n), and with fewer than 64 offsets n is the number held (DESIGN
CHOICE, notes/assumptions/37: the spec says neither). -/
def phiVariance (offsets : List Int) : Q :=
  let n := offsets.length
  let least : Q := ⟨1, 12 * finePerSecond * finePerSecond⟩
  if n = 0 then least
  else
    let sum := offsets.foldl (fun a o => a + o) 0
    let sq := offsets.foldl (fun a o => a + o * o) 0
    least.max ⟨n * sq - sum * sum, n * n * finePerSecond * finePerSecond⟩

/-- u_y0' squared (Table TB-6), with U_HOLD_F0 times 10 while FS-025 is active (R582). -/
def Dev.uY0Sq (d : Dev) : Q :=
  let f := d.dict.cfg.q 0x1420 1
  let h := d.dict.cfg.q 0x1420 3
  let h1 := if (vget d.fc.src 25).actives != 0 then h.mul (Q.ofInt 10) else h
  f.sq.add h1.sq

/-- u_y and u_T by the law of the state that records carry, with tau at the end of the period of 1,024 frames (R53, R54). -/
def Dev.recompute (d0 : Dev) : Dev :=
  let d := { d0 with tb := { d0.tb with recomputeFrames := 0 } }
  let c := d.dict.cfg
  match d.traceShown with
  | 0 => { d with tb := { d.tb with uY := BitVec.ofNat 64 (c.nat 0x1420 1)
                                    uT := f64Sqrt ((c.q 0x1420 2).sq.add (phiVariance d.tb.offsets)) } }
  | 1 =>
    let tau := secondsOf (d.tb.holdFine + 1024 * ticksPerFrame * finePerTick)
    let y0 := d.uY0Sq
    let dt := (c.q 0x1420 4).mul tau
    let half : Q := ⟨1, 2⟩
    let uT := if d.tb.uT0 = f64Inf then f64Inf
      else f64Sqrt (((f64ToQ d.tb.uT0).sq.add (y0.mul tau.sq)).add ((dt.mul tau).mul half).sq)
    { d with tb := { d.tb with uY := f64Sqrt (y0.add dt.sq), uT := uT } }
  | _ => { d with tb := { d.tb with uY := BitVec.ofNat 64 (c.nat 0x1420 5), uT := f64Inf } }

/-! ### Alarms -/

/-- The alarm's time entry. -/
def alarmIx (which : Fin 2) : Nat := 0x1440 + which.val

/-- The alarm's time in fine steps. -/
def Dev.alarmFine (d : Dev) (owner : Fin 9) (which : Fin 2) : Nat :=
  fineOfTime (timeOfBE (d.dict.cfg.get (alarmIx which) owner.val))

/-- Change one alarm. -/
def Dev.setAlarm (d : Dev) (owner : Fin 9) (which : Fin 2) (a : Alarm) : Dev :=
  { d with tb := { d.tb with alarms := vmod d.tb.alarms owner fun v => vmod v which fun _ => a } }

/-- A TIME_STATUS record of an alarm: to the owning tenant, or to management for the housekeeping engine's. -/
def Dev.alarmRecord (d : Dev) (owner : Fin 9) (reason value : Nat) : Dev :=
  let p := d.timeStatusPayload reason d.traceShown value
  match tenantOf owner.val with
  | some t => d.emitTenant t false 0x0B 0x5000 d.now p
  | none => d.emitMgmt 0x0B 0x5000 d.now p

/-- An alarm is armed or found late at the Landing that commits ALARM_CTRL (R57). -/
def Dev.armAlarm (d : Dev) (owner : Fin 9) (which : Fin 2) : Dev :=
  let ctrl := d.dict.cfg.nat 0x1442 owner.val
  if bit ctrl which.val then
    if d.alarmFine owner which < d.tb.devFine + 2 * ticksPerFrame * finePerTick then
      (d.setAlarm owner which { status := 3 }).alarmRecord owner 0x05 which.val
    else d.setAlarm owner which { status := 1 }
  else d.setAlarm owner which {}

/-- Both alarms of an owner. -/
def Dev.armAlarms (d : Dev) (owner : Fin 9) : Dev := (d.armAlarm owner 0).armAlarm owner 1

/-- An armed alarm fires: fired, with its TIME_STATUS record, also where it goes to the trigger engine (R58 and R59 speak of
an alarm's records without exception; DEDUCED, notes/assumptions/37). Neither R61 nor Table HQ-6 gives the STEPPED flag a
bit: it is bit 8 of the 8-byte value, above the alarm number (DESIGN CHOICE, notes/assumptions/37). -/
def Dev.fireAlarm (d : Dev) (owner : Fin 9) (which : Fin 2) (stepped : Bool) : Dev :=
  (d.setAlarm owner which { status := 2 }).alarmRecord owner 0x04 (which.val + 256 * ofBool stepped)

/-- The alarm goes to the trigger engine (Table TB-7, ALARM_CTRL bits 4 and 5). -/
def Dev.alarmToTrigger (d : Dev) (owner : Fin 9) (which : Fin 2) : Bool :=
  bit (d.dict.cfg.nat 0x1442 owner.val) (4 + which.val)

/-- Every alarm. -/
def allAlarms : List (Fin 9 × Fin 2) := (List.ofFn (n := 9) id).flatMap fun o => [(o, 0), (o, 1)]

/-- The armed alarms that a forward step carries device time past (R58). -/
def Dev.steppedAlarms (d : Dev) : List (Fin 9 × Fin 2) :=
  allAlarms.filter fun p => (vget (vget d.tb.alarms p.1) p.2).status == 1 && decide (d.alarmFine p.1 p.2 ≤ d.tb.devFine)

/-! ### TOD_SET and steps -/

/-- A write of TOD_SET (R37): the status, and the state with the value pending. -/
def Dev.todSet (d : Dev) (v : Time96) : Dev × Nat :=
  let prio := d.dict.cfg.nat 0x1410 3
  if d.tb.todActive = 2 then (d, stMode)
  else if prio ≤ 2 then
    if v.ns ≠ 0 || v.sub ≠ 0 then (d, stRange) else ({ d with tb := { d.tb with todSet := some (v, true) } }, stOK)
  else ({ d with tb := { d.tb with todSet := some (v, false) } }, stOK)

/-- The pending step or TOD_SET value of a frame edge, taken from its first tick (R37, R48). A source's step whose result
would lie below 0 s is not applied, and the source counts as unqualified (R630). The alarms that a forward step passes are
fired by the meaning of the edge (`Dev.fireStepped`). -/
def Dev.applyStep (d : Dev) : Dev :=
  let d0 := match d.tb.todSet with
    | some (v, false) =>
      { d with tb := { d.tb with todSet := none, pendingStep := some ((fineOfTime v : Int) - d.tb.devFine), stepFrom := 0 } }
    | _ => d
  match d0.tb.pendingStep with
  | none => d0
  | some z =>
    let src := d0.tb.stepFrom
    if src != 0 && decide ((d0.tb.devFine : Int) + z < 0) then
      { d0 with tb := { d0.tb with pendingStep := none, todBelow := src } }
    else
      let d1 := { d0 with tb := { d0.tb with
        pendingStep := none, devFine := ((d0.tb.devFine : Int) + z).toNat, slew := 0, slewTicks := 0
        todBelow := if d0.tb.todBelow = src then 0 else d0.tb.todBelow, needConfirm := d0.tb.needConfirm && src == 0 } }
      (d1.raiseDev 24).timeStatus 0x02 d1.traceShown (stepValue z)

/-! ### Handover -/

/-- HANDOVER_SEED (R41 step 2): the fast counter takes Tahr's count plus phi, the tick counter zero. From here to the
completing edge records carry HOLDOVER, with the uncertainty of that state (R41, R54). -/
def Dev.handoverSeed (d : Dev) : Dev :=
  if d.tb.fast then d
  else
    let first := d.tb.trace = 0
    { d with tb := { d.tb with
      devFine := d.tb.aonUs * 1000 * finePerNs + d.tb.phi, tick := 0, fast := true, corePllLock := true, usPhase := 0
      ppsTick := none, marks := []
      uY0 := if first then d.tb.uY else d.tb.uY0, uT0 := if first then d.tb.uT else d.tb.uT0
      holdFine := if first then 0 else d.tb.holdFine
      handover := some { done := !d.tb.refinQual, fromSleep := decide (d.stairs.now ≥ 3) } } }.recompute

/-- HANDOVER_CORRECTION (R41 step 3, R42, R43): the mean residual of two REFIN edges. -/
def Dev.handoverCorrection (d : Dev) (first second : Int) : Dev :=
  match d.tb.handover with
  | some h =>
    if h.done then d
    else if !d.tb.refinQual then { d with tb := { d.tb with handover := some { h with done := true, lost := true } } }
    else
      let eps := (first + second).tdiv 2
      let h1 := { h with first := some first, done := true }
      if 2 * eps.natAbs > refinPeriod d.tb.refinFreq then
        { d with tb := { d.tb with handover := some h1, needConfirm := true } }.raiseDev 23
      else { d with tb := { d.tb with handover := some h1, devFine := ((d.tb.devFine : Int) - eps).toNat } }
  | none => d

/-! ### The traceability state machine -/

/-- Choose the sources in use (R30); a switch between two sources is a source change. A pending TOD_SET is discarded when PTP
becomes active (R37). -/
def Dev.selectSources (d : Dev) : Dev :=
  let f := d.freqPick
  let t := d.todPick
  let changed := (f != 0 && d.tb.freqActive != 0 && f != d.tb.freqActive) || (t != 0 && d.tb.todActive != 0 && t != d.tb.todActive)
  let d1 := { d with tb := { d.tb with freqActive := f, todActive := t
                                       todSet := if t = 2 then none else d.tb.todSet } }.ptpYield
  if changed then d1.timeStatus 0x03 d1.traceShown 0 else d1

/-- The state changes, with its record, TRACE_SINCE and the uncertainties (R49, R54). `prev` is the state that records
carried before. -/
def Dev.setTrace (d : Dev) (prev s : Nat) : Dev :=
  let d1 := { d with tb := { d.tb with
    trace := s, traceSince := d.now, holdFine := 0, holdExpired := false
    uY0 := if s = 1 then d.tb.uY else d.tb.uY0, uT0 := if s = 1 then d.tb.uT else d.tb.uT0 } }
  d1.recompute.timeStatus 0x01 prev 0

/-- The loss sources of an entry into HOLDOVER (R50): those of the sources formerly in use that are gone. -/
def lossSources (oldF newF oldT newT : Nat) (code4 : Bool) : List Source :=
  (if newF = 0 then (if oldF = 2 then [19] else if oldF = 1 then [16] else []) else []) ++
  (if newT = 0 && !code4 then (if oldT = 2 then [18] else if oldT = 1 then [17] else []) else [])

/-- HOLDOVER has reached HOLDOVER_LIMIT, or u_T has reached U_LIMIT (Table TB-5). -/
def Dev.holdoverDue (d : Dev) : Bool :=
  decide (d.dict.cfg.nat 0x1410 7 * finePerSecond ≤ d.tb.holdFine) || d.tb.uT == f64Inf
    || (d.dict.cfg.q 0x1410 8).le (f64ToQ d.tb.uT)

/-- The conditions of Table TB-5 for TRACEABLE at a frame edge, on the sources just chosen; `h` is the handover that this
edge completes (R42-R44). -/
def Dev.traceGood (d : Dev) (h : Option Handover) : Bool :=
  d.tb.freqActive != 0 && (d.tb.todActive != 0 || d.dict.cfg.nat 0x1410 3 == 4) && !d.tb.needConfirm
    && match h with | some x => !x.lost && !(x.fromSleep && !d.tb.sleepLoss.isEmpty) | none => true

/-- The end of a handover at its frame edge (R41 step 4). -/
def Dev.endHandover (d : Dev) : Dev :=
  if d.tb.handover.isSome then { d with tb := { d.tb with handover := none } }.timeStatus 0x06 d.traceShown 0 else d

/-- The uncertainties are computed anew every 1,024 frames (R54). -/
def Dev.recomputeEdge (d : Dev) : Dev :=
  if d.tb.recomputeFrames + 1 ≥ 1024 then d.recompute else { d with tb := { d.tb with recomputeFrames := d.tb.recomputeFrames + 1 } }

/-- The time base at a frame edge: step, end of the handover, source selection and the state machine (R41, R48, R49). A
TRACEABLE state that a handover ends in is a return from the HOLDOVER that its records carried (Example TB-1). -/
def Dev.timeEdge (d : Dev) : Dev :=
  let d1 := d.applyStep
  let shown := d1.traceShown
  let h := d1.tb.handover
  let oldF := d1.tb.freqActive
  let oldT := d1.tb.todActive
  let d3 := d1.endHandover.selectSources
  let good := d3.traceGood h
  let causes := lossSources oldF d3.tb.freqActive oldT d3.tb.todActive (d3.dict.cfg.nat 0x1410 3 == 4)
    ++ d3.tb.sleepLoss.filter fun k => !(lossSources oldF d3.tb.freqActive oldT d3.tb.todActive false).contains k
  let d4 := { d3 with tb := { d3.tb with sleepLoss := [] } }
  if good && shown != 0 then
    [16, 17, 18, 19, 20].foldl (fun d (s : Source) => d.condFall s devScope) (d4.setTrace shown 0)
  else if !good && d4.tb.trace = 0 then
    causes.foldl (fun d s => d.condRise s devScope 0 []) (d4.setTrace 0 1)
  else if d4.tb.trace = 1 && (d4.tb.holdExpired || d4.holdoverDue) then (d4.setTrace 1 2).condRise 20 devScope 0 []
  else if h.isSome then d4.recompute
  else d4.recomputeEdge

/-- HOLDOVER_EXPIRED (R49, R50): the limit is reached; FREE follows at the next frame edge. -/
def Dev.holdoverExpired (d : Dev) : Dev :=
  if d.tb.trace = 1 && d.holdoverDue then { d with tb := { d.tb with holdExpired := true } } else d

/-! ### Wakes (R498, R502) -/

/-- DWELL of STAIR_POLICY. -/
def Cfg.dwell (c : Cfg) : Nat := fieldBE (c.get 0x1501 0) 4 4

/-- A wake source fires (R496, R498): below Stair 0 the wake begins; between acceptance and the executing edge the descent
is cancelled, with its record at the next edge. WAKE_N follows R425. -/
def Dev.wake (d : Dev) (cause : Nat) : Dev :=
  if cause < 7 && !bit (d.dict.cfg.nat 0x1502 0) cause then d
  else if d.stairs.now = 0 then
    match d.stairs.accepted with
    | some (tgt, _) =>
      { d with stairs := { d.stairs with accepted := none, cancelled := some (tgt, cause), dwell := d.dict.cfg.dwell } }
    | none => d
  else if d.stairs.waking.isSome || (cause = 0 && decide (d.stairs.now > 2)) then d
  else { d with stairs := { d.stairs with waking := some cause, wakeMs := d.tb.ms }
                link := { d.link with wakeN := d.link.wakeN || (decide (d.stairs.now ≥ 3) && cause != 1 && d.link.l1) } }

end Sys2Proof.Machine
end

