-- ==== Sys2Proof/Machine/CalBlock.lean ====
section
/-! DEFINITION. Channel blocks (Table CA-1), their interpolation between temperature sets (R313), the deltas of a
procedure's results (R308) and the uncertainties of results (R320, R321). -/
namespace Sys2Proof.Machine

/-! ### Layout of a channel block -/

/-- A field of a channel block: its width and how a blend and a delta treat it. -/
inductive BlockField where
  /-- Unsigned or signed numeric field of n bytes. -/
  | u (n : Nat) | i (n : Nat)
  /-- A selection item or reserved bytes: the same in every set (R294). -/
  | same (n : Nat)
  /-- FLAGS. -/
  | flags
  | f64
  /-- T_MEAS and EPOCH_MEAS. -/
  | meas
  deriving DecidableEq, Repr

/-- Table CA-1, field by field. -/
def blockFields : List BlockField :=
  List.replicate 256 (.u 1) ++ [.i 4, .i 4, .same 16, .u 4, .i 4, .i 2, .i 2, .i 2, .i 2] ++ List.replicate 128 (.i 1)
    ++ [.same 4, .same 8, .i 2, .i 2, .i 2, .i 2, .flags, .f64, .f64, .f64, .f64, .f64, .meas, .same 8]

/-- The width of a field in bytes. -/
def BlockField.width : BlockField → Nat
  | .u n => n | .i n => n | .same n => n | .flags => 4 | .f64 => 8 | .meas => 16

/-- Eight bytes, least significant first, as a binary64 pattern. -/
def f64LE (b : Bytes) : BitVec 64 := BitVec.ofNat 64 (leNat b)

/-- Two blocks combined field by field. -/
def combine (f : BlockField → Bytes → Bytes → Bytes) : List BlockField → Bytes → Bytes → Bytes
  | [], _, _ => []
  | k :: ks, a, b => f k (a.take k.width) (b.take k.width) ++ combine f ks (a.drop k.width) (b.drop k.width)

/-- One field of the blend at w = num/den (R313). -/
def blendField (num : Int) (den : Nat) (k : BlockField) (a b : Bytes) : Bytes :=
  let mix := fun (x y : Int) => roundDiv (x * den + num * (y - x)) den
  match k with
  | .u n => natLE n (mix (leNat a) (leNat b)).toNat
  | .i n => natLE n (ofSigned (8 * n) (mix (toSigned (8 * n) (leNat a)) (toSigned (8 * n) (leNat b))))
  | .same _ => a
  | .flags => natLE 4 (leNat a ||| leNat b)
  | .f64 =>
    if f64NotFinite (f64LE a) || f64NotFinite (f64LE b) then natLE 8 f64Inf.toNat
    else
      let x := f64ToQ (f64LE a)
      natLE 8 (f64OfQ (x.add ((Q.mk num den).mul ((f64ToQ (f64LE b)).sub x)))).toNat
  | .meas => if fieldLE a 12 4 < fieldLE b 12 4 then b else a

/-- One field of a set's block after a result's Landing: numeric items move by new - base, the others become new (R308). -/
def deltaField (base : Bytes) (k : BlockField) (old new : Bytes) : Bytes :=
  match k with
  | .u n => natLE n ((leNat old : Int) + leNat new - leNat base).toNat
  | .i n => natLE n (ofSigned (8 * n) (toSigned (8 * n) (leNat old) + toSigned (8 * n) (leNat new) - toSigned (8 * n) (leNat base)))
  | .f64 =>
    if f64NotFinite (f64LE old) || f64NotFinite (f64LE new) || f64NotFinite (f64LE base) then new
    else natLE 8 (f64OfQ ((f64ToQ (f64LE old)).add ((f64ToQ (f64LE new)).sub (f64ToQ (f64LE base))))).toNat
  | _ => new

/-- The delta of a whole block: fields of `old` moved from `base` to `new`. -/
def applyDelta : List BlockField → Bytes → Bytes → Bytes → Bytes
  | [], _, _, _ => []
  | k :: ks, base, old, new =>
    deltaField (base.take k.width) k (old.take k.width) (new.take k.width)
      ++ applyDelta ks (base.drop k.width) (old.drop k.width) (new.drop k.width)

/-- The identity block (R328): tap k at k + 16, zero skews and offsets, pair 0, all legs, uncertainties +inf, VALID 0. -/
def identityBlock : Bytes :=
  let taps := (List.range 128).map fun k => BitVec.ofNat 8 (k + 16)
  taps ++ taps ++ zeros 172 ++ List.replicate 8 0xFF ++ zeros 12 ++ (List.replicate 5 (natLE 8 f64Inf.toNat)).flatten ++ zeros 24

/-- Bytes `o` to `o + v.length - 1` of a block replaced by `v`. -/
def patchBytes (b : Bytes) (o : Nat) (v : Bytes) : Bytes := b.take o ++ v ++ b.drop (o + v.length)

/-- Strictly rising (R291). -/
def strictlyRising : Bytes → Bool
  | a :: b :: l => decide (a.toNat < b.toNat) && strictlyRising (b :: l)
  | _ => true

/-- No reserved bit of Table CA-1 is set (R4). -/
def blockReservedOk (b : Bytes) : Bool :=
  decide (fieldLE b 278 2 = 0) && decide (fieldLE b 426 2 = 0) && decide (fieldLE b 444 4 < 32) && decide (fieldLE b 504 8 = 0)

/-- The checks of R4, R291 and R293 on a block. -/
def blockOk (b : Bytes) : Bool :=
  let r := b.take 128
  let f := (b.drop 128).take 128
  blockReservedOk b && strictlyRising r && strictlyRising f && (r ++ f).all (fun x => decide (x.toNat ≤ 159))
    && decide (fieldLE b 424 1 ≤ 11) && decide (fieldLE b 425 1 ≤ 11)
    && decide (fieldLE b 256 4 ≤ 262144) && decide (fieldLE b 260 4 ≤ 262144)

/-- The selection items of a block (R294). -/
def selectionOf (b : Bytes) : Bytes := slice b 264 14 ++ slice b 424 2 ++ slice b 428 8

/-! ### Blocks in force and temperature sets -/

/-- The block in force of a channel. -/
def Dev.block (d : Dev) (c : Chan) : Bytes :=
  match d.cal.corr.find? fun p => p.1 == c.val with
  | some p => p.2
  | none => identityBlock

/-- The block of set i of a channel. -/
def Dev.setBlock (d : Dev) (i : Nat) (c : Chan) : Bytes :=
  match d.dict.cfg.find (keyOf (0x6011 + i) c.val) with
  | some b => b
  | none => identityBlock

/-- Nominal setpoints in 0.001 degrees C (R311, R312). -/
def setpoint (gradeB : Bool) (i : Nat) : Int :=
  if gradeB then (if i = 0 then 55000 else 65000) else 45000 + 10000 * i

/-- Number of sets (R312). -/
def setCount (gradeB : Bool) : Nat := if gradeB then 2 else 4

/-- The sets that exist, ascending (R328). -/
def Dev.liveSets (d : Dev) : List Nat :=
  (List.range (setCount d.fuses.gradeB)).filter fun i => match d.cal.sets[i]? with | some h => h.valid | none => false

/-- The pair of sets that bracket a temperature with w = num/den, or the one set that applies (R313). -/
def bracket (sp : Nat → Int) (t : Int) : List Nat → Option (Nat × Nat × Int × Nat)
  | [] => none
  | [i] => some (i, i, 0, 1)
  | i :: j :: l =>
    if t ≤ sp i then some (i, i, 0, 1)
    else if t < sp j then some (i, j, t - sp i, (sp j - sp i).toNat)
    else bracket sp t (j :: l)

/-- The blend of a channel at a temperature; the identity block with no set at all. -/
def Dev.blend (d : Dev) (t : Int) (c : Chan) : Bytes :=
  match bracket (setpoint d.fuses.gradeB) t d.liveSets with
  | none => identityBlock
  | some (i, j, num, den) =>
    if i = j then d.setBlock i c else combine (blendField num den) blockFields (d.setBlock i c) (d.setBlock j c)

/-- T lies outside the setpoints of the sets that exist (CLAMPED, R313). -/
def Dev.outside (d : Dev) (t : Int) : Bool :=
  match d.liveSets with
  | [] => false
  | i :: l => decide (t < setpoint d.fuses.gradeB i) || decide (setpoint d.fuses.gradeB (l.getLastD i) < t)

/-- Every channel's blend at a temperature put in force. -/
def Dev.applyBlend (d : Dev) (t : Int) : Dev :=
  { d with cal := { d.cal with
    corr := (allChans.map fun c => (c.val, d.blend t c)).filter fun p => p.2 != identityBlock
    tApplied := t, clamped := d.outside t, reapply := none, reapplyDue := false, reapplyLate := false } }

/-! ### Epoch -/

/-- CAL_EPOCH: major in the upper half. -/
def Dev.epoch (d : Dev) : Nat := d.cal.major * 65536 + d.cal.minor

/-- Write a checkpoint (R318): it waits for its pulse; the ceiling holds at once. -/
def Cal.checkpoint (c : Cal) (major ceiling : Nat) (cont : Bool) : Cal :=
  { c with ceiling := ceiling, continuation := cont, nvQueue := c.nvQueue ++ [.checkpoint major ceiling cont] }

/-- One advance of the epoch at a Landing (R317-R319). -/
def Dev.advanceEpoch (d : Dev) (major : Bool) : Dev :=
  let c := d.cal
  if c.major = 0xFFFF && (major || c.minor = 0xFFFF) then d.occur 108 devScope {}
  else if major then { d with cal := { c with major := c.major + 1, minor := 0 }.checkpoint (c.major + 1) 4096 false }
  else if c.minor = 0xFFFF then { d with cal := { c with major := c.major + 1, minor := 0 }.checkpoint (c.major + 1) 4096 true }
  else
    let c1 := { c with minor := c.minor + 1 }
    if c1.minor + 256 ≥ c.ceiling then { d with cal := c1.checkpoint c.major (c.ceiling + 4096) c.continuation }
    else { d with cal := c1 }

/-! ### Uncertainty of results (R320, R321) -/

/-- Years since the last Reference Transfer, 365.25 days each. -/
def Dev.rtYears (d : Dev) : Q :=
  let now := Time.toSub d.now
  let rt := Time.toSub d.cal.rtTime
  ⟨(now - rt : Nat), subPerSecond * 31557600⟩

/-- 0.001 K as a rational number of kelvin. -/
def milli (z : Int) : Q := ⟨z, 1000⟩

/-- Distance to the nearest setpoint of the sets that exist, in 0.001 K. -/
def Dev.setDistance (d : Dev) (t : Int) : Nat :=
  (d.liveSets.map fun i => (t - setpoint d.fuses.gradeB i).natAbs).foldl Nat.min 1000000

/-- u_temp of Table CA-6. -/
def Dev.uTemp (d : Dev) : Q :=
  let out := d.dict.cfg.q 0x6003 3
  if d.cal.sensorFault then out.mul (milli d.cal.tDiff)
  else
    let base := (d.dict.cfg.q 0x6003 2).mul (milli (d.cal.tSensor - d.cal.tApplied).natAbs)
    if d.cal.clamped then base.add (out.mul (milli (d.setDistance d.cal.tSensor))) else base

/-- u_warm (R506). -/
def Dev.uWarm (d : Dev) : Q :=
  let out := d.dict.cfg.q 0x6003 3
  let half : Q := ⟨1, 2⟩
  if d.heater.state = 2 then
    out.mul ((((milli d.cal.tSensor).sub (f64ToQ d.heater.tIso)).abs).add half)
  else if d.heater.state = 3 then out.mul half
  else ⟨0, 1⟩

/-- The square of a binary64 field of a block; none for +inf. -/
def blockSq (b : Bytes) (o : Nat) : Option Q :=
  let v := f64LE (slice b o 8)
  if f64NotFinite v then none else some (f64ToQ v).sq

/-- FLAGS.VALID of a channel in force. -/
def Dev.chValid (d : Dev) (c : Chan) : Bool := bit (fieldLE (d.block c) 444 4) 0

/-- u_r squared of a channel; none for +inf. -/
def Dev.uR2 (d : Dev) (c : Chan) : Option Q :=
  if !d.chValid c then none
  else (blockSq (d.block c) 456).map fun u =>
    ((u.add ((d.dict.cfg.q 0x6120 0).mul d.rtYears).sq).add d.uTemp.sq).add d.uWarm.sq

/-- u_d squared of a channel, the drive edge's (R321); none for +inf. -/
def Dev.uD2 (d : Dev) (c : Chan) : Option Q :=
  if !d.chValid c then none
  else match blockSq (d.block c) 448, blockSq (d.block c) 464 with
    | some u, some l => some ((((u.add l).add ((d.dict.cfg.q 0x6120 0).mul d.rtYears).sq).add d.uTemp.sq).add d.uWarm.sq)
    | _, _ => none

/-- The square root of u_T squared plus a term; +inf where either is. -/
def withUT (uT : BitVec 64) (x : Option Q) : BitVec 64 :=
  match x with
  | none => f64Inf
  | some q => if f64NotFinite uT then f64Inf else f64Sqrt ((f64ToQ uT).sq.add q)

/-- The larger of two binary64 values that are not negative. -/
def f64Max (a b : BitVec 64) : BitVec 64 := if a.toNat < b.toNat then b else a

/-- A fail record's U_STD over the channels concerned, with the largest u_T of its interval (R52, R214, R321). -/
def Dev.uFail (d : Dev) (uT : BitVec 64) (cs : List Chan) : BitVec 64 := cs.foldl (fun m c => f64Max m (withUT uT (d.uR2 c))) 0

/-- U_STD_SAMPLE of TIE over a span of `span` fine steps, with the largest u_y of the segment (R52). -/
def Dev.uTie (d : Dev) (uY : BitVec 64) (cs : List Chan) (span : Nat) : BitVec 64 :=
  let y := (f64ToQ uY).mul (secondsOf span)
  cs.foldl (fun m c => f64Max m (
    if !d.chValid c then f64Inf
    else match blockSq (d.block c) 472 with
      | none => f64Inf
      | some l => f64Sqrt (((f64ToQ (vget d.cal.uSS c)).sq.mul (Q.ofInt 2)).add (l.add y.sq)))) 0

/-- u_drift,v of Table CA-6. -/
def Dev.uDriftV (d : Dev) : Q := (d.dict.cfg.q 0x6120 1).mul d.rtYears

/-- |v| x VREF_U / VREF_VALUE. -/
def Dev.uVref (d : Dev) (v : Q) : Q := (v.abs.mul (d.dict.cfg.q 0x6035 1)).div (d.dict.cfg.q 0x6035 0)

/-- U_STD_SAMPLE of STATE and SCAN. -/
def Dev.uThr (d : Dev) (cs : List Chan) : BitVec 64 :=
  cs.foldl (fun m c => f64Max m (
    if !d.chValid c then f64Inf
    else match blockSq (d.block c) 480 with
      | none => f64Inf
      | some u =>
        let th := Nat.max (d.dict.cfg.int 0x3009 c.val).natAbs (d.dict.cfg.int 0x300A c.val).natAbs
        f64Sqrt ((u.add (d.uVref ⟨th, 4000⟩).sq).add d.uDriftV.sq))) 0

end Sys2Proof.Machine
end

