-- ==== Sys2Proof/Machine/Lane.lean ====
section
/-! DEFINITION. The lanes of a channel: what their balls show, what their comparators decide, the corrections in force
(R64-R85, R292), and the flags that records of a pin carry: INVALID and SETTLING. -/
namespace Sys2Proof.Machine

/-- The present tick in fine steps of the tick counter. -/
def Dev.fineNow (d : Dev) : Nat := d.tb.tick * finePerTick

/-- Change a channel. -/
def Dev.modChan (d : Dev) (c : Chan) (f : Channel → Channel) : Dev := { d with chans := vmod d.chans c f }

/-- Every result record carries INVALID: the TAP is out of Test-Logic-Reset (R582), or the device runs ROM_ONLY (R554). -/
def Dev.allInvalid (d : Dev) : Bool := d.jtag.active || d.boot.outcome == 3

/-- Threshold-based results carry INVALID: VREF_P is, or was within the last 1,024 frames, out of range (R75). -/
def Dev.vrefInvalid (d : Dev) : Bool := (vget d.fc.src 71).cond != 0 || decide (d.vrefFrames > 0)

/-- Neighbour channel CH(n XOR 1). -/
def neighbour (c : Chan) : Chan := if c.val % 2 = 0 then ⟨(c.val + 1) % 52, by omega⟩ else ⟨c.val - 1, by omega⟩

/-- A loopback taps the drive lane of a channel: its own, or its neighbour's (Table PC-3). -/
def Cfg.tapped (c : Cfg) (ch : Chan) : Bool := c.nat 0x300D ch.val == 1 || c.nat 0x300D (neighbour ch).val == 2

/-- The series switch holds the drive balls of a channel in Z (R82). -/
def Cfg.isolated (c : Cfg) (ch : Chan) : Bool := c.tapped ch && c.nat 0x300E ch.val == 1

/-- A housekeeping procedure drives the calibration bus (R80). -/
def Dev.busDriven (d : Dev) : Bool := match d.cal.proc with | some p => !p.staged | none => false

/-- The step of a procedure that measures the channel (Tables CA-4 and CA-5), which is every named one until the computation of
SC5 begins. -/
def Dev.measuring (d : Dev) (c : Chan) : Option Nat :=
  match d.cal.proc with
  | some p => if !p.staged && (p.code == 1 || p.code == 2) && p.step != 5 && p.chans.getLsbD c.val then some p.step else none
  | none => none

/-- The results of a channel carry INVALID (R69, R72, R80, R91, R92, R321, R582). -/
def Dev.chanInvalid (d : Dev) (c : Chan) : Bool :=
  let x := vget d.chans c
  x.limitInvalid || x.clamp || x.clampHiz || x.frameInvalid || x.st == .held || x.st == .recal || x.st == .pendingJoin
    || !d.chValid c || d.vrefInvalid || (d.dict.cfg.nat 0x300D c.val == 3 && !d.busDriven)

/-- An interval of INVALID (a, b) of a sequencer meets the present tick (R143, R158). -/
def Dev.spanNow (d : Dev) (s : Nat × Option Nat) : Bool :=
  decide (s.1 < d.fineNow + finePerTick) && match s.2 with | some e => decide (d.fineNow < e) | none => true

/-- Every record of tenant t carries INVALID (R143, R158, R283, Table MA-6). -/
def Dev.tenantInvalid (d : Dev) (t : Tenant) : Bool :=
  (vget d.seqs t).invalidSpans.any d.spanNow || vget d.arb.overrun t || vget d.arb.fetchShort t

/-- The records of a logical pin of tenant t carry INVALID in the present tick. -/
def Dev.pinInvalid (d : Dev) (t : Tenant) (p : Pin) : Bool :=
  d.allInvalid || d.tenantInvalid t ||
    match d.pinChan p with
    | some c => d.chanInvalid c
    | none => true

/-! ### The drive lane and its balls (R64, R65, R82-R85) -/

/-- The output states of a drive lane (Table PC-1). -/
inductive LaneState where
  | fuse | z | term | low | high
  deriving DecidableEq, Repr

/-- The channel's lanes are in the fuse-map state (R84, R92, Table RB-4); the exception for housekeeping loopbacks concerns
the lane, not the balls (R303, R95). -/
def Dev.inFuseMap (d : Dev) (c : Chan) : Bool :=
  let x := vget d.chans c
  d.rst.phase != 8 || x.st != .inService || d.dict.cfg.nat 0x3003 c.val == 0 || d.modes.device == 11 || decide (d.stairs.now ≥ 3)
    || x.resetHold || (d.atEdge && match x.retire with | some r => r.cause == 2 | none => false)
    || match d.chOwner c with | some t => d.fc.held.getLsbD t.val | none => false

/-- The formatter drives the lane: DRV_MODE 3 in Stair 0 (R65, R85). -/
def Dev.laneActive (d : Dev) (c : Chan) : Bool :=
  !d.inFuseMap c && d.dict.cfg.nat 0x3003 c.val == 3 && d.stairs.now == 0

/-- The off state of DRV_OFF_STATE (R65). -/
def Dev.offState (d : Dev) (c : Chan) : LaneState := if d.dict.cfg.nat 0x3006 c.val = 0 then .z else .term

/-- The state of an active lane from the formatter's level and drive (R64). -/
def Dev.activeState (d : Dev) (c : Chan) (s : Bool × Bool) : LaneState :=
  if s.2 then (if s.1 then .high else .low) else d.offState c

/-- The level and drive that the formatter left on a channel. -/
def Dev.formatted (d : Dev) (c : Chan) : Bool × Bool :=
  match (vget d.chans c).map, d.chOwner c with
  | some p, some t => ((vget d.seqs t).level.getLsbD p.val, (vget d.seqs t).driven.getLsbD p.val)
  | _, _ => (false, false)

/-- The state of a drive lane (R64, R65, R84, R85). -/
def Dev.laneState (d : Dev) (c : Chan) : LaneState :=
  if d.inFuseMap c then .fuse
  else match d.dict.cfg.nat 0x3003 c.val with
    | 1 => .z
    | 2 => .term
    | _ => if d.stairs.now = 0 then d.activeState c (d.formatted c) else d.offState c

/-- A fuse-map drive state at the balls (R83, Table PC-5). -/
def fuseLevel (code : BitVec 2) : BallLevel :=
  if code = 0 then .hiZ else if code = 1 then .driven (-400) 0 else if code = 2 then .driven 400 0 else .term 0

/-- A lane state at the balls (Table PC-1): the swing is differential peak to peak (R66), the common mode the termination
voltage (R67). -/
def Dev.laneLevel (d : Dev) (c : Chan) (s : LaneState) : BallLevel :=
  let vtt := d.dict.cfg.nat 0x3005 c.val
  let half := d.dict.cfg.nat 0x3004 c.val / 2
  match s with
  | .fuse => fuseLevel (vget d.fuses.pinState c)
  | .z => .hiZ
  | .term => .term vtt
  | .low => .driven (-(half : Int)) vtt
  | .high => .driven half vtt

/-- What the boundary register puts on a channel's drive balls (R621, R622): the output cell, then the control cell. -/
def cellLevel (b : BitVec 271) (c : Chan) : BallLevel :=
  if b.getLsbD (2 * c.val + 1) then .driven (if b.getLsbD (2 * c.val) then 400 else -400) 0 else .hiZ

/-- What holds the drive balls, whatever the lane does: the test port (Table PK-5), no fuse map yet (R528), the series switch
(R82, R303). -/
def Dev.ballHeld (d : Dev) (c : Chan) : Option BallLevel :=
  if d.jtag.pins = 3 then some .hiZ
  else if d.jtag.pins ≠ 0 then some (cellLevel d.jtag.boundary c)
  else if !d.rst.fuseLatched || (d.measuring c).isSome || d.dict.cfg.isolated c then some .hiZ
  else none

/-- The drive balls of a channel. -/
def Dev.ballLevel (d : Dev) (c : Chan) : BallLevel := (d.ballHeld c).getD (d.laneLevel c (d.laneState c))

/-- The drive balls come to show a level at an instant; a change is sent. -/
def Dev.showBall (d : Dev) (c : Chan) (pos : Nat) (l : BallLevel) (issue : Option (Nat × Nat)) : Dev :=
  if (vget d.chans c).ball = l then d
  else (d.modChan c fun x => { x with ball := l }).send (.drive c (pos / finePerTick) (pos % finePerTick) l issue)

/-- The level of a discrete output (R261, R262, R528-R530, R579, R622): TRIG_OUT0-3, then ALIVE. -/
def TrigLine.high (l : TrigLine) : Bool := l.level || l.seqPulse.isSome || l.acqPulse.isSome

/-- TRIGOUT_GRANT names the line. -/
def Cfg.trigGrant (c : Cfg) (t : Tenant) (n : Nat) : Bool := bit (c.nat (0x202C + 0x100 * t.val) 0) n

/-- A fuse-map state of a discrete output (R529). -/
def fuseDiscrete (code : BitVec 2) : Option Bool := if code = 1 then some false else if code = 2 then some true else none

/-- The level of a discrete output: TRIG_OUT0-3 (R261, R262, R475, R480), then ALIVE (R530, R579). -/
def Dev.discreteLevel (d : Dev) (k : Fin 5) : Option Bool :=
  let cell := 239 + 2 * k.val
  let fuse := fuseDiscrete (vget d.fuses.outState k)
  if d.jtag.pins = 3 then none
  else if d.jtag.pins ≠ 0 then (if d.jtag.boundary.getLsbD (cell + 1) then some (d.jtag.boundary.getLsbD cell) else none)
  else if !d.rst.fuseLatched then none
  else if d.rst.phase ≠ 8 then fuse
  else if h : k.val < 4 then
    if d.modes.device = 11 || !(allTenants.any fun t => d.dict.cfg.trigGrant t k.val) then fuse
    else some (vget d.trigLines ⟨k.val, h⟩).high
  else some d.fc.alive

/-- A discrete output comes to show a level at a tick; a change is sent. -/
def Dev.showDiscrete (d : Dev) (k : Fin 5) (tick : Nat) : Dev :=
  let l := d.discreteLevel k
  if vget d.discrete k = l then d else { d with discrete := vmod d.discrete k fun _ => l }.send (.discrete k tick l)

/-- Every ball that the present state sets, at the present tick. -/
def Dev.showPins (d : Dev) : Dev :=
  let d1 := allChans.foldl (fun d c => d.showBall c d.fineNow (d.ballLevel c) none) d
  ([0, 1, 2, 3, 4] : List (Fin 5)).foldl (fun d k => d.showDiscrete k d.tb.tick) d1

/-! ### Corrections (R292) -/

/-- An edge of the formatter at a ball time: its issue position, early by the whole fine steps of the direction's skew, and the
tap that realises the fine setting of the result (R108, R290, R292). -/
def issueOf (block : Bytes) (rising : Bool) (pos : Nat) : Nat × Nat :=
  let at_ := pos - fieldLE block (if rising then 256 else 260) 4 / 16
  (at_, fieldLE block ((if rising then 0 else 128) + at_ % finePerSlot) 1)

/-- A raw receive timestamp in fine steps of the tick counter, corrected to the balls (R292). -/
def correctRx (block : Bytes) (high rising : Bool) (raw : Nat) : Nat :=
  let f := fun (o n : Nat) => toSigned (8 * n) (fieldLE block o n)
  let off := (if high then 0 else 4) + (if rising then 0 else 2)
  (roundDiv ((raw : Int) * 16 - f 284 4 - f (288 + off) 2 - f (296 + raw % 128) 1) 16).toNat

/-- The DAC code of a threshold in units of 0.25 mV: 15.625 uV each (R292). -/
def dacCode (block : Bytes) (high : Bool) (theta : Int) : Int :=
  let f := fun (o : Nat) => toSigned 16 (fieldLE block o 2)
  roundDiv (16 * theta * (1000000 + f (if high then 440 else 442))) 1000000 + f (if high then 436 else 438)

/-- The driver legs of a swing in mV, in ascending order among those not excluded (R292). -/
def legsOf (block : Bytes) (swing : Nat) : List Nat :=
  let n := (roundDiv (swing * fieldLE block 280 4) 65536).toNat
  ((List.range 112).filter fun k => !bit (fieldLE block 264 14) k).take n

/-! ### The receive lane (R71-R80) -/

/-- What the receive lane takes (R80, Tables PC-3, CA-4 and CA-5). -/
inductive RxSource where
  | balls
  | drive (c : Chan)
  | bus
  deriving DecidableEq, Repr

/-- The source of a receive lane: a loopback of the housekeeping engine, which LOOPBACK does not show, before LOOPBACK. -/
def Dev.rxSource (d : Dev) (c : Chan) : RxSource :=
  match d.measuring c with
  | some s => if s = 2 || s = 3 then .drive c else if s = 0x12 || s = 0x13 then .balls else .bus
  | none =>
    if (vget d.chans c).st == .recal then .drive c
    else match d.dict.cfg.nat 0x300D c.val with
      | 1 => .drive c
      | 2 => .drive (neighbour c)
      | 3 => .bus
      | _ => .balls

/-- The termination of the receive balls (R71, R72, R83, R303, R622): 0 HIZ, 1 DIFF100, 2 VTT50; none in the steps of Reference
Transfer for which R303 states none. -/
def Dev.rxTerm (d : Dev) (c : Chan) : Option Nat :=
  if d.jtag.pins = 1 then some 1
  else if (match d.measuring c with | some s => s == 0x12 || s == 0x13 | none => false) then none
  else if (vget d.chans c).clampHiz || ((d.measuring c).isNone && d.inFuseMap c) then some 0
  else some (d.dict.cfg.nat 0x3008 c.val)

/-- One comparator's decision on a differential input in uV (R74): none within the comparator overdrive of the effective
threshold that it approaches, 15 mV at most (R631). -/
def Cfg.comparator (c : Cfg) (ch : Chan) (high level : Bool) (v : Int) : Option Bool :=
  let thr := c.int (if high then 0x3009 else 0x300A) ch.val * 250
  let half := (c.nat 0x300B ch.val * 125 : Nat)
  let eff := if level then thr - half else thr + half
  if v > eff + 15000 then some true else if v < eff - 15000 then some false else none

/-- Two-bit code of the comparators (Table PC-2). -/
def codeOf (high low : Bool) : Fin 4 := if high then (if low then 2 else 3) else if low then 1 else 0

/-- The level of a comparator at an instant: after its last crossing at or before it; with `reported`, after its last reported
one (R79). -/
def Channel.levelAt (c : Channel) (high reported : Bool) (t : Nat) : Bool :=
  let mine := c.rx.filter fun e => e.high == high && (e.reported || !reported)
  match (mine.filter fun e => decide (e.pos ≤ t)).getLast? with
  | some e => e.rising
  | none => match mine with
    | e :: _ => !e.rising
    | [] => false

/-- The state of the lane at an instant: as reconstructed from the reports, or as the sampler sees it (R76, R79). -/
def Channel.codeAt (c : Channel) (reported : Bool) (t : Nat) : Fin 4 := codeOf (c.levelAt true reported t) (c.levelAt false reported t)

/-- A crossing enters the history in order of time. -/
def insertRx (e : RxEvent) (l : List RxEvent) : List RxEvent :=
  (l.takeWhile fun x => decide (x.pos ≤ e.pos)) ++ e :: l.dropWhile fun x => decide (x.pos ≤ e.pos)

/-- The history before an instant that nothing asks for any more: of each comparator its last crossing and its last reported
crossing stay. -/
def Channel.prune (c : Channel) (horizon : Nat) : Channel :=
  let old := c.rx.filter fun e => decide (e.pos < horizon)
  let last := fun (f : RxEvent → Bool) => (old.filter f).getLast?.toList
  let keep := last (fun e => e.high) ++ last (fun e => e.high && e.reported) ++ last (fun e => !e.high)
    ++ last (fun e => !e.high && e.reported)
  { c with rx := c.rx.filter fun e => decide (horizon ≤ e.pos) || keep.contains e
           phases := c.phases.filter fun p => decide (horizon < p.1 * finePerTick) }

/-- SAMPLE_PHASE of a channel in a tick. -/
def Dev.phaseAt (d : Dev) (c : Chan) (tick : Nat) : Nat :=
  match ((vget d.chans c).phases.filter fun p => decide (tick < p.1)).getLast? with
  | some p => p.2
  | none => d.dict.cfg.nat 0x300C c.val

/-- The channel that carried a pin at an instant. -/
def Dev.chanAt (d : Dev) (p : Pin) (pos : Nat) : Option Chan :=
  match (d.moves.filter fun m => m.1 == p && decide (pos < m.2.1)).getLast? with
  | some m => some m.2.2
  | none => d.pinChan p

/-- The sample of a pin in a slot of a tick (R76). -/
def Dev.sampleAt (d : Dev) (p : Pin) (tick slot : Nat) : Fin 4 :=
  match d.chanAt p (tick * finePerTick + slot * finePerSlot) with
  | some c => (vget d.chans c).codeAt false (tick * finePerTick + slot * finePerSlot + d.phaseAt c tick)
  | none => 0

/-- The crossings reported for a pin within [a, b), in order of time. -/
def Dev.crossings (d : Dev) (p : Pin) (a b : Nat) : List RxEvent :=
  match d.chanAt p a with
  | some c => (vget d.chans c).rx.filter fun e => e.reported && decide (a ≤ e.pos) && decide (e.pos < b)
  | none => []

/-- The states that a pin's lane took at some fine step of [a, b] (R79, R119). -/
def Dev.statesIn (d : Dev) (p : Pin) (a b : Nat) : List (Fin 4) :=
  match d.chanAt p a with
  | some c => (vget d.chans c).codeAt true a :: (d.crossings p (a + 1) (b + 1)).map fun e => (vget d.chans c).codeAt true e.pos
  | none => [0]

/-- The samples of a channel with code 0b11 in the slots sampled within [a, b) (R77). -/
def Dev.inconsistentIn (d : Dev) (c : Chan) (a b : Nat) : Nat :=
  let x := vget d.chans c
  let ph := d.dict.cfg.nat 0x300C c.val
  let slots := fun (t : Nat) => (t + (finePerSlot - 1) - ph) / finePerSlot
  let cuts := ((x.rx.map (·.pos)).filter fun t => decide (a < t) && decide (t < b)) ++ [b]
  (cuts.foldl (fun (acc : Nat × Nat) t =>
    (if x.codeAt false acc.2 = 3 then acc.1 + (slots t - slots acc.2) else acc.1, t)) (0, a)).1

/-! ### The past of the handover period (R12, R35, R52, R68) -/

/-- The logical pins on whose channel a test holds. -/
def Dev.pinMask (d : Dev) (f : Chan → Pin → Bool) : BitVec 48 :=
  allChans.foldl (fun (m : BitVec 48) c => match (vget d.chans c).map with
    | some p => if f c p then setBit m p.val true else m
    | none => m) 0

/-- What is in force in the present tick. -/
def Dev.presentMark (d : Dev) : TimeMark :=
  { tick := d.tb.tick, fine := d.tb.devFine, slew := d.tb.slew, slewTicks := d.tb.slewTicks, limit := d.dict.cfg.nat 0x1410 9
    major := d.cal.major, minor := d.cal.minor, trace := d.traceShown, uY := d.tb.uY, uT := d.tb.uT
    invalid := d.pinMask fun c p => d.allInvalid || d.chanInvalid c ||
      match d.dict.cfg.pinOwner p with | some t => d.tenantInvalid t | none => false
    level := d.pinMask fun c _ => (vget d.chans c).levelTick == some d.tb.tick }

/-- Device time at the start of tick `k`, from a mark at or before it. -/
def TimeMark.fineAt (m : TimeMark) (k : Nat) : Nat :=
  fineAfter (f64ToQ (BitVec.ofNat 64 m.limit)) m.fine m.slew m.slewTicks (k - m.tick)

/-- `m` says nothing that the earlier mark does not. -/
def TimeMark.covers (x m : TimeMark) : Bool :=
  m == { x with tick := m.tick, fine := x.fineAt m.tick, slewTicks := x.slewTicks + (m.tick - x.tick), level := 0 }

/-- The present tick is over: what was in force in it goes on record. -/
def Dev.note (d : Dev) : Dev :=
  let m := d.presentMark
  { d with tb := { d.tb with marks := match d.tb.marks with
    | [] => [m]
    | x :: rest => if x.tick = m.tick then m :: rest else if x.covers m then x :: rest else m :: x :: rest } }

/-- What was, or is, in force in tick `k`. -/
def Dev.markAt (d : Dev) (k : Nat) : TimeMark :=
  if k ≥ d.tb.tick then d.presentMark else (d.tb.marks.find? fun m => decide (m.tick ≤ k)).getD d.presentMark

/-- Everything that was in force in some tick from `a` to `b`. -/
def Dev.marksIn (d : Dev) (a b : Nat) : List TimeMark :=
  d.markAt a :: d.tb.marks.filter (fun m => decide (a < m.tick ∧ m.tick ≤ b))
    ++ (if a < d.tb.tick && decide (d.tb.tick ≤ b) then [d.presentMark] else [])

/-- The device time of an instant given in fine steps of the tick counter (R35, R48): that of its own tick. -/
def Dev.timeOfPos (d : Dev) (p : Nat) : Time96 :=
  let k := p / finePerTick
  timeOfFine ((if k ≥ d.tb.tick then d.fineAhead (k - d.tb.tick) else (d.markAt k).fineAt k) + p % finePerTick)

/-- EPOCH_TRACE in force at an instant given in fine steps of the tick counter (R12). -/
def Dev.etOfPos (d : Dev) (p : Nat) : BitVec 16 :=
  let m := d.markAt (p / finePerTick)
  epochTraceOf m.major m.minor m.trace

/-- The epoch changed within the ticks `a` to `b`. -/
def Dev.epochSpan (d : Dev) (a b : Nat) : Bool :=
  let e := d.markAt b
  (d.marksIn a b).any fun m => m.major != e.major || m.minor != e.minor

/-- The traceability state changed within the ticks `a` to `b` (R52). -/
def Dev.traceSpan (d : Dev) (a b : Nat) : Bool := (d.marksIn a b).any fun m => m.trace != (d.markAt b).trace

/-- The largest u_T and u_y of the ticks `a` to `b` (R52); the bit patterns of non-negative binary64 values order as the
values do. -/
def Dev.uTIn (d : Dev) (a b : Nat) : BitVec 64 := BitVec.ofNat 64 (((d.marksIn a b).map fun m => m.uT.toNat).foldl max 0)
def Dev.uYIn (d : Dev) (a b : Nat) : BitVec 64 := BitVec.ofNat 64 (((d.marksIn a b).map fun m => m.uY.toNat).foldl max 0)

/-- The records of a pin carry INVALID for the ticks `a` to `b`. -/
def Dev.pinInvalidIn (d : Dev) (p : Pin) (a b : Nat) : Bool := (d.marksIn a b).any fun m => m.invalid.getLsbD p.val

/-- The records of a pin carry INVALID from tick `k` on: found out only now (R69, R582). -/
def Dev.backInvalid (d : Dev) (p : Pin) (k : Nat) : Dev :=
  let m := d.markAt k
  let split := { m with tick := k, fine := m.fineAt k, slewTicks := m.slewTicks + (k - m.tick), level := if m.tick = k then m.level else 0 }
  let newer := d.tb.marks.filter fun x => decide (k < x.tick)
  let older := d.tb.marks.filter fun x => decide (x.tick < k)
  if k ≥ d.tb.tick || d.tb.marks.isEmpty then d
  else { d with tb := { d.tb with marks :=
    ((newer ++ [split]).map fun x => { x with invalid := setBit x.invalid p.val true }) ++ older } }

/-- A compare window [a, b] (fine steps of the tick counter) falls within 16 ticks of a Landing that changed a level of the
pin's channel (R68). -/
def Dev.pinSettling (d : Dev) (p : Pin) (a b : Nat) : Bool :=
  (d.presentMark :: d.tb.marks).any fun m =>
    m.level.getLsbD p.val && decide (a < (m.tick + 16) * finePerTick) && decide (m.tick * finePerTick ≤ b)

/-- The channels of a list of pins. -/
def Dev.chansOf (d : Dev) (ps : List Pin) : List Chan := ps.filterMap d.pinChan

/-- The logical pins that a tenant owns, ascending. -/
def Dev.ownedPins (d : Dev) (t : Tenant) : List Pin := allPins.filter fun p => d.dict.cfg.pinOwner p == some t

/-- A quiet window of some tenant is open (R129). -/
def Dev.quietOpen (d : Dev) : Bool := allTenants.any fun t => (vget d.seqs t).quietOn || decide (d.fineNow < (vget d.seqs t).quietTo)

end Sys2Proof.Machine
end

