-- ==== Sys2Proof/Machine/Area.lean ====
section
/-! DEFINITION. Places in the stacked memory: addresses (R266), the areas of a tenant (R201, R228), stream rings (R399,
R400), error-checked reads and writes (R270, R271), and MSI-X messages (R398). -/
namespace Sys2Proof.Machine

/-- The banks of a region: 0 vector store, 1 Capture Hall, 2 Gallery (Table AR-2). -/
def regionBanks (region : Nat) : List (Fin 64) :=
  (List.ofFn (n := 64) id).filter fun b =>
    if region = 0 then decide (b.val < 32) else if region = 1 then decide (32 ≤ b.val ∧ b.val < 48)
    else decide (48 ≤ b.val ∧ b.val < 60)

/-- The banks of a region that a tenant holds, ascending (R201). -/
def Dev.areaBanks (d : Dev) (region : Nat) (t : Tenant) : List (Fin 64) :=
  (regionBanks region).filter fun b => vget d.arb.bankOwner b == t.val

/-- Size in bytes of a tenant's area. -/
def Dev.areaSize (d : Dev) (region : Nat) (t : Tenant) : Nat := (d.areaBanks region t).length * 2 ^ 20

/-- The physical address of an offset in a tenant's area. -/
def Dev.areaAddr (d : Dev) (region : Nat) (t : Tenant) (off : Nat) : Nat :=
  interleave ((d.areaBanks region t).map (·.val)) off

/-- The first of `n` addresses whose word holds an uncorrectable error. -/
def Dev.poisoned (d : Dev) (addr : Nat → Nat) (n : Nat) : Option Nat :=
  (List.range n).findSome? fun i => let w := wordOf (addr i); if d.arb.poison.contains w then some w else none

/-- `n` bytes of a tenant's area; none where a word is poisoned. -/
def Dev.areaRead (d : Dev) (m : Mem) (region : Nat) (t : Tenant) (off n : Nat) : Option Bytes :=
  if (d.poisoned (fun i => d.areaAddr region t (off + i)) n).isSome then none
  else some ((List.range n).map fun i => m.read (d.areaAddr region t (off + i)))

/-- `n` bytes of a tenant's area as stored, poisoned or not. -/
def Dev.areaBytes (d : Dev) (m : Mem) (region : Nat) (t : Tenant) (off n : Nat) : Bytes :=
  (List.range n).map fun i => m.read (d.areaAddr region t (off + i))

/-- The accounts of one uncorrectable word met by a consumer (R271): FS-033 for a tenant's data, FS-034 otherwise. -/
def Dev.eccHit (d : Dev) (addr : Nat) (owner : Option Tenant) (masterKind master access : Nat) : Dev :=
  let d1 := { d with arb := { d.arb with eccUncorrectable := satAdd 32 d.arb.eccUncorrectable 1, eccLastAddr := addr } }
  match owner with
  | some _ => d1.raiseTrans 33 owner masterKind master addr access
  | none => d1.raiseTrans 34 none masterKind master addr access

/-- Bytes written at mapped addresses. -/
def Mem.writeMapped (m : Mem) (addr : Nat → Nat) (off : Nat) : Bytes → Mem
  | [] => m
  | b :: bs => Mem.writeMapped (m.write (addr off) b) addr (off + 1) bs

/-- Words written to are no longer poisoned (R271). -/
def Arb.unpoison (a : Arb) (addr : Nat → Nat) (off n : Nat) : Arb :=
  { a with poison := a.poison.filter fun w => !((List.range n).any fun i => wordOf (addr (off + i)) == w) }

/-- Bytes written into a tenant's area. Every byte lies in the tenant's banks; a tenant that holds none writes nothing
(FS-039 guards the bounds, R582). -/
def State.areaWrite (s : State) (region : Nat) (t : Tenant) (off : Nat) (bs : Bytes) : State :=
  if (s.dev.areaBanks region t).isEmpty then s
  else
    { s with mem := Mem.writeMapped s.mem (s.dev.areaAddr region t) off bs
             dev := { s.dev with arb := s.dev.arb.unpoison (s.dev.areaAddr region t) off bs.length } }

/-! ### Stream rings -/

/-- The staging shares of a tenant, ascending (R399). -/
def Dev.ringShares (d : Dev) (t : Tenant) : List (Fin 32) :=
  (List.ofFn (n := 32) id).filter fun k => vget d.arb.shareOwner k == t.val

/-- RING_SIZE in words. -/
def Dev.ringSize (d : Dev) (t : Tenant) : Nat := (d.ringShares t).length * 8192

/-- The physical address of a BAR2 offset within the ring (R399, Table MA-1). -/
def Dev.ringAddr (d : Dev) (t : Tenant) (o : Nat) : Nat :=
  systemAddr (0x100000 + ((d.ringShares t).map (·.val)).getD (o / 65536) 0 * 65536 + o % 65536)

/-- FLAGS.ENABLE of STREAM_RING. -/
def Cfg.ringEnabled (c : Cfg) (t : Tenant) : Bool := bit (fieldBE (c.get 0x1320 t.val) 5 1) 0

/-- Words that the device owns: RING_PROD - RING_CONS; none while the ring is disabled (R403). -/
def Dev.ringLevel (d : Dev) (t : Tenant) : Nat :=
  let h := vget d.host t
  if d.dict.cfg.ringEnabled t then sub32 h.ringProd h.ringCons else 0

/-- The next `words` words of the ring, from word `skip` after RING_CONS; none where one is poisoned (R400). -/
def Dev.ringBytesAt (d : Dev) (m : Mem) (t : Tenant) (skip words : Nat) : Option Bytes :=
  let size := Nat.max 1 (d.ringSize t)
  let addr := fun i => d.ringAddr t (8 * ((((vget d.host t).ringCons + skip) % 2 ^ 32 + i / 8) % size) + i % 8)
  if (d.poisoned addr (8 * words)).isSome then none
  else some ((List.range (8 * words)).map fun i => m.read (addr i))

/-- The next `words` words of the ring. -/
def Dev.ringBytes (d : Dev) (m : Mem) (t : Tenant) (words : Nat) : Option Bytes := d.ringBytesAt m t 0 words

/-- One MSI-X message of PFt on a vector (R398): a masked one sets its pending bit. -/
def Dev.msixSend (d : Dev) (t : Tenant) (v : Nat) : Dev :=
  let h := vget d.host t
  if hv : v < 64 then
    let e := (vget h.msixTable ⟨v, hv⟩).toNat
    if !h.msixEnable || !h.busMaster then d
    else if h.functionMask || bit e 96 then
      { d with host := vmod d.host t fun h => { h with msixPba := setBit h.msixPba v true } }
    else d.send (.msix t v (bits e 63 0) (bits e 95 64))
  else d

/-- LOW_WATER and VECTOR of STREAM_RING (Table HQ-3). -/
def Cfg.lowWater (c : Cfg) (t : Tenant) : Nat := fieldBE (c.get 0x1320 t.val) 0 4

/-- The low-water message of R404, after RING_PROD or RING_CONS has moved. -/
def Dev.ringWater (d : Dev) (t : Tenant) : Dev :=
  let low := decide (d.ringLevel t < d.dict.cfg.lowWater t)
  let was := (vget d.host t).ringLow
  let d1 := { d with host := vmod d.host t fun h => { h with ringLow := low } }
  if low && !was then d1.msixSend t (fieldBE (d.dict.cfg.get 0x1320 t.val) 4 1) else d1

/-- The sequencer takes words from the ring. -/
def Dev.ringConsume (d : Dev) (t : Tenant) (words : Nat) : Dev :=
  ({ d with host := vmod d.host t fun h => { h with ringCons := add32 h.ringCons words } }).ringWater t

end Sys2Proof.Machine
end

