-- ==== Sys2Proof/Machine/Trigger.lean ====
section
/-! DEFINITION. The trigger engine: configuration of an acquisition, the qualifier, accepted triggers and the TRIG_OUT
lines (R236-R246, R258, R261, R262). -/
namespace Sys2Proof.Machine

/-- An acquisition entry at 0x51t0. -/
def Cfg.acq (c : Cfg) (t : Tenant) (sub : Nat) : Nat := c.nat (0x5100 + 16 * t.val) sub
/-- A trigger entry at 0x51t1. -/
def Cfg.trg (c : Cfg) (t : Tenant) (sub : Nat) : Nat := c.nat (0x5101 + 16 * t.val) sub

/-- Change a context. -/
def Dev.modAcq (d : Dev) (t : Tenant) (f : Acq → Acq) : Dev := { d with acq := vmod d.acq t f }

/-- FILLING, ARMED or POST. -/
def Acq.active (a : Acq) : Bool := decide (1 ≤ a.st ∧ a.st ≤ 3)

/-- Pins sampled (R247), ascending. -/
def Cfg.acqPins (c : Cfg) (t : Tenant) : List Pin := allPins.filter fun p => bit (c.acq t 8) p.val

/-- Ticks of a sample period (R245). -/
def Cfg.periodTicks (c : Cfg) (t : Tenant) : Nat :=
  if c.acq t 1 = 3 then c.acq t 4 * ticksPerFrame else if c.acq t 2 = 0 then 1 else c.acq t 4

/-- The reduction codes of PARALLEL in byte order (R254); bytes 0 to 3 of the value, byte 0 least significant. -/
def Cfg.reduceCodes (c : Cfg) (t : Tenant) : List Nat := (natLE 4 (c.acq t 3)).map (·.toNat) |>.filter fun k => k != 0

/-- Bytes of a reduction (Table TA-5). -/
def reduceBytes (k : Nat) : Nat := if k = 3 then 16 else if k = 6 then 64 else 8

/-- `n` rounded up to a multiple of 64. -/
def up64 (n : Nat) : Nat := ceilDiv n 64 * 64

/-- Z of R254. -/
def Cfg.parallelBytes (c : Cfg) (t : Tenant) : Nat := up64 (16 + ((c.reduceCodes t).map reduceBytes).foldl (· + ·) 0)

/-- Bytes of a sample period (Table TA-6). -/
def Cfg.periodBytes (c : Cfg) (t : Tenant) : Nat :=
  let pc := (c.acqPins t).length
  if c.acq t 1 = 3 then 16 * pc
  else if c.acq t 2 = 1 then 8 * pc
  else if c.acq t 2 = 2 then c.parallelBytes t * pc
  else if c.acq t 1 = 2 then 16 * pc * c.acq t 0x0B
  else 16 * pc

/-- Sample periods of a segment: PRE + POST + 1 (R244). -/
def Cfg.segPeriods (c : Cfg) (t : Tenant) : Nat := c.acq t 5 + c.acq t 6 + 1

/-- Segment size S (R229). -/
def Cfg.segBytes (c : Cfg) (t : Tenant) : Nat := up64 (128 + c.segPeriods t * c.periodBytes t)

/-- ACQ_SEG_BYTES and ACQ_SEG_CAPACITY recomputed (R265). -/
def Dev.acqSizes (d : Dev) (t : Tenant) : Dev :=
  let s := d.dict.cfg.segBytes t
  d.modAcq t fun a => { a with segBytes := s, segCapacity := d.areaSize 1 t / s }

/-! ### TRIG_OUT lines (R261, R262) -/

/-- The discrete output of a line. -/
def lineOut (n : Fin 4) : Fin 5 := ⟨n.val, by omega⟩

/-- Change a line; a change of its level is sent at a tick. -/
def Dev.modLine (d : Dev) (n : Fin 4) (tick : Nat) (f : TrigLine → TrigLine) : Dev :=
  { d with trigLines := vmod d.trigLines n f }.showDiscrete (lineOut n) tick

/-- The later of two pulse ends. -/
def laterEnd (a : Option Nat) (e : Nat) : Option Nat := some (match a with | some x => max x e | none => e)

/-- Every line. -/
def allLines : List (Fin 4) := [0, 1, 2, 3]

/-- An acquisition pulse on the lines of ACQ_TRIGOUT_MASK from a tick on (R261). -/
def Dev.acqPulse (d : Dev) (t : Tenant) (tick : Nat) : Dev :=
  let mask := d.dict.cfg.trg t 9
  (allLines.filter fun n => bit mask n.val && d.dict.cfg.trigGrant t n.val).foldl (fun d n =>
    d.modLine n tick fun l => { l with acqPulse := laterEnd l.acqPulse (tick + d.dict.cfg.trg t 0x0A) }) d

/-! ### The qualifier -/

/-- The TRIGGER record of an accepted trigger (R258). -/
def Dev.triggerRecord (d : Dev) (t : Tenant) (tp : TrigPoint) : Dev :=
  let a := vget d.acq t
  if bit (d.dict.cfg.acq t 0x0E) 1 then
    d.emit { d.mkRec (.tenant t) t.val 0x05 (0x1000 + t.val) (d.timeOfPos tp.pos)
      (natLE 4 a.seg ++ natLE 1 tp.source ++ natLE 1 (ofBool tp.forced) ++ [0, 0] ++ natLE 4 a.segIgnored) with et := d.etOfPos tp.pos }
  else d

/-- The trigger point has been reached (R246, R258, R261): the TRIGGER record is sent and the acquisition pulse starts. -/
def Dev.trigReached (d : Dev) (t : Tenant) : Dev :=
  let a := vget d.acq t
  match a.trig with
  | none => d
  | some tp =>
    if !tp.recDue || decide (d.tb.tick < tp.pos / finePerTick) then d
    else
      let d1 := d.modAcq t fun a => { a with trig := some { tp with recDue := false } }
      (d1.triggerRecord t tp).acqPulse t (tp.pos / finePerTick)

/-- A trigger accepted at a trigger time (R242, R244): state POST. -/
def Dev.acceptTrigger (d : Dev) (t : Tenant) (pos src : Nat) (forced : Bool) : Dev :=
  let tp : TrigPoint := { pos := pos + d.dict.cfg.trg t 5, source := src, forced := forced, recDue := true }
  (d.modAcq t fun a => { a with st := 3, trig := some tp, window := none }).trigReached t

/-- A trigger ignored in FILLING (R243). -/
def Dev.ignoreTrigger (d : Dev) (t : Tenant) : Dev :=
  d.modAcq t fun a => { a with ignored := satAdd 32 a.ignored 1, segIgnored := satAdd 32 a.segIgnored 1 }

/-- The window open at an instant has closed (R241). -/
def Dev.windowOver (d : Dev) (t : Tenant) (pos : Nat) : Bool :=
  match (vget d.acq t).window with
  | some w => decide (w + d.dict.cfg.trg t 4 * finePerTick < pos)
  | none => false

/-- A window that closes takes the count with it (R241). -/
def Dev.closeWindow (d : Dev) (t : Tenant) : Dev := d.modAcq t fun a => { a with window := none, count := 0 }

/-- One event of a stage at a fine position of the tick counter (R241-R243). In the last tick of a segment that is complete
the next segment takes none. -/
def Dev.trigEvent (d0 : Dev) (t : Tenant) (stageB : Bool) (pos src : Nat) : Dev :=
  let d := if (vget d0.acq t).st = 2 && d0.windowOver t pos then d0.closeWindow t else d0
  let a := vget d.acq t
  let c := d.dict.cfg
  let sequence := c.trg t 0 == 1
  if (stageB && !sequence) || decide (d.tb.tick < a.origin) then d
  else if a.st = 1 || (a.st = 2 && decide (pos < a.armTick * finePerTick)) then d.ignoreTrigger t
  else if a.st ≠ 2 then d
  else
    let counts := if !sequence then true
      else stageB && match a.window with
        | some w => decide (w < pos) && decide (pos ≤ w + c.trg t 4 * finePerTick)
        | none => false
    if sequence && !stageB then d.modAcq t fun a => { a with window := some pos }
    else if !counts then d
    else if a.count + 1 ≥ c.trg t 3 then d.acceptTrigger t pos src false
    else d.modAcq t fun a => { a with count := a.count + 1 }

/-- The order of one tick (R242): time, source, A before B. -/
def TrigEv.before (x y : TrigEv) : Bool :=
  decide (x.pos < y.pos) || (x.pos == y.pos && (decide (x.src < y.src) || (x.src == y.src && (!x.stageB || y.stageB))))

/-- The same source at the same stage: in one tick the first alone is an event (R236, R238). -/
def TrigEv.same (x y : TrigEv) : Bool := x.src == y.src && x.stageB == y.stageB

/-- Insertion into a list in the order of one tick. -/
def TrigEv.insert (x : TrigEv) (l : List TrigEv) : List TrigEv :=
  (l.takeWhile fun y => y.before x) ++ x :: l.dropWhile fun y => y.before x

/-- The qualifier takes the events of the tick so far (R242). -/
def Dev.settleTriggers (d : Dev) (t : Tenant) : Dev :=
  let evs := (vget d.acq t).tickTrigs
  let fresh := (evs.filter fun e => !e.taken).foldl (fun l e => e.insert l) []
  let go := fun (p : List TrigEv × Dev) (e : TrigEv) =>
    if p.1.any e.same then p else (e :: p.1, p.2.trigEvent t e.stageB e.pos e.src)
  let r := fresh.foldl go (evs.filter fun e => e.taken, d)
  r.2.modAcq t fun a => { a with tickTrigs := r.1.map fun e => { e with taken := true } }

/-- The triggers of the tick are settled at its end: the next tick starts with none. -/
def Dev.endTriggers (d : Dev) (t : Tenant) : Dev :=
  if (vget d.acq t).tickTrigs.isEmpty then d
  else (d.settleTriggers t).modAcq t fun a => { a with tickTrigs := [] }

/-- An event of a source at one stage, in the present tick. -/
def Dev.trigNote (d : Dev) (t : Tenant) (stageB : Bool) (pos src : Nat) : Dev :=
  d.modAcq t fun a => { a with tickTrigs := a.tickTrigs ++ [{ pos := pos, src := src, stageB := stageB }] }

/-- An event of a source reaches the stages that select it (R236). -/
def Dev.trigDeliver (d : Dev) (t : Tenant) (src pos : Nat) : Dev :=
  let d1 := if d.dict.cfg.trg t 1 = src then d.trigNote t false pos src else d
  if d.dict.cfg.trg t 2 = src then d1.trigNote t true pos src else d1

/-- A sample matches a pattern code (Table TA-3). -/
def patMatch (code : Nat) (s : Fin 4) : Bool :=
  match code with
  | 0 => true
  | 1 => s == 0
  | 2 => s == 1
  | 3 => s == 2
  | 4 => s == 0 || s == 1
  | 5 => s == 1 || s == 2
  | _ => false

/-- The cared pins of a stage's pattern (R237). -/
def Cfg.caredPins (c : Cfg) (t : Tenant) (stageB : Bool) : List Pin :=
  allPins.filter fun p => c.nat (0x5102 + (if stageB then 1 else 0) + 16 * t.val) p.val != 0

/-- The pattern is true in a slot (R238). -/
def Dev.patternTrue (d : Dev) (t : Tenant) (stageB : Bool) (tick slot : Nat) : Bool :=
  (d.dict.cfg.caredPins t stageB).all fun p =>
    patMatch (d.dict.cfg.nat (0x5102 + (if stageB then 1 else 0) + 16 * t.val) p.val) (d.sampleAt p tick slot)
      && !d.pinInvalidIn p tick tick

/-- The sampling instant of a slot of a pin in a tick (R76). -/
def Dev.sampleInstant (d : Dev) (p : Pin) (tick slot : Nat) : Nat :=
  let pos := tick * finePerTick + slot * finePerSlot
  pos + match d.chanAt p pos with | some c => d.phaseAt c tick | none => 64

/-- The latest sampling instant of a slot among some pins (Table TA-2). -/
def Dev.latestSample (d : Dev) (ps : List Pin) (tick slot : Nat) : Nat :=
  (ps.map fun p => d.sampleInstant p tick slot).foldl Nat.max (tick * finePerTick + slot * finePerSlot)

/-- The pattern's event occurs in a slot of the present tick: its value changes as TRIG_PAT_MODE says from the slot before,
which lies at or after the sampling origin (R238). -/
def Dev.patternEvent (d : Dev) (t : Tenant) (stageB : Bool) (slot : Nat) : Bool :=
  let tick := d.tb.tick
  let was := if slot = 0 then d.patternTrue t stageB (tick - 1) 63 else d.patternTrue t stageB tick (slot - 1)
  let is := d.patternTrue t stageB tick slot
  let leaves := bit (d.dict.cfg.trg t 6) (if stageB then 1 else 0)
  decide ((vget d.acq t).origin * finePerTick < tick * finePerTick + slot) && (if leaves then was && !is else !was && is)

/-- TRIGGER_EVENT (R236-R242): the source that the stage selects has an event in the present tick; a pattern is judged on the
samples of the slot and of the slot before. -/
def Dev.triggerEvent (d : Dev) (t : Tenant) (stageB : Bool) (fine : Fin 8192) (slot : Fin 64) : Dev :=
  let src := d.dict.cfg.trg t (if stageB then 2 else 1)
  if src = 0 then d
  else if src = 1 then
    if (vget d.acq t).active && d.patternEvent t stageB slot.val then
      d.trigNote t stageB (d.latestSample (d.dict.cfg.caredPins t stageB) d.tb.tick slot.val) 1
    else d
  else d.trigNote t stageB (d.fineNow + fine.val) src

/-- The tick at whose start the qualifier of the segment in progress starts (R243). -/
def Dev.armTickOf (d : Dev) (t : Tenant) : Nat := (vget d.acq t).origin + d.dict.cfg.acq t 5 * d.dict.cfg.periodTicks t

/-- The pre-trigger part is full (R243). -/
def Dev.pretriggerFull (d : Dev) (t : Tenant) : Dev :=
  if (vget d.acq t).st = 1 then d.modAcq t fun a => { a with st := 2, count := 0, window := none, armTick := d.armTickOf t } else d

/-- The tick in which the open window closes (R241). -/
def Dev.windowTick (d : Dev) (t : Tenant) : Option Nat :=
  (vget d.acq t).window.map fun w => (w + d.dict.cfg.trg t 4 * finePerTick) / finePerTick

/-- The window closes after the events of the tick so far (R241). -/
def Dev.trigWindowClose (d : Dev) (t : Tenant) : Dev :=
  let d1 := d.settleTriggers t
  if (vget d1.acq t).st = 2 && (vget d1.acq t).window.isSome then d1.closeWindow t else d1

/-- A forced trigger acts at the first tick of a frame (R240). -/
def Dev.forceTrigger (d : Dev) (t : Tenant) : Dev :=
  let a := vget d.acq t
  let d1 := d.modAcq t fun a => { a with forceDue := false }
  if !a.forceDue then d
  else if a.st = 2 then d1.acceptTrigger t d.fineNow 0xFF true
  else if a.st = 1 then d1.ignoreTrigger t
  else d1

/-- A TRIGOUT of a sequencer at a vector start (R150, R261): operation 0 pulse, 1 high, 2 low. -/
def Dev.seqTrigOut (d : Dev) (t : Tenant) (op mask width pos : Nat) : Dev :=
  let tick := pos / finePerTick
  let d1 := (allLines.filter fun n => bit mask n.val).foldl (fun d n =>
    d.modLine n tick fun l =>
      if op = 0 then { l with seqPulse := laterEnd l.seqPulse (tick + width) }
      else { l with level := decide (op = 1) }) d
  if bit mask 4 then d1.trigDeliver t 0x06 pos else d1

/-- The end tick of a pulse in progress (R261). -/
def Dev.pulseEnd (d : Dev) (n : Fin 4) (acq : Bool) : Option Nat :=
  if acq then (vget d.trigLines n).acqPulse else (vget d.trigLines n).seqPulse

/-- A pulse of a line ends (R261). -/
def Dev.trigoutPulseEnd (d : Dev) (n : Fin 4) (acq : Bool) : Dev :=
  d.modLine n d.tb.tick fun l => if acq then { l with acqPulse := none } else { l with seqPulse := none }

/-- A line granted to no tenant, or taken back, holds its fuse-map state (R262); a tenant's reset sets it low. -/
def Dev.releaseLines (d : Dev) (lost : Fin 4 → Bool) : Dev :=
  (allLines.filter lost).foldl (fun d n => d.modLine n d.tb.tick fun _ => {}) d

end Sys2Proof.Machine
end

