-- ==== Sys2Proof/Machine/Segment.lean ====
section
/-! DEFINITION. Acquisition segments: samples, reductions, bodies and headers (R247-R257), arming, completing and aborting
(R232-R235), and lost blocks (R260). -/
namespace Sys2Proof.Machine

/-! ### What the pins showed -/

/-- The 64 slot codes of a pin in a tick, slot 0 first (R76, R248). -/
def Dev.slotCodes (d : Dev) (p : Pin) (tick : Nat) : List (Fin 4) := (List.range 64).map fun i => d.sampleAt p tick i

/-- The crossings of a pin in a tick that ACQ_TIE_SEL selects, in order of time (R249). -/
def Dev.tieCrossings (d : Dev) (t : Tenant) (p : Pin) (tick : Nat) : List RxEvent :=
  let sel := d.dict.cfg.acq t 9
  (d.crossings p (tick * finePerTick) ((tick + 1) * finePerTick)).filter fun e =>
    (e.high == bit sel 0) && (if e.rising then bit sel 1 else bit sel 2)

/-- k and TIE of a crossing at x with origin o, in fine steps, and unit interval U in 2^-32 fine step (R249): an exact half
of k rounds up; TIE in 2^-8 fine step, limited to 31 bits. -/
def tieOf (u : Nat) (o x : Nat) : Int × Int :=
  let dx : Int := ((x : Int) - o) * 2 ^ 32
  let k := (2 * dx + u) / (2 * u)
  let e := roundDiv (dx - k * u) (2 ^ 24)
  (k, max (-(2 ^ 31 - 1)) (min (2 ^ 31 - 1) e))

/-- The origin O of a pin (R249): the first selected crossing from the sampling origin of the acquisition on. -/
def Dev.tieOrigin (d : Dev) (t : Tenant) (p : Pin) : Option Nat :=
  let a := vget d.acq t
  match a.tieO.find? fun x => x.1 == p with
  | some x => some x.2
  | none =>
    let from_ := Nat.max a.acqOrigin a.origin
    ((List.range (d.tb.tick + 1 - from_)).flatMap fun i => d.tieCrossings t p (from_ + i)).head?.map (·.pos)

/-- The reduced values of a pin over the ticks [lo, lo + n): the included values in order, the count of excluded samples, and
whether an INVALID sample is among them (R252). -/
def Dev.reducedValues (d : Dev) (t : Tenant) (p : Pin) (lo n : Nat) : List Int × Nat × Bool :=
  let c := d.dict.cfg
  let org := (d.tieOrigin t p).getD 0
  (List.range n).foldl (fun (acc : List Int × Nat × Bool) i =>
    let tick := lo + i
    let (vs, dropped) := if c.acq t 1 = 2 then ((d.tieCrossings t p tick).map fun e => (tieOf (c.acq t 0x0A) org e.pos).2, 0)
      else
        let good := (d.slotCodes p tick).filter fun s => s != 3
        (good.map (fun s => (s.val : Int)), 64 - good.length)
    if d.pinInvalidIn p tick tick then (acc.1, acc.2.1 + vs.length + dropped, acc.2.2 || decide (0 < vs.length + dropped))
    else (acc.1 ++ vs, acc.2.1 + dropped, acc.2.2)) ([], 0, false)

/-- A signed 32-bit number in memory order. -/
def i32LE (z : Int) : Bytes := natLE 4 (ofSigned 32 z)

/-- The MINMAX words of R253. -/
def minMax (vs : List Int) (inv : Bool) : Bytes :=
  match vs with
  | v :: l => if inv then i32LE (-(2 ^ 31)) ++ i32LE (-(2 ^ 31)) else i32LE (l.foldl min v) ++ i32LE (l.foldl max v)
  | [] => if inv then i32LE (-(2 ^ 31)) ++ i32LE (-(2 ^ 31)) else i32LE (2 ^ 31 - 1) ++ i32LE (-(2 ^ 31))

/-- One reduction of Table TA-5. -/
def reduceOne (lo bin : Int) (vs : List Int) (excluded : Nat) (inv : Bool) (code : Nat) : Bytes :=
  match code with
  | 1 => minMax vs inv
  | 2 => natLE 8 (ofSigned 64 (vs.foldl (· + ·) 0))
  | 3 => natLE 16 (vs.foldl (fun a v => a + v * v) 0).toNat
  | 4 => natLE 4 (min vs.length (2 ^ 32 - 1)) ++ natLE 4 (min excluded (2 ^ 32 - 1))
  | 5 => match vs with
    | v :: _ => i32LE v ++ i32LE (vs.getLastD 0)
    | [] => i32LE (-(2 ^ 31)) ++ i32LE (-(2 ^ 31))
  | 6 =>
    let idx := fun (v : Int) => (max 0 (min 15 ((v - lo) / bin))).toNat
    (List.range 16).flatMap fun b => natLE 4 (min ((vs.filter fun v => idx v == b).length) (2 ^ 32 - 1))
  | _ => []

/-- The calibration epoch of a mark (R11). -/
def TimeMark.epoch (m : TimeMark) : Nat := m.major * 65536 + m.minor

/-- A Landing changed a threshold or the phase of a pin inside a gate of the ticks [lo, hi), not at the edge that begins it
(R251). -/
def Dev.gateSplit (d : Dev) (t : Tenant) (p : Pin) (lo hi : Nat) : Bool :=
  let a := vget d.acq t
  a.thrSplit.any fun x => x.1 == p && decide (lo < x.2) && decide (x.2 < hi) && (x.2 - a.origin) % d.dict.cfg.periodTicks t != 0

/-- A sampled pin is within 16 ticks of a Landing that changed a level (R68) at some tick of [lo, hi). -/
def Dev.settlingIn (d : Dev) (p : Pin) (lo hi : Nat) : Bool := d.pinSettling p (lo * finePerTick) (hi * finePerTick - 1)

/-- The bytes of one sample period of every sampled pin; `k` is the period's index from the sampling origin. -/
def Dev.periodBody (d : Dev) (t : Tenant) (k : Nat) : Bytes :=
  let a := vget d.acq t
  let c := d.dict.cfg
  let n := c.periodTicks t
  let lo := a.origin + k * n
  let last := lo + n - 1
  (c.acqPins t).flatMap fun p =>
    if c.acq t 1 = 3 then
      let codes := (List.range n).flatMap fun i => d.slotCodes p (lo + i)
      let cnt := fun (s : Fin 4) => natLE 4 ((codes.filter fun x => x == s).length)
      let split := d.gateSplit t p lo (lo + n)
      cnt 2 ++ cnt 1 ++ cnt 3
        ++ natLE 1 (ofBool (d.pinInvalidIn p lo last || split) + 2 * ofBool (d.epochSpan lo last)
          + 4 * ofBool (d.settlingIn p lo (lo + n)) + 8 * ofBool split)
        ++ natLE 1 p.val ++ [0, 0]
    else if c.acq t 2 = 0 then
      natLE 16 ((d.slotCodes p lo).zipIdx.foldl (fun acc s => acc + s.1.val * 4 ^ s.2) 0)
    else
      let r := d.reducedValues t p lo n
      if c.acq t 2 = 1 then minMax r.1 r.2.2
      else
        let body := (c.reduceCodes t).flatMap
          (reduceOne (c.int (0x5100 + 16 * t.val) 0x0C) (c.acq t 0x0D) r.1 r.2.1 r.2.2)
        let m := d.markAt last
        let hdr := natLE 4 k ++ natLE 1 p.val
          ++ natLE 1 (ofBool r.2.2 + 2 * ofBool (d.epochSpan lo last) + 4 * ofBool (d.settlingIn p lo (lo + n))
            + 8 * ofBool (d.traceSpan lo last))
          ++ natLE 1 m.trace ++ [0] ++ natLE 4 m.epoch ++ zeros 4
        slice (hdr ++ body) 0 (c.parallelBytes t)

/-- The TIE entries of one tick in order of time, equal times by pin: entry bytes and position (R250). -/
def Dev.tieEntries (d : Dev) (t : Tenant) (tick : Nat) : List (Nat × Bytes) :=
  let c := d.dict.cfg
  (c.acqPins t).foldl (fun (acc : List (Nat × Bytes)) p =>
    let org := (d.tieOrigin t p).getD 0
    let es := ((d.tieCrossings t p tick).take (c.acq t 0x0B)).map fun x =>
      let e := tieOf (c.acq t 0x0A) org x.pos
      (x.pos, natLE 6 tick ++ natLE 2 (x.pos % finePerTick + 8192 * ofBool x.high + 16384 * ofBool x.rising
          + 32768 * ofBool (d.pinInvalidIn p tick tick))
        ++ natLE 1 p.val ++ natLE 3 (ofSigned 24 e.1) ++ i32LE e.2)
    es.foldl (fun l e => (l.takeWhile fun x => decide (x.1 ≤ e.1)) ++ e :: l.dropWhile fun x => decide (x.1 ≤ e.1)) acc) []

/-- Without reduction, a TIE body holds entries (R250). -/
def Cfg.tieRaw (c : Cfg) (t : Tenant) : Bool := c.acq t 1 == 2 && c.acq t 2 == 0

/-- Crossings of the segment in progress that were not stored, up to a tick (R250). -/
def Dev.segExcess (d : Dev) (t : Tenant) (upto : Nat) : Nat :=
  let a := vget d.acq t
  let c := d.dict.cfg
  if !a.active || !c.tieRaw t then 0
  else ((List.range (upto - a.origin)).map fun i =>
    ((c.acqPins t).map fun p => (d.tieCrossings t p (a.origin + i)).length - c.acq t 0x0B).foldl (· + ·) 0).foldl (· + ·) 0

/-! ### Header (Table TA-7) -/

/-- What a header reports beside the context. -/
structure SegReport where
  aborted : Bool
  samples : Nat
  trigEntry : Nat
  wrap : Nat
  edgeExcess : Nat
  /-- Span of TIE from the earliest origin to the last entry. -/
  span : Nat
  /-- First and last tick of the segment's samples. -/
  lo : Nat
  hi : Nat

/-- U_STD_TIME of a source with an uncertainty u_T (R256, R321). -/
def Dev.uTrig (d : Dev) (t : Tenant) (source : Nat) (uT : BitVec 64) : BitVec 64 :=
  if source = 1 then
    (d.chansOf (d.dict.cfg.caredPins t false ++ d.dict.cfg.caredPins t true)).foldl (fun m c => f64Max m (withUT uT (d.uR2 c))) 0
  else if h : 2 ≤ source ∧ source < 6 then
    withUT uT (some (f64ToQ (vget d.cal.trigInU ⟨source - 2, by omega⟩)).sq)
  else withUT uT (some ⟨0, 1⟩)

/-- What a segment reports as its trigger: the trigger point, or, aborted before a trigger, its last sample (R257,
notes/assumptions/14). -/
def Dev.segPoint (d : Dev) (t : Tenant) (hi : Nat) : TrigPoint :=
  (vget d.acq t).trig.getD { pos := d.latestSample (d.dict.cfg.acqPins t) hi 63, source := 0xFE, forced := false }

/-- The 128 header bytes of the segment in progress. -/
def Dev.segHeader (d : Dev) (t : Tenant) (r : SegReport) : Bytes :=
  let a := vget d.acq t
  let c := d.dict.cfg
  let pins := c.acqPins t
  let tp := d.segPoint t r.hi
  let m := d.markAt (tp.pos / finePerTick)
  let inv := pins.foldl (fun m p => if d.pinInvalidIn p r.lo r.hi || d.gateSplit t p r.lo (r.hi + 1) then m + 2 ^ p.val else m) 0
  let cs := d.chansOf pins
  let spans := d.traceSpan r.lo r.hi
  let flags := ofBool a.trig.isSome + 2 * ofBool tp.forced + 4 * ofBool a.breach + 8 * ofBool (d.epochSpan r.lo r.hi)
    + 16 * ofBool spans + 32 * ofBool (decide (r.edgeExcess > 0))
    + 64 * ofBool (pins.any fun p => d.settlingIn p r.lo (r.hi + 1)) + 128 * ofBool r.aborted
  natLE 1 (c.acq t 1) ++ natLE 1 (c.acq t 2) ++ natLE 1 flags ++ natLE 1 m.trace ++ natLE 4 m.epoch
    ++ natLE 4 (d.markAt r.hi).epoch
    ++ timeLE (d.timeOfPos tp.pos) ++ natLE 8 (tp.pos / finePerTick) ++ natLE 2 (tp.pos % finePerTick) ++ natLE 1 tp.source ++ [0]
    ++ natLE 4 a.seg ++ natLE 4 r.samples ++ natLE 4 r.trigEntry ++ natLE 4 r.wrap ++ natLE 6 (c.acq t 8) ++ natLE 6 inv
    ++ natLE 8 (d.uTrig t tp.source (if spans then d.uTIn r.lo r.hi else m.uT)).toNat
    ++ natLE 8 (if c.acq t 1 = 2 then d.uTie (if spans then d.uYIn r.lo r.hi else m.uY) cs r.span else d.uThr cs).toNat
    ++ natLE 4 a.segIgnored ++ natLE 4 a.segLost ++ natLE 4 a.firstLost ++ natLE 4 a.lastLost ++ natLE 4 r.edgeExcess
    ++ natLE 2 (c.acq t 4) ++ zeros 26

/-- An ACQ_DONE record (R257), with the epoch and state in force at its time (R12). -/
def Dev.acqDone (d : Dev) (t : Tenant) (flags : Nat) (last : Bool) (hi : Nat) : Dev :=
  let a := vget d.acq t
  let pos := (d.segPoint t hi).pos
  if bit (d.dict.cfg.acq t 0x0E) 0 then
    d.emit { d.mkRec (.tenant t) t.val 0x04 (0x1000 + t.val) (d.timeOfPos pos)
      (natLE 4 a.seg ++ natLE 4 (a.seg * a.segBytes) ++ natLE 1 flags ++ natLE 1 (ofBool last) ++ [0, 0])
      with pointer := true, et := d.etOfPos pos }
  else d

/-! ### Life of a segment -/

/-- A segment begins at a tick (R232, R233); with ACQ_PRE 0 the qualifier starts at the sampling origin (R243). -/
def Dev.beginSegment (d : Dev) (t : Tenant) (k origin : Nat) : Dev :=
  let pre := d.dict.cfg.acq t 5
  d.modAcq t fun a => { a with
    st := if pre = 0 then 2 else 1, seg := k, origin := origin, segIgnored := 0, count := 0, window := none, armTick := origin
    trig := none, segLost := 0, firstLost := 0, lastLost := 0, breach := false, thrSplit := [] }

/-- ARM at its Landing (R232). -/
def Dev.acqArm (d : Dev) (t : Tenant) : Dev :=
  let d1 := d.acqSizes t
  (d1.modAcq t fun a => { a with segDone := 0, ignored := 0, acqOrigin := d.tb.tick, tieO := [], tickTrigs := [] }).beginSegment
    t 0 d.tb.tick

/-- The period of sample 0 of a segment of which `done` periods are written: PRE before the trigger point (R244), or the oldest
that the ring still holds (R255). -/
def Dev.firstPeriod (d : Dev) (t : Tenant) (done : Nat) : Nat :=
  let a := vget d.acq t
  let c := d.dict.cfg
  let oldest := done - c.segPeriods t
  match a.trig with
  | some tp =>
    let k := (tp.pos / finePerTick - a.origin) / Nat.max 1 (c.periodTicks t) - c.acq t 5
    if k < done then k else oldest
  | none => oldest

/-- The last tick of the segment that an accepted trigger ends (R233, R244). -/
def Dev.segEnd (d : Dev) (t : Tenant) : Option Nat :=
  let a := vget d.acq t
  let c := d.dict.cfg
  let n := c.periodTicks t
  a.trig.map fun tp => a.origin + ((tp.pos / finePerTick - a.origin) / Nat.max 1 n + c.acq t 6 + 1) * n - 1

/-- Bytes that enter a ring of `total` bytes at an offset, as writes that do not cross its end. -/
def ringWrites (total off : Nat) (bytes : Bytes) : List (Nat × Bytes) :=
  let head := bytes.take (total - off)
  (off, head) :: if (bytes.drop (total - off)).isEmpty then [] else [(0, bytes.drop (total - off))]

/-- The body of a segment of which `done` periods are written: its writes at offsets from the body's start (R255), and what the
header reports. The entries of a TIE body lie one after another from sample 0 (notes/assumptions/14). -/
def Dev.segBody (d : Dev) (t : Tenant) (done : Nat) (aborted : Bool) : List (Nat × Bytes) × SegReport :=
  let a := vget d.acq t
  let c := d.dict.cfg
  let n := c.segPeriods t
  let per := c.periodBytes t
  let first := d.firstPeriod t done
  let lo := a.origin + first * c.periodTicks t
  let hi := a.origin + done * c.periodTicks t - 1
  let wrap := first % n * per
  let r : SegReport :=
    { aborted := aborted, samples := done - first, trigEntry := c.acq t 5, wrap := wrap, edgeExcess := 0, span := 0, lo := lo
      hi := Nat.max lo hi }
  if c.tieRaw t then
    let entries := (List.range (done - first)).flatMap fun i => d.tieEntries t (lo + i)
    let trig := match a.trig with | some tp => tp.pos | none => (hi + 1) * finePerTick
    let origins := (c.acqPins t).filterMap (d.tieOrigin t)
    let from_ := origins.foldl Nat.min (origins.headD 0)
    (ringWrites (n * per) wrap (entries.flatMap (·.2)),
      { r with samples := entries.length, trigEntry := (entries.takeWhile fun e => decide (e.1 < trig)).length
               edgeExcess := d.segExcess t (hi + 1), span := (entries.map (·.1)).foldl Nat.max from_ - from_ })
  else
    let oldest := done - n
    ((List.range (done - oldest)).map fun i => ((oldest + i) % n * per, d.periodBody t (oldest + i)), r)

/-- A segment ends (R233, R234): its body and its header are written, and ACQ_DONE is sent. -/
def State.endSegment (s : State) (t : Tenant) (done : Nat) (aborted last : Bool) : State :=
  let a := vget s.dev.acq t
  let d := s.dev
  let r := d.segBody t done aborted
  let base := a.seg * a.segBytes
  let hdr := d.segHeader t r.2
  let s1 := (r.1.foldl (fun s w => s.areaWrite 1 t (base + 128 + w.1) w.2) s).areaWrite 1 t base hdr
  let d2 := s1.dev.modAcq t fun a => { a with
    edgeExcess := satAdd 32 a.edgeExcess r.2.edgeExcess
    tieO := (d.dict.cfg.acqPins t).filterMap fun p => (d.tieOrigin t p).map fun o => (p, o) }
  { s1 with dev := d2.acqDone t (hdr.getD 2 0).toNat last r.2.hi }

/-- A segment is complete (R233), and the next one begins. -/
def State.segmentComplete (s : State) (t : Tenant) : State :=
  let a := vget s.dev.acq t
  match s.dev.segEnd t with
  | none => s
  | some e =>
    if a.st ≠ 3 || decide (s.dev.tb.tick < e) then s
    else
      let d := s.dev.settleTriggers t
      let last := decide (a.seg + 1 ≥ d.dict.cfg.acq t 7)
      let s1 := { s with dev := d }.endSegment t ((e + 1 - a.origin) / Nat.max 1 (d.dict.cfg.periodTicks t)) false last
      let d2 := s1.dev.modAcq t fun a => { a with segDone := satAdd 32 a.segDone 1 }
      { s1 with dev := if last then d2.modAcq t fun a => { a with st := 4 } else d2.beginSegment t (a.seg + 1) (e + 1) }

/-- ABORT, and the end of an acquisition by a stop or a forced descent (R234): the header with ABORTED, and ACQ_DONE. A TRIGGER
record that still waits for its trigger point goes before it (R258, notes/assumptions/14). -/
def State.acqAbort (s : State) (t : Tenant) : State :=
  let a := vget s.dev.acq t
  if !a.active then s
  else
    let d := match a.trig with
      | some tp => if tp.recDue then s.dev.triggerRecord t tp else s.dev
      | none => s.dev
    let s1 := { s with dev := d }.endSegment t ((d.tb.tick - a.origin) / Nat.max 1 (d.dict.cfg.periodTicks t)) true true
    { s1 with dev := s1.dev.modAcq t fun a => { a with st := 5, tickTrigs := [], trig := a.trig.map fun x => { x with recDue := false } } }

/-- Capture writes lost in a frame (R260): `blocks` 64-byte blocks of the sample period being written. -/
def Dev.captureLost (d : Dev) (t : Tenant) (blocks : Nat) : Dev :=
  let a := vget d.acq t
  if !a.active || blocks = 0 then d
  else
    let k := (d.tb.tick - a.origin) / Nat.max 1 (d.dict.cfg.periodTicks t)
    d.modAcq t fun a => { a with
      lostBlocks := satAdd 32 a.lostBlocks blocks, segLost := satAdd 32 a.segLost blocks, breach := true
      firstLost := if a.segLost = 0 then k else a.firstLost, lastLost := k }

end Sys2Proof.Machine
end

