-- ==== Sys2Proof/Machine/Timing.lean ====
section
/-! DEFINITION. Timing sets, their checks and the drive formats (chapter 4). -/
namespace Sys2Proof.Machine

/-- The index of timing set s of tenant t (R102). -/
def tsIx (t : Tenant) (s : Nat) : Nat := 0x4000 + 64 * t.val + s

/-- TSET_PERIOD. -/
def Cfg.period (c : Cfg) (t : Tenant) (s : Nat) : Nat := c.nat (tsIx t s) 0x40

/-- TSET_ATTR bit ENABLE. -/
def Cfg.tsEnabled (c : Cfg) (t : Tenant) (s : Nat) : Bool := bit (c.nat (tsIx t s) 0x41) 0

/-- TSET_ATTR bit QUIET. -/
def Cfg.tsQuiet (c : Cfg) (t : Tenant) (s : Nat) : Bool := bit (c.nat (tsIx t s) 0x41) 1

/-- The TSET_PIN record (Table TS-2), decoded. -/
structure TsPin where
  driveOn : Nat
  data : Nat
  ret : Nat
  driveOff : Nat
  cmpOpen : Nat
  cmpClose : Nat
  format : Nat
  window : Bool
  precision : Bool
  reserved : Bool
  deriving DecidableEq, Repr

/-- Decode a TSET_PIN record. -/
def tsPinOf (b : Bytes) : TsPin :=
  { driveOn := fieldBE b 0 4, data := fieldBE b 4 4, ret := fieldBE b 8 4, driveOff := fieldBE b 12 4
    cmpOpen := fieldBE b 16 4, cmpClose := fieldBE b 20 4, format := fieldBE b 24 1, window := bit (fieldBE b 25 1) 0
    precision := bit (fieldBE b 25 1) 1, reserved := decide (fieldBE b 25 1 ≥ 4) || decide (fieldBE b 26 2 ≠ 0) }

/-- The record of a pin in a set. -/
def Cfg.tsPin (c : Cfg) (t : Tenant) (s : Nat) (p : Pin) : TsPin := tsPinOf (c.get (tsIx t s) p.val)

/-- The format outside RAW segments: a RAW pin is an NRZ pin (R125). -/
def TsPin.fmt (r : TsPin) : Nat := if r.format = 6 then 0 else r.format

/-- The format uses RETURN (Table TS-9). -/
def usesReturn (f : Nat) : Bool := decide (1 ≤ f ∧ f ≤ 5)

/-- DRIVE_ON and DRIVE_OFF are used (R109). -/
def TsPin.win (r : TsPin) : Bool := r.window && r.fmt != 5

/-- The used drive edges (R109), the vector start of SBC included. -/
def TsPin.drives (r : TsPin) : List Nat :=
  (if r.fmt = 4 then [0] else []) ++ [r.data] ++ (if usesReturn r.fmt then [r.ret] else []) ++
  (if r.win then [r.driveOn, r.driveOff] else [])

/-- The used edges whose position is programmed, compare edges included (R111). -/
def TsPin.usedEdges (r : TsPin) : List Nat :=
  [r.data] ++ (if usesReturn r.fmt then [r.ret] else []) ++ (if r.win then [r.driveOn, r.driveOff] else []) ++
  [r.cmpOpen, r.cmpClose]

/-- Insert into an ascending list without repeats. -/
def insertAsc (n : Nat) : List Nat → List Nat
  | [] => [n]
  | x :: xs => if n < x then n :: x :: xs else if n = x then x :: xs else x :: insertAsc n xs

/-- The distinct positions of precision strobes in a set over the pins a tenant owns (R109, R130): the used edges of the
pins with PRECISION, and with `all`, where none has it, those of every owned pin. -/
def Cfg.strobes (c : Cfg) (t : Tenant) (s : Nat) (all : Bool) : List Nat :=
  let pins := (allPins.filter fun p => c.pinOwner p == some t).map fun p => c.tsPin t s p
  let prec := pins.filter (·.precision)
  let chosen := if prec.isEmpty && all then pins else prec
  (chosen.flatMap fun r => r.drives ++ [r.cmpOpen, r.cmpClose]).foldl (fun l n => insertAsc n l) []

/-- The transitions of a pin (R110): positions of its used drive edges, ascending, equal ones joined. -/
def TsPin.transitions (r : TsPin) : List Nat := r.drives.foldl (fun l n => insertAsc n l) []

/-- Some two successive transitions satisfy `bad`. -/
def anyPair (bad : Nat → Nat → Bool) : List Nat → Bool
  | a :: b :: l => bad a b || anyPair bad (b :: l)
  | _ => false

/-- The check code of one pin's record (R115 step 2, Table TS-6), 0 for none. -/
def TsPin.check (r : TsPin) (period : Nat) : Nat :=
  if r.format > 6 then 7
  else if r.reserved then 8
  else if r.usedEdges.any fun e => decide (e ≥ period) then 2
  else if (r.win && decide (r.driveOn ≥ r.driveOff)) || (usesReturn r.fmt && decide (r.data ≥ r.ret))
      || decide (r.cmpOpen > r.cmpClose) then 3
  else if anyPair (fun a b => decide (b - a < 384)) r.transitions then 4
  else if anyPair (fun a b => decide (a % 128 ≠ b % 128) && decide (b - a < 512)) r.transitions then 5
  else 0

/-- The lead of a pin in a set (R113). -/
def TsPin.lead (r : TsPin) : Nat := r.transitions.headD 0

/-- The tail of a pin in a set (R113). -/
def TsPin.tail (r : TsPin) (period : Nat) : Nat := period - r.transitions.getLastD 0

/-- The enabled sets of a tenant, ascending. -/
def Cfg.enabledSets (c : Cfg) (t : Tenant) : List Nat := (List.range 64).filter fun s => c.tsEnabled t s

/-- TSET_CHECK's value (Table TS-7). -/
def tsCheckValue (rule pin other : Nat) : Nat := rule * 2 ^ 24 + pin * 2 ^ 16 + other * 2 ^ 8

/-- The first failure within one set (R115 steps 1 and 2). -/
def Cfg.setFailure (c : Cfg) (t : Tenant) (pins : List Pin) (s : Nat) : Option (Nat × Nat) :=
  let p := c.period t s
  if p < 8192 then some (s, tsCheckValue 1 0xFF 0xFF)
  else if c.nat (tsIx t s) 0x41 ≥ 4 then some (s, tsCheckValue 8 0xFF 0xFF)
  else pins.findSome? fun q =>
    let k := (c.tsPin t s q).check p
    if k = 0 then none else some (s, tsCheckValue k q.val 0xFF)

/-- The least value of `f` over a list, with the first element that gives it. -/
def leastBy (f : Nat → Nat) : List Nat → Option (Nat × Nat)
  | [] => none
  | x :: xs =>
    match leastBy f xs with
    | some (v, y) => if f x ≤ v then some (f x, x) else some (v, y)
    | none => some (f x, x)

/-- The first BOUNDARY failure over the pins, ascending (R113, R115 step 3). -/
def Cfg.boundaryFailure (c : Cfg) (t : Tenant) (pins : List Pin) (sets : List Nat) : Option (Nat × Nat) :=
  pins.findSome? fun q =>
    match leastBy (fun s => (c.tsPin t s q).lead) sets, leastBy (fun s => (c.tsPin t s q).tail (c.period t s)) sets with
    | some (l, sl), some (k, sk) => if l + k < 512 then some (sk, tsCheckValue 6 q.val sl) else none
    | _, _ => none

/-- The first failure of a tenant's sets in a configuration (R114, R115): the set and its TSET_CHECK. -/
def Cfg.tsetFailure (c : Cfg) (t : Tenant) : Option (Nat × Nat) :=
  let pins := allPins.filter fun p => c.pinOwner p == some t
  let sets := c.enabledSets t
  (sets.findSome? fun s => c.setFailure t pins s).orElse fun _ => c.boundaryFailure t pins sets

/-! ### Pin codes and drive events -/

/-- The drive bit of a pin code: none for Keep and DZ (Table TS-8). -/
def codeDrive (code : Nat) : Option Bool :=
  if code = 0 || code = 8 || code = 0xA then some false
  else if code = 1 || code = 9 || code = 0xB then some true
  else none

/-- The compare that a pin code asks for. -/
inductive Expect where
  | none | state (s : Fin 4) | transition | stable
  deriving DecidableEq, Repr

/-- Table TS-8, receive lane: 0b00 below, 0b01 between, 0b10 above (Table PC-2). -/
def codeExpect (code : Nat) : Expect :=
  if code = 4 || code = 8 || code = 0xB then .state 0
  else if code = 5 || code = 9 || code = 0xA then .state 2
  else if code = 6 then .state 1
  else if code = 0xC then .transition
  else if code = 0xD then .stable
  else .none

/-- One thing an edge asks of a drive lane. -/
inductive DriveAct where
  | on | off | level (b : Bool)
  deriving DecidableEq, Repr

/-- The events of a vector at their positions, before sorting: the drive state first, the level second (R110, R118,
Table TS-9). -/
def TsPin.events (r : TsPin) (code : Nat) : List (Nat × DriveAct) :=
  let first := r.lead
  match codeDrive code with
  | some b =>
    (if r.win then [(r.driveOn, .on), (r.driveOff, .off)] else if r.fmt = 5 then [(r.data, .on), (r.ret, .off)] else [(first, .on)])
    ++ (if r.fmt = 4 then [(0, .level (!b))] else [])
    ++ (if r.fmt = 1 then (if b then [(r.data, .level true)] else [(r.ret, .level false)])
        else [(r.data, .level b)])
    ++ (if r.fmt = 2 then [(r.ret, .level false)] else if r.fmt = 3 then [(r.ret, .level true)]
        else if r.fmt = 4 then [(r.ret, .level (!b))] else [])
  | none => if code = 2 then [(if r.win then 0 else first, .off)] else []

/-- Insert an event after every event at the same or an earlier position. -/
def insertEvent (e : Nat × DriveAct) : List (Nat × DriveAct) → List (Nat × DriveAct)
  | [] => [e]
  | x :: xs => if e.1 < x.1 then e :: x :: xs else x :: insertEvent e xs

/-- The events in time order; at one position in the order of R110. -/
def sortEvents (l : List (Nat × DriveAct)) : List (Nat × DriveAct) := l.foldl (fun a e => insertEvent e a) []

/-- The lane (level, driven) after one event. -/
def applyAct (s : Bool × Bool) : DriveAct → Bool × Bool
  | .on => (s.1, true)
  | .off => (s.1, false)
  | .level b => (b, s.2)

/-- The lane states after each transition, with positions: what edges at one position ask for forms one transition (R110). -/
def runEvents (s : Bool × Bool) : List (Nat × DriveAct) → List (Nat × (Bool × Bool))
  | [] => []
  | (p, a) :: l =>
    let s1 := applyAct s a
    match runEvents s1 l with
    | (q, s2) :: r => if p = q then (q, s2) :: r else (p, s1) :: (q, s2) :: r
    | [] => [(p, s1)]

/-- The direction of a transition of a lane (level, driven): rising towards the higher level, the off state between both. -/
def risingTo (a b : Bool × Bool) : Bool :=
  let v := fun (x : Bool × Bool) => if x.2 then (if x.1 then 2 else 0) else 1
  decide (v a < v b)

end Sys2Proof.Machine
end

