-- ==== Sys2Proof/Machine/Gallery.lean ====
section
/-! DEFINITION. The Gallery: compares, fail counters, fail records, admission markers, the fail bitmap and the fail limits
(chapter 7). -/
namespace Sys2Proof.Machine

/-- A Gallery entry at 0x50t0. -/
def Cfg.fg (c : Cfg) (t : Tenant) (sub : Nat) : Nat := c.nat (0x5000 + 16 * t.val) sub

/-- Change a Gallery writer. -/
def Dev.modGal (d : Dev) (t : Tenant) (f : Gallery → Gallery) : Dev := { d with gallery := vmod d.gallery t f }

/-- The owned groups of a tenant in a configuration, ascending. -/
def Cfg.ownedGroups (c : Cfg) (t : Tenant) : List Group :=
  (List.ofFn (n := 12) id).filter fun g => tenantOf (c.nat 0x1102 g.val) == some t

/-- B: the bitmap's bytes (R202). -/
def Cfg.bitmapBytes (c : Cfg) (t : Tenant) : Nat :=
  if bit (c.fg t 1) 1 then ceilDiv (c.fg t 4 * 8 * (c.ownedGroups t).length) 512 * 64 else 0

/-- FG_REC_CAPACITY with q banks (R203). -/
def Cfg.recCapacity (c : Cfg) (t : Tenant) (q : Nat) : Nat := (q * 2 ^ 20 - 4096 - c.bitmapBytes t) / 64

/-- FG_REC_CAPACITY in force. -/
def Dev.recCapacity (d : Dev) (t : Tenant) : Nat :=
  if (d.areaBanks 2 t).isEmpty then 0 else d.dict.cfg.recCapacity t (d.areaBanks 2 t).length

/-! ### Counters (R206-R212) -/

/-- Offset of a pin's low cell. -/
def lowCell (p : Pin) : Nat := 128 * (p.val / 8) + 8 * (p.val % 8)
/-- Offset of a pin's high cell. -/
def highCell (p : Pin) : Nat := lowCell p + 64

/-- A cell as stored. -/
def State.cell (s : State) (t : Tenant) (off : Nat) : Nat := leNat (s.dev.areaBytes s.mem 2 t off 8)

/-- A low cell: LOW and CARRY_PENDING. -/
def lowWord (low : Nat) (pending : Bool) : Bytes := natLE 8 (low % 2 ^ 32 + (if pending then 2 ^ 32 else 0))

/-- Complete a carry found pending after an interruption (R210). -/
def State.repairCarry (s : State) (t : Tenant) (p : Pin) : State :=
  let lo := s.cell t (lowCell p)
  let hi := s.cell t (highCell p)
  let s1 := (s.areaWrite 2 t (highCell p) (natLE 8 ((hi + 1) % 2 ^ 32))).areaWrite 2 t (lowCell p) (lowWord lo false)
  let d1 := s1.dev.modGal t fun g => { g with tornRepairs := satAdd 32 g.tornRepairs 1 }
  { s1 with dev := d1.raiseTrans 42 (some t) 1 t.val (s.dev.areaAddr 2 t (lowCell p)) 3 }

/-- The next cell write of an update (R208, Table MA-2 for a poisoned cell). -/
def State.flushWrite (s : State) (t : Tenant) : State :=
  let g := vget s.dev.gallery t
  match g.flush with
  | some f =>
    if f.high then
      let s1 := s.areaWrite 2 t (highCell f.pin) (natLE 8 ((s.cell t (highCell f.pin) + 1) % 2 ^ 32))
      { s1 with dev := s1.dev.modGal t fun g => { g with flush := some { f with high := false } } }
    else
      let s1 := s.areaWrite 2 t (lowCell f.pin) (lowWord (s.cell t (lowCell f.pin)) false)
      { s1 with dev := s1.dev.modGal t fun g => { g with flush := none } }
  | none =>
    match allPins.find? fun p => decide (vget g.closed p > 0) with
    | none => s
    | some p =>
      let inc := vget g.closed p
      let clear := fun (s : State) => { s with dev := s.dev.modGal t fun g => { g with closed := vmod g.closed p fun _ => 0 } }
      let bad := (s.dev.areaRead s.mem 2 t (lowCell p) 8).isNone || (s.dev.areaRead s.mem 2 t (highCell p) 8).isNone
      if bad then
        let s1 := (s.areaWrite 2 t (highCell p) (zeros 8)).areaWrite 2 t (lowCell p) (lowWord inc false)
        let d1 := s1.dev.modGal t fun g => { g with lost := true }
        clear { s1 with dev := d1.eccHit (s.dev.areaAddr 2 t (lowCell p)) (some t) 1 t.val 3 }
      else
        let s1 := if bit (s.cell t (lowCell p)) 32 then s.repairCarry t p else s
        let low := s1.cell t (lowCell p) % 2 ^ 32
        if low + inc < 2 ^ 32 then clear (s1.areaWrite 2 t (lowCell p) (lowWord (low + inc) false))
        else
          let s2 := clear (s1.areaWrite 2 t (lowCell p) (lowWord (low + inc) true))
          { s2 with dev := s2.dev.modGal t fun g => { g with flush := some { pin := p, high := true } } }

/-- Several cell writes of the flush. -/
def State.flushWrites (s : State) (t : Tenant) : Nat → State
  | 0 => s
  | n + 1 => State.flushWrites (s.flushWrite t) t n

/-- COUNTER_FLUSH (R207, R208). -/
def State.counterFlush (s : State) (t : Tenant) (writes : Nat) : State := s.flushWrites t (min writes 240)

/-- A read of FAIL_COUNT (R209, R210): the state, the status and the value. An update of the pin under way completes
first. -/
def State.failCount (s : State) (t : Tenant) (p : Pin) : State × Nat × Nat :=
  if s.dev.dict.cfg.pinOwner p ≠ some t || (s.dev.areaBanks 2 t).isEmpty then (s, stOK, 0)
  else
    let s1 := match (vget s.dev.gallery t).flush with
      | some f => if f.pin = p then s.flushWrites t (if f.high then 2 else 1) else s
      | none => s
    let torn := bit (s1.cell t (lowCell p)) 32
    let s2 := if torn then s1.repairCarry t p else s1
    (s2, if torn then stTorn else stOK, s2.cell t (highCell p) % 2 ^ 32 * 2 ^ 32 + s2.cell t (lowCell p) % 2 ^ 32)

/-- The value of a counter as stored, a pending carry included. -/
def State.counterValue (s : State) (t : Tenant) (p : Pin) : Nat :=
  let lo := s.cell t (lowCell p)
  (s.cell t (highCell p) + (if bit lo 32 then 1 else 0)) % 2 ^ 32 * 2 ^ 32 + lo % 2 ^ 32

/-- CLEAR_COUNTERS (R212). -/
def State.clearCounters (s : State) (t : Tenant) : State :=
  let s1 := s.areaWrite 2 t 0 (zeros 768)
  { s1 with dev := s1.dev.modGal t fun g => { g with
    closed := Vector.replicate 48 0, flush := none, invalidCompares := Vector.replicate 48 0 } }

/-- ARM of fail capture (R216, R219). -/
def Dev.galleryArm (d : Dev) (t : Tenant) : Dev :=
  d.modGal t fun g => { g with
    fails := 0, recCount := 0, recDropped := 0, totalFails := 0, recordsFull := false, limitReached := false, breach := false
    lost := false, window := 1, rowsTaken := 0, rowsSent := 0, rowBuf := [], bitmapRows := 0, queue := [] }

/-- The partial block of the bitmap is written (R220): at a frame edge, at the window's close and at the end of vector issue. -/
def Gallery.partialBlock (g : Gallery) (rowBytes : Nat) : Gallery :=
  if g.rowsSent = g.rowsTaken then g
  else { g with
    queue := g.queue ++ [.block (g.rowsTaken * rowBytes - g.rowBuf.length) g.rowBuf (g.rowsTaken - g.rowsSent)]
    rowsSent := g.rowsTaken }

/-- The bytes of a bitmap row (R218). -/
def Cfg.rowBytes (c : Cfg) (t : Tenant) : Nat := (c.ownedGroups t).length

/-- The accumulators of the ending frame close (R207); partial bitmap blocks are written (R220). -/
def Dev.galleryEdge (d : Dev) (t : Tenant) : Dev :=
  d.modGal t fun g => { g.partialBlock (d.dict.cfg.rowBytes t) with
    closed := Vector.zipWith (· + ·) g.closed g.accum, accum := Vector.replicate 48 0 }

/-- Vector issue ends: a partial bitmap block is written (R220). -/
def Dev.galleryIssueEnd (d : Dev) (t : Tenant) : Dev := d.modGal t fun g => g.partialBlock (d.dict.cfg.rowBytes t)

/-- Updates not made when a reset interrupts the writer (R211). -/
def Dev.galleryInterrupt (d : Dev) (t : Tenant) : Dev :=
  d.modGal t fun g =>
    let dropped := ofBool g.flush.isSome + g.queue.length + (allPins.filter fun p => decide (vget g.closed p > 0)).length
    { g with flush := none, closed := Vector.replicate 48 0, accum := Vector.replicate 48 0, queue := []
             writesDropped := satAdd 32 g.writesDropped dropped }

/-- FG_IDLE (Table FG-7): nothing waits to be written. -/
def Gallery.idle (g : Gallery) : Bool :=
  g.flush.isNone && g.queue.isEmpty && decide (g.rowsSent = g.rowsTaken)
    && allPins.all fun p => decide (vget g.closed p = 0) && decide (vget g.accum p = 0)

/-! ### Results of a compare -/

/-- A pin's result (R205). -/
structure PinResult where
  pin : Pin
  failed : Bool
  invalid : Bool
  /-- Start of the pin's compare interval. -/
  from_ : Nat := 0
  /-- The instant of the pin's result: CMP_CLOSE, or the first failing sample of a RAW tick. -/
  at_ : Nat := 0
  /-- First failing slot of a RAW tick, the instants of the fail results, and the count of invalid results. -/
  slot : Nat := 0
  fails : List Nat := []
  invalids : Nat := 0

/-- The compare of a pin code on the states that the lane took in its interval and whether a crossing was reported (R119). -/
def judge (code : Nat) (states : List (Fin 4)) (crossing : Bool) : Option Bool :=
  let clean := !states.contains 3
  match codeExpect code with
  | .none => none
  | .state k => some (clean && states.all fun s => s == k)
  | .transition => some (clean && crossing)
  | .stable => some (clean && !crossing)

/-- The results of a vector, in ascending pin order. -/
def Dev.vectorResults (d : Dev) (c : Cmp) : List PinResult :=
  c.wins.filterMap fun (p, code, a, b) =>
    match judge code (d.statesIn p a b) !(d.crossings p a (b + 1)).isEmpty with
    | none => none
    | some ok =>
      let inv := d.pinInvalidIn p (a / finePerTick) (b / finePerTick)
      some { pin := p, failed := !ok, invalid := inv, from_ := a, at_ := b, fails := if !ok && !inv then [b] else [], invalids := ofBool inv }

/-- Word k of a RAW segment's data: from the image, or as taken from the ring. -/
def State.rawWord (s : State) (t : Tenant) (c : Cmp) (w k : Nat) (ring : Bool) : Nat :=
  if ring then c.rawData.getD k 0
  else leNat (s.dev.areaBytes s.mem 0 t ((vget s.dev.seqs t).dataOffset + 8 * (w + k)) 8)

/-- The pins that are RAW in a set, ascending (R122, R141). -/
def Dev.rawPins (d : Dev) (t : Tenant) (tset : Nat) : List Pin :=
  (d.ownedPins t).filter fun p => (d.dict.cfg.tsPin t tset p).format == 6

/-- The results of tick i of a comparing RAW segment (R124, R141, R275). -/
def State.rawResults (s : State) (t : Tenant) (c : Cmp) (w i : Nat) (ring : Bool) : List PinResult :=
  let n := c.rawPins.length
  let fetched := s.dev.dict.cfg.nat 0x1911 t.val == 1
  let tick := c.start / finePerTick + i
  c.rawPins.zipIdx.map fun pj =>
    let p := pj.1
    let inv := s.dev.pinInvalidIn p tick tick || !fetched
    if !fetched then { pin := p, failed := false, invalid := true, invalids := 64 }
    else
      let expect := s.rawWord t c w (3 * i * n + n + pj.2) ring
      let mask := s.rawWord t c w (3 * i * n + 2 * n + pj.2) ring
      let live := (List.range 64).filter fun k => !bit mask k
      let bad := live.filter fun k => s.dev.sampleAt p tick k != (if bit expect k then 2 else 0)
      let first := s.dev.sampleInstant p tick (bad.headD 0)
      { pin := p, failed := !bad.isEmpty, invalid := inv, from_ := first, at_ := first, slot := bad.headD 0
        fails := if inv then [] else bad.map (s.dev.sampleInstant p tick), invalids := if inv then live.length else 0 }

/-! ### Records, bitmap and limits -/

/-- A FAIL_LIMIT record (R223) at the instant of the result that caused it. -/
def Dev.failLimit (d : Dev) (t : Tenant) (reason reaction pos : Nat) : Dev :=
  let g := vget d.gallery t
  d.emit { d.mkRec (.tenant t) t.val 0x03 (0x2000 + t.val) (d.timeOfPos pos)
    (natLE 1 reason ++ natLE 1 reaction ++ [0, 0] ++ natLE 4 g.recCount ++ natLE 4 g.totalFails) with et := d.etOfPos pos }

/-- The 64 bytes of a fail record (Table FG-3) for the results of a vector, or of tick `rawTick` of a RAW segment. The
instant is that of the latest failing compare (notes/assumptions/13), in RAW of the first failing sample. -/
def Dev.failRecord (d : Dev) (c : Cmp) (time : Nat) (rawTick : Option Nat) (rs : List PinResult) : Bytes :=
  let bad := rs.filter (·.failed)
  let pins := bad.map (·.pin)
  let a := (bad.map (·.from_)).foldl Nat.min time / finePerTick
  let b := time / finePerTick
  let m := d.markAt b
  let flags := ofBool (bad.any (·.invalid)) + 2 * ofBool (bad.any fun r => d.pinSettling r.pin r.from_ r.at_)
    + 4 * ofBool rawTick.isSome + 8 * ofBool (d.epochSpan a b) + 16 * ofBool (d.traceSpan a b)
  let slot := match rawTick with | some _ => (bad.map (·.slot)).foldl Nat.min 63 | none => 0xFF
  natLE 1 0x01 ++ natLE 1 flags ++ natLE 1 m.trace ++ natLE 1 c.tset ++ natLE 4 (m.major * 65536 + m.minor)
    ++ timeLE (d.timeOfPos time) ++ natLE 8 b
    ++ natLE 8 c.vecNo ++ natLE 4 c.ctrl ++ natLE 6 (pins.foldl (fun m p => m + 2 ^ p.val) 0) ++ natLE 1 c.loops.length
    ++ natLE 1 slot ++ natLE 4 (c.loops.headD 0) ++ natLE 4 (match rawTick with | some i => i | none => c.loops.getD 1 0)
    ++ natLE 8 (d.uFail (d.uTIn a b) (d.chansOf pins)).toNat

/-- The Gallery has something to do at the end of the tick. -/
def Dev.galQueue (d : Dev) (t : Tenant) (w : GalWrite) : Dev := d.modGal t fun g => { g with queue := g.queue ++ [w] }

/-- Counters of the results (R207, R221). -/
def Dev.countResults (d : Dev) (t : Tenant) (rs : List PinResult) : Dev :=
  rs.foldl (fun d r => d.modGal t fun g => { g with
    accum := vmod g.accum r.pin (· + r.fails.length), totalFails := satAdd 64 g.totalFails r.fails.length
    invalidCompares := vmod g.invalidCompares r.pin fun n => satAdd 32 n r.invalids }) d

/-- Fail records that wait for the end of the tick. -/
def Gallery.waiting (g : Gallery) : Nat :=
  (g.queue.filter fun w => match w with | .record fail _ _ => fail | _ => false).length

/-- A fail record, or its drop, for a vector or RAW tick with a failing compare (R213, R215). -/
def Dev.recordFails (d : Dev) (t : Tenant) (c : Cmp) (time : Nat) (rawTick : Option Nat) (rs : List PinResult) : Dev :=
  let g := vget d.gallery t
  if !bit (d.dict.cfg.fg t 1) 0 || !(rs.any (·.failed)) then d
  else if g.fails + g.waiting ≥ d.dict.cfg.fg t 2 then d.modGal t fun g => { g with recDropped := satAdd 64 g.recDropped 1 }
  else d.galQueue t (.record true (d.failRecord c time rawTick rs) time)

/-- COUNT_LIMIT (R221-R223): at the instant of the fail result, in the order of delivery, that reaches the limit; `was` is the
total before these results. -/
def Dev.countLimit (d : Dev) (t : Tenant) (was : Nat) (rs : List PinResult) : Dev :=
  let g := vget d.gallery t
  let limit := d.dict.cfg.fg t 5
  if limit = 0 || g.limitReached || decide (g.totalFails < limit) then d
  else
    (d.modGal t fun g => { g with limitReached := true, stopDue := g.stopDue || bit (d.dict.cfg.fg t 6) 0 }).galQueue t
      (.limit ((rs.flatMap (·.fails)).getD (limit - was - 1) d.fineNow))

/-- The code of a pin in the bitmap (Table FG-4). -/
def bitmapCode (rs : List PinResult) (p : Pin) : Nat :=
  match rs.find? fun r => r.pin == p with
  | none => 0
  | some r => if r.invalid then 3 else if r.failed then 2 else 1

/-- A row enters the block that fills; a full block is written (R220). -/
def Gallery.takeRow (g : Gallery) (row : Bytes) : Gallery :=
  let buf := g.rowBuf ++ row
  let taken := g.rowsTaken + 1
  if buf.length < 64 then { g with rowBuf := buf, rowsTaken := taken }
  else
    let end_ := taken * row.length - (buf.length - 64)
    let done := end_ / Nat.max 1 row.length
    { g with rowBuf := buf.drop 64, rowsTaken := taken, rowsSent := done
             queue := g.queue ++ [.block (end_ - 64) (buf.take 64) (done - g.rowsSent)] }

/-- The row of a reporting vector (R218-R220). -/
def Dev.bitmapRow (d : Dev) (t : Tenant) (c : Cmp) (rs : List PinResult) : Dev :=
  let cfg := d.dict.cfg
  let g := vget d.gallery t
  if !bit (cfg.fg t 1) 1 then d
  else
    let opens := g.window == 1 && (if bit (cfg.fg t 1) 2 then c.marked else decide (cfg.fg t 3 ≤ c.vecNo))
    if g.window ≠ 2 && !opens then d
    else
      let row := (cfg.ownedGroups t).map fun k =>
        BitVec.ofNat 8 (((allPins.filter fun p => p.val / 4 == k.val).map fun p => bitmapCode rs p * 4 ^ (p.val % 4)).foldl (· + ·) 0)
      let closes := decide (g.rowsTaken + 1 ≥ cfg.fg t 4)
      d.modGal t fun g =>
        let g1 := { g.takeRow row with window := if closes then 3 else 2 }
        if closes then let g2 := g1.partialBlock row.length; { g2 with queue := g2.queue ++ [.closed c.close] } else g1

/-- A failing compare of a pass (R156). -/
def Dev.passFailed (d : Dev) (t : Tenant) (c : Cmp) (failed : Bool) : Dev :=
  if c.inMatch && failed then
    { d with seqs := vmod d.seqs t fun s => { s with matching := s.matching.map fun m => { m with failed := true } } }
  else d

/-- Deliver the results of a vector (R205). -/
def Dev.deliverVector (d : Dev) (t : Tenant) (c : Cmp) (rs : List PinResult) : Dev :=
  let was := (vget d.gallery t).totalFails
  let time := ((rs.filter (·.failed)).map (·.at_)).foldl Nat.max 0
  (((d.countResults t rs).recordFails t c time none rs).countLimit t was rs).bitmapRow t c rs

/-- Deliver the results of one RAW tick. -/
def Dev.deliverRaw (d : Dev) (t : Tenant) (c : Cmp) (i : Nat) (rs : List PinResult) : Dev :=
  let was := (vget d.gallery t).totalFails
  let time := ((rs.filter (·.failed)).map (·.at_)).foldl Nat.min (c.start + (i + 1) * finePerTick - 1)
  ((d.countResults t rs).recordFails t c time (some i) rs).countLimit t was rs

/-- The tick in which the next results of a tenant are final (R120, R124): of the oldest vector whose compares are not, or of the
next tick of the oldest RAW segment. -/
def Dev.compareTick (d : Dev) (t : Tenant) : Option Nat :=
  (vget d.seqs t).compares.head?.map fun c => if c.raw.isSome then c.start / finePerTick + c.done else c.close / finePerTick

/-- The results that are final in the present tick are delivered (R205): those of the oldest vector, or those of the oldest RAW
segment's ticks up to the present one. -/
def State.compareResult (s : State) (t : Tenant) : State :=
  match (vget s.dev.seqs t).compares with
  | [] => s
  | c :: rest =>
    let keep := fun (l : List Cmp) (closed : Nat) =>
      { s with dev := { s.dev with seqs := vmod s.dev.seqs t fun q => { q with compares := l, closed := Nat.max q.closed closed } } }
    match c.raw with
    | none =>
      if s.dev.tb.tick < c.close / finePerTick then s
      else
        let s0 := keep rest c.close
        let rs := s0.dev.vectorResults c
        let d1 := s0.dev.passFailed t c (rs.any (·.failed))
        { s0 with dev := if c.silent then d1 else d1.deliverVector t c rs }
    | some r =>
      let total := Nat.min r.1 (c.gap.getD r.1)
      let upto := Nat.min total (s.dev.tb.tick + 1 - c.start / finePerTick)
      let s0 := if upto < total then keep ({ c with done := upto } :: rest) 0 else keep rest c.close
      (List.range (upto - c.done)).foldl (fun s i =>
        let rs := s.rawResults t c r.2.1 (c.done + i) r.2.2.2
        let d1 := s.dev.passFailed t c (rs.any (·.failed))
        { s with dev := if c.silent then d1 else d1.deliverRaw t c (c.done + i) rs }) s0

/-! ### The end of the tick -/

/-- An entry of the record stream (R213). -/
def State.putEntry (s : State) (t : Tenant) (bytes : Bytes) : State :=
  let s1 := s.areaWrite 2 t (0x1000 + 64 * (vget s.dev.gallery t).recCount) bytes
  { s1 with dev := s1.dev.modGal t fun g => { g with recCount := satAdd 32 g.recCount 1 } }

/-- One thing the Gallery does at the end of the tick (R213, R215, R220-R223). -/
def State.galWrite (s : State) (t : Tenant) (w : GalWrite) : State :=
  let d := s.dev
  match w with
  | .record fail bytes pos =>
    let full := fail && decide ((vget d.gallery t).fails + 1 = d.dict.cfg.fg t 2)
    let react := bit (d.dict.cfg.fg t 6) 1
    let s1 := s.putEntry t bytes
    let d1 := s1.dev.modGal t fun g => { g with fails := g.fails + ofBool fail, recordsFull := g.recordsFull || full
                                                stopDue := g.stopDue || (full && react) }
    { s1 with dev := if full then d1.failLimit t 1 (ofBool react) pos else d1 }
  | .limit pos => { s with dev := d.failLimit t 2 (ofBool (bit (d.dict.cfg.fg t 6) 0)) pos }
  | .block off bytes rows =>
    let base := (d.areaBanks 2 t).length * 2 ^ 20 - d.dict.cfg.bitmapBytes t
    let s1 := s.areaWrite 2 t (base + off) bytes
    { s1 with dev := s1.dev.modGal t fun g => { g with bitmapRows := g.bitmapRows + rows } }
  | .closed pos => { s with dev := d.failLimit t 3 0 pos }

/-- The place of R222 in the order of one tick. -/
def GalWrite.rank : GalWrite → Nat
  | .record .. => 0 | .limit _ => 1 | .block .. => 2 | .closed _ => 3

/-- The Gallery of a tenant at the end of a tick. -/
def State.drainGallery (s : State) (t : Tenant) : State :=
  let q := (vget s.dev.gallery t).queue
  if q.isEmpty then s
  else
    ([0, 1, 2, 3].flatMap fun k => q.filter fun w => w.rank == k).foldl (fun s w => s.galWrite t w)
      { s with dev := s.dev.modGal t fun g => { g with queue := [] } }

/-- Every Gallery at the end of a tick. -/
def State.drainGalleries (s : State) : State := allTenants.foldl State.drainGallery s

/-- What class fail write cannot write (R225): the oldest `n` of the records and blocks that wait. -/
def Gallery.drop (g : Gallery) : Nat → Gallery
  | 0 => g
  | n + 1 => match g.queue.find? fun w => w.rank == 0 || w.rank == 2 with
    | some w => Gallery.drop { g with queue := g.queue.erase w, writesDropped := satAdd 32 g.writesDropped 1 } n
    | none => g

/-! ### Admission markers (R217) -/

/-- An admission marker: action 1 RETIRED or 2 ADMITTED, the moved pin, its new and its old channel. -/
def State.admissionMarker (s : State) (t : Tenant) (action : Nat) (p : Pin) (newCh oldCh : Chan) : State :=
  if (s.dev.areaBanks 2 t).isEmpty then s
  else
    let d := s.dev
    let g := vget d.gallery t
    let count := s.counterValue t p + vget g.closed p
    let bytes := natLE 2 0x02 ++ natLE 1 d.traceShown ++ natLE 1 action ++ natLE 4 d.epoch ++ timeLE d.now ++ natLE 8 d.tb.tick
      ++ natLE 8 (vget d.seqs t).vectors ++ zeros 4 ++ natLE 6 (2 ^ p.val) ++ natLE 1 newCh.val ++ natLE 1 oldCh.val
      ++ natLE 8 count ++ zeros 8
    let s1 := s.areaWrite 2 t (0x400 + 64 * (g.markers % 16)) bytes
    let s2 := { s1 with dev := s1.dev.modGal t fun g => { g with markers := satAdd 32 g.markers 1 } }
    if bit (d.dict.cfg.fg t 1) 0 && decide (g.recCount < d.recCapacity t) then s2.putEntry t bytes else s2

end Sys2Proof.Machine
end

