-- ==== Sys2Proof/Machine/Seq.lean ====
section
/-! DEFINITION. The pattern sequencers (chapter 5): decoding, flags, event inputs, scratch, the issue of vectors to the
formatter and the stall detector. The meanings of the single instructions are in Machine/Pattern.lean. -/
namespace Sys2Proof.Machine

/-- The sequencer of a tenant. -/
def Dev.seq (d : Dev) (t : Tenant) : Seq := vget d.seqs t

/-- Change a sequencer. -/
def Dev.modSeq (d : Dev) (t : Tenant) (f : Seq → Seq) : Dev := { d with seqs := vmod d.seqs t f }

/-- The code of a state (Table PS-1). -/
def SeqState.code : SeqState → Nat
  | .idle => 0 | .running => 1 | .waiting => 2 | .matching => 3 | .syncing => 4 | .halted => 5 | .error => 6 | .stopped => 7

/-- RUNNING, WAITING, MATCHING or SYNCING: the states that many refusals name. -/
def SeqState.busy : SeqState → Bool
  | .running => true | .waiting => true | .matching => true | .syncing => true | _ => false

/-- Tenant t's sequencer is RUNNING, WAITING, MATCHING or SYNCING. -/
def Dev.seqBusy (d : Dev) (t : Tenant) : Bool := (d.seq t).state.busy

/-- SEQ_IDLE (R172). -/
def Seq.isIdle (s : Seq) : Bool :=
  !s.state.busy && s.fifo.isEmpty && s.stores.isEmpty && s.aligned.isEmpty

/-- The timing sets in force (R128): of the vectors that play, of those that the FIFO holds, and of those decoded next. -/
def Seq.setsInForce (s : Seq) : List Nat := s.tset :: s.tsetNow :: s.fifo.map (·.tset)

/-- The first tick boundary at or after a position. -/
def ceilTick (p : Nat) : Nat := ceilDiv p finePerTick * finePerTick

/-! ### Stops and SEQ_HALT -/

/-- A SEQ_HALT record (R153). -/
def Dev.seqHalt (d : Dev) (t : Tenant) (cause err value : Nat) : Dev :=
  d.emitTenant t false 0x01 t.val d.now
    (natLE 1 cause ++ natLE 1 err ++ [0, 0] ++ natLE 4 (d.seq t).lastPc ++ natLE 4 value)

/-- The SEQ_HALT record of an error, with its code and the control address of the instruction that failed (R135, R153). -/
def Dev.errorHalt (d : Dev) (t : Tenant) : Dev :=
  let s := d.seq t
  if !s.haltDue then d
  else
    (d.modSeq t fun s => { s with haltDue := false }).emitTenant t false 0x01 t.val d.now
      (natLE 1 3 ++ natLE 1 s.error ++ [0, 0] ++ natLE 4 s.errorPc ++ natLE 4 0)

/-- Where an entry starts (R106, R123, R155). -/
def Seq.startOf (s : Seq) (v : Vec) : Nat :=
  match v.release with
  | some x => max ((x + 64) * finePerTick) (ceilTick s.pos)
  | none => if v.raw.isSome then ceilTick (if s.inRun then s.pos + finePerTick else s.pos) else s.pos

/-- The end of an entry that starts at a position, its pad included (R106, R123). -/
def Dev.endOf (d : Dev) (t : Tenant) (v : Vec) (start : Nat) : Nat :=
  match v.raw with
  | some r => start + (r.1 + 1) * finePerTick
  | none => start + v.reps * d.dict.cfg.period t v.tset

/-- The end of the last vector issued, played or still in the FIFO: where the next one is due (R158). -/
def Dev.issueEnd (d : Dev) (t : Tenant) : Nat :=
  ((d.seq t).fifo.foldl (fun (q : Seq) v =>
    if v.tail then q else { q with pos := d.endOf t v (q.startOf v), inRun := v.raw.isNone }) (d.seq t)).pos

/-- The vectors that the FIFO holds or that wait to enter it (R158). -/
def Seq.fifoCount (s : Seq) : Nat := (s.fifo.map fun v => if v.tail then 0 else v.reps).foldl (· + ·) 0

/-- The tenant's driven lanes take their off state at the end of the last vector played (R65, R136). -/
def Dev.lanesOff (d : Dev) (t : Tenant) : Dev :=
  let s := d.seq t
  let offs := (setBits s.driven 48).filterMap fun n => if h : n < 48 then d.pinChan ⟨n, h⟩ else none
  let d1 := offs.foldl (fun d c =>
    if d.laneActive c && (d.ballHeld c).isNone then d.showBall c s.pos (d.laneLevel c (d.offState c)) none else d) d
  d1.modSeq t fun s => { s with driven := 0 }

/-- Issue ends (R136): at the end of the last vector played the lanes go off and a QUIET-ON window closes; a partial block of
the bitmap is written (R220). -/
def Dev.endIssue (d : Dev) (t : Tenant) : Dev :=
  ((d.lanesOff t).modSeq t fun s => { s with
    quietOn := false, quietTo := if s.quietOn then Nat.max s.quietTo s.pos else s.quietTo }).galleryIssueEnd t

/-- The sequencer has stopped and its FIFO has played out: issue ends (R135, R136). -/
def Dev.issueOver (d : Dev) (t : Tenant) : Dev :=
  if !(d.seq t).state.busy && (d.seq t).fifo.isEmpty then d.endIssue t else d

/-- A sequencer error at a control address (R135): decoding stops; FS-048, or FS-049 for UNDERRUN, with which the tenant's
records carry INVALID from the tick at which the missing vector was due (R158). The SEQ_HALT record follows at the edge. -/
def Dev.seqError (d : Dev) (t : Tenant) (code pc : Nat) : Dev :=
  let due := d.issueEnd t / finePerTick * finePerTick
  let d1 := d.modSeq t fun s => { s with
    state := .error, error := code, errorPc := pc, haltDue := true, wait := none, sync := none, halt := none
    matching := none, invalidSpans := if code = 0x0E then s.invalidSpans ++ [(due, none)] else s.invalidSpans }
  (d1.raiseTrans (if code = 0x0E then 49 else 48) (some t) 0 t.val pc 0).issueOver t

/-! ### Flags and event inputs -/

/-- EI_BIND's two sources (R162). -/
def Dev.eiSources (d : Dev) (t : Tenant) (i : Fin 8) : List Nat :=
  let v := d.dict.cfg.nat (0x2024 + 0x100 * t.val) i.val
  [v % 256, v / 256].filter fun x => x != 0xFF

/-- Queue order of R163: by fine timestamp, then by source number. -/
def insertEi (e : Nat × Nat) : List (Nat × Nat) → List (Nat × Nat)
  | [] => [e]
  | x :: xs => if e.2 < x.2 || (e.2 = x.2 && decide (e.1 < x.1)) then e :: x :: xs else x :: insertEi e xs

/-- One event counted by an input (R163): true where it saturated. -/
def EventInput.add (e : EventInput) (src time : Nat) : EventInput × Bool :=
  if e.count ≥ 65535 then ({ e with saturated := satAdd 32 e.saturated 1 }, true)
  else ({ e with count := e.count + 1
                 queue := if e.queue.length < 16 then insertEi (src, time) e.queue else e.queue }, false)

/-- One event enters one input of a tenant. -/
def Dev.eiAdd (d : Dev) (t : Tenant) (i : Fin 8) (src time : Nat) : Dev :=
  let r := (vget (d.seq t).ei i).add src time
  let d1 := d.modSeq t fun s => { s with ei := vmod s.ei i fun _ => r.1 }
  if r.2 then d1.raiseTrans 52 (some t) 0 t.val 0 0 else d1

/-- GF_GRANT of a tenant. -/
def Dev.gfGrant (d : Dev) (t : Tenant) (n : Nat) : Bool := bit (d.dict.cfg.nat (0x2020 + 0x100 * t.val) 0) n

/-- A source has its event of the present tick at a tenant (R162): true where it already had one. -/
def Dev.hadEvent (d : Dev) (t : Tenant) (src : Nat) : Bool := d.tickEvents.contains (t, src)

/-- A source delivers one event of a device time to every input of the tenant bound to it, at most one a tick (R162, R163), but
one for every doorbell write (R396); a GF edge only with the grant. -/
def Dev.deliverAt (d : Dev) (t : Tenant) (src time : Nat) : Dev :=
  let ins := (List.ofFn (n := 8) id).filter fun i => (d.eiSources t i).contains src
  if (32 ≤ src && src ≤ 63 && !d.gfGrant t (src - 32)) || ins.isEmpty || (src != 6 && d.hadEvent t src) then d
  else ins.foldl (fun d i => d.eiAdd t i src time) { d with tickEvents := (t, src) :: d.tickEvents }

/-- An event at a fine offset of the present tick. -/
def Dev.deliver (d : Dev) (t : Tenant) (src fine : Nat) : Dev := d.deliverAt t src (d.tb.devFine + fine)

/-- The place of EI_INJECT of an input among the sources of a tick. -/
def injectKey (i : Fin 8) : Nat := 0xFE0 + i.val

/-- EI_INJECT of one input (Table PS-9, R170). -/
def Dev.inject (d : Dev) (t : Tenant) (i : Fin 8) : Dev :=
  if d.hadEvent t (injectKey i) then d
  else { d with tickEvents := (t, injectKey i) :: d.tickEvents }.eiAdd t i 0xFE d.tb.devFine

/-- Consume one event of an input (R163). -/
def Dev.eiTake (d : Dev) (t : Tenant) (i : Fin 8) : Dev :=
  d.modSeq t fun s => { s with ei := vmod s.ei i fun e => { e with count := e.count - 1, queue := e.queue.tail } }

/-- The value of a flag: tenant-private, or device-wide. -/
def Dev.flag (d : Dev) (tf : Option Tenant) (n : Nat) : Bool :=
  match tf with | some t => (d.seq t).tf.getLsbD n | none => d.gf.getLsbD n

/-- Its value at the end of the last tick. -/
def Dev.flagWas (d : Dev) (tf : Option Tenant) (n : Nat) : Bool :=
  match tf with | some t => (d.seq t).tf0.getLsbD n | none => d.gf0.getLsbD n

/-- Write a flag. -/
def Dev.putFlag (d : Dev) (tf : Option Tenant) (n : Nat) (v : Bool) : Dev :=
  match tf with
  | some t => d.modSeq t fun s => { s with tf := setBit s.tf n v }
  | none => { d with gf := setBit d.gf n v }

/-- The place of a change in the order of one tick (R161): SIGNALs by tenant, then writes. -/
def FlagOp.rank (o : FlagOp) : Nat := match o.sender with | some t => t.val | none => 8

/-- A change enters after every change that goes before it. -/
def FlagOp.insert (o : FlagOp) (l : List FlagOp) : List FlagOp :=
  (l.takeWhile fun x => decide (x.rank ≤ o.rank)) ++ o :: l.dropWhile fun x => decide (x.rank ≤ o.rank)

/-- What an operation makes of a flag. -/
def FlagOp.apply (o : FlagOp) (v : Bool) : Bool := if o.op = 0 then true else if o.op = 1 then false else !v

/-- Changes of one flag in order: its last value, and the fine offset of its first set edge. -/
def replay (v : Bool) : List FlagOp → Bool × Option Nat
  | [] => (v, none)
  | o :: l =>
    let r := replay (o.apply v) l
    (r.1, if o.apply v && !v then some o.fine else r.2)

/-- A change of a flag in the present tick (R161): the changes of the tick take effect in their order, and a set edge is an
event source of the flag's tenant, or of every granted tenant (Table PS-9). -/
def Dev.flagOp (d : Dev) (o : FlagOp) : Dev :=
  let ops := o.insert d.flagOps
  let r := replay (d.flagWas o.tf o.n) (ops.filter fun x => x.tf == o.tf && x.n == o.n)
  let d1 := { d with flagOps := ops }.putFlag o.tf o.n r.1
  match r.2, o.tf with
  | none, _ => d1
  | some fine, some t => d1.deliver t (16 + o.n) fine
  | some fine, none => allTenants.foldl (fun d t => d.deliver t (32 + o.n) fine) d1

/-- A write of TF_SET, TF_CLEAR, GF_SET or GF_CLEAR for one flag. -/
def Dev.writeFlag (d : Dev) (tf : Option Tenant) (n : Nat) (v : Bool) : Dev :=
  d.flagOp { sender := none, tf := tf, n := n, op := if v then 0 else 1, fine := 0 }

/-- The lock of GFn. -/
def gfLock (n : Nat) : Fin 34 := ⟨2 + n % 32, by omega⟩

/-- The holder of GFn's lock. -/
def Dev.gfHolder (d : Dev) (n : Nat) : Option Req := (vget d.mgmt.locks (gfLock n)).holder

/-- Kind and number of a selector (R145): kind 1 TF, 2 GF, 3 EI. -/
def selKind (sel : Nat) : Nat := sel / 4096
/-- The number of a selector. -/
def selNum (sel : Nat) : Nat := if selKind sel = 1 then sel % 16 else if selKind sel = 2 then sel % 32 else sel % 8

/-- The bits of a selector that its kind uses. -/
def selMask (sel : Nat) : Nat :=
  if selKind sel = 1 then 0xF00F else if selKind sel = 2 then 0xF01F else if selKind sel = 3 then 0xF007 else 0xFFFF

/-- The flag that a selector names. -/
def selFlag (t : Tenant) (sel : Nat) : Option Tenant := if selKind sel = 1 then some t else none

/-- The value of a flag selector. -/
def Dev.flagValue (d : Dev) (t : Tenant) (sel : Nat) : Bool := d.flag (selFlag t sel) (selNum sel)

/-- The event input of a selector. -/
def selInput (sel : Nat) : Fin 8 := ⟨sel % 8, by omega⟩

/-- The condition of a WAIT holds (R157). -/
def Dev.waitHolds (d : Dev) (t : Tenant) (sel : Nat) : Bool :=
  if selKind sel = 3 then decide ((vget (d.seq t).ei (selInput sel)).count ≥ 1) else d.flagValue t sel

/-- What a satisfied WAIT does: consume the event, clear the flag under CLEAR, clear TO (R154, R157). -/
def Dev.waitSatisfied (d : Dev) (t : Tenant) (sel : Nat) (clear : Bool) : Dev :=
  let d1 := if selKind sel = 3 then d.eiTake t (selInput sel)
            else if clear then d.putFlag (selFlag t sel) (selNum sel) false
            else d
  d1.modSeq t fun s => { s with cond := false }

/-! ### Aligned effects -/

/-- One aligned effect at an instant (R148-R150, R161). -/
def Dev.alignedEffect (d : Dev) (t : Tenant) (pos : Nat) : Aligned → Dev
  | .mark v pc loop =>
    d.emit { d.mkRec (.tenant t) t.val 0x02 t.val (d.timeOfPos pos) (natLE 4 v ++ natLE 4 pc ++ natLE 4 loop) with et := d.etOfPos pos }
  | .trigout op mask width => d.seqTrigOut t op mask width pos
  | .quietOn => d.modSeq t fun s => { s with quietOn := true }
  | .quietOff => d.modSeq t fun s => { s with quietOn := false, quietTo := if s.quietOn then Nat.max s.quietTo pos else s.quietTo }
  | .signal op sel => d.flagOp { sender := some t, tf := selFlag t sel, n := selNum sel, op := op, fine := pos % finePerTick }

/-- Effects in program order at one instant (R148). -/
def Dev.alignedEffects (d : Dev) (t : Tenant) (pos : Nat) (l : List Aligned) : Dev :=
  l.foldl (fun d e => d.alignedEffect t pos e) d

/-- Issue is suspended: decoded effects without a vector take place, and the lanes go off, at the end of the last vector,
or at once where none still plays (R65, R148). -/
def Dev.suspendEffects (d : Dev) (t : Tenant) : Dev :=
  let s := d.seq t
  if s.fifo.isEmpty && decide (s.pos ≤ d.fineNow) then
    (((d.modSeq t fun s => { s with aligned := [] }).alignedEffects t d.fineNow s.aligned).lanesOff t).galleryIssueEnd t
  else d.modSeq t fun s => { s with aligned := [], fifo := s.fifo ++ [{ effects := s.aligned, tail := true, reps := 1 }] }

/-! ### Decoding -/

/-- The sequencer decodes instructions: RUNNING and not suspended, or within a MATCH-LOOP body. -/
def Seq.decoding (s : Seq) : Bool :=
  match s.state with
  | .running => s.halt.isNone
  | .matching => match s.matching with | some m => decide (m.left > 0) | none => false
  | _ => false

/-- A field holds only the bits of a mask. -/
def only (v mask : Nat) : Bool := v &&& mask == v

/-- Decode one instruction (R144, R146, R158): a sequencer that is not decoding does nothing; otherwise the checks in
order (address, MATCH_BODY, RESERVED, the instruction's own error), then the charge against the slack, then the effect. -/
def Dev.decode (d : Dev) (t : Tenant) (body fieldsOk : Bool) (cost : Nat) (bad : Option Nat) (f : Dev → Dev) : Dev :=
  let s := d.seq t
  if !s.decoding || d.engineStopped t then d
  else
    let d0 := d.modSeq t fun s => { s with lastPc := s.pc }
    let word := d.areaAddr 0 t (s.ctrlOffset + 8 * s.pc)
    if s.pc ≥ s.ctrlWords then d0.seqError t 0x04 s.pc
    else if d.arb.poison.contains word then (d0.eccHit word (some t) 0 t.val 5).seqError t 0x11 s.pc
    else if s.matching.isSome && !body then d0.seqError t 0x10 s.pc
    else if !fieldsOk then d0.seqError t 0x02 s.pc
    else match bad with
      | some code => d0.seqError t code s.pc
      | none =>
        if s.slack < cost * finePerTick then d0.seqError t 0x0E s.pc
        else f (d0.modSeq t fun s => { s with slack := s.slack - cost * finePerTick, pc := s.pc + 1
                                              slackMin := min s.slackMin (s.slack - cost * finePerTick) })

/-- The slack after issuing `fine` fine steps of vectors (R158). -/
def Dev.credit (d : Dev) (t : Tenant) (fine : Nat) : Dev :=
  d.modSeq t fun s => { s with slack := min (64 * finePerTick) (s.slack + fine) }

/-- One instruction of a MATCH-LOOP body has been decoded; at the end of the pass issue is suspended (R155). -/
def Dev.bodyDone (d : Dev) (t : Tenant) : Dev :=
  let d1 := d.modSeq t fun s => { s with matching := s.matching.map fun m => { m with left := m.left - 1 } }
  match (d1.seq t).matching with
  | some m => if m.left = 0 then d1.suspendEffects t else d1
  | none => d1

/-- A new run is released at tick X: slack is 64 ticks at its origin (R155, R158). -/
def Dev.releaseRun (d : Dev) (t : Tenant) (x : Nat) : Dev :=
  d.modSeq t fun s => { s with release := some x, slack := 64 * finePerTick, inRun := false }

/-- Append an entry to the FIFO with the decoded effects and the pending release. -/
def Dev.pushVec (d : Dev) (t : Tenant) (v : Vec) : Dev :=
  d.modSeq t fun s => { s with
    fifo := s.fifo ++ [{ v with release := s.release, effects := s.aligned, tset := s.tset, inMatch := s.matching.isSome
                                silent := match s.matching with | some m => decide (m.passes > 1) | none => false
                                ctrl := s.lastPc, loops := s.loops.map (·.2), entered := d.tb.tick }]
    release := none, aligned := [] }

/-- The pins of a set of groups in ascending order. -/
def groupPins (gs : List Group) : List Pin := allPins.filter fun p => gs.any fun g => g.val == p.val / 4

/-- The pin codes of a record whose bytes are given (R140). -/
def recordCodes (gs : List Group) (bytes : Bytes) : List (Pin × Nat) :=
  let n := leNat bytes
  (groupPins gs).zipIdx.map fun p => (p.1, n / 16 ^ p.2 % 16)

/-- Where an issued vector takes its data from: the codes, or the sequencer error, or nothing when the stream ring holds
no data yet (R140, R142, R143, R147). -/
inductive RecordFetch where
  | codes (c : List (Pin × Nat))
  | error (code : Nat)
  | empty

/-- Fetch record B, or the next record of the ring. -/
def Dev.fetchRecord (d : Dev) (m : Mem) (t : Tenant) (b : Nat) : RecordFetch :=
  let s := d.seq t
  let g := s.groups.length
  let bytes : Option (Option Bytes) :=
    if s.streamLeft > 0 then
      let words := ceilDiv (16 * g) 64
      if d.ringLevel t < words then none else some (d.ringBytes m t words)
    else if (b + 1) * 16 * g > s.dataWords * 64 then some none
    else some (d.areaRead m 0 t (s.dataOffset + 2 * g * b) (2 * g))
  match bytes with
  | none => .empty
  | some none => if s.streamLeft > 0 then .error 0x11
                 else if (b + 1) * 16 * g > s.dataWords * 64 then .error 0x04 else .error 0x11
  | some (some bs) =>
    let cs := recordCodes s.groups bs
    if cs.any fun c => c.2 == 15 then .error 0x07 else .codes cs

/-- The words a fetched record takes from the ring. -/
def Dev.consumeStream (d : Dev) (t : Tenant) (words : Nat) : Dev :=
  if (d.seq t).streamLeft > 0 then
    (d.modSeq t fun s => { s with streamLeft := s.streamLeft - 1 }).ringConsume t words
  else d

/-- The poisoned word that the fetch of record B, or of the next `words` ring words, meets. -/
def Dev.recordPoison (d : Dev) (t : Tenant) (b words : Nat) : Option Nat :=
  let s := d.seq t
  if s.streamLeft > 0 then
    d.poisoned (fun i => d.ringAddr t (8 * ((((vget d.host t).ringCons) + i / 8) % Nat.max 1 (d.ringSize t)) + i % 8)) (8 * words)
  else d.poisoned (fun i => d.areaAddr 0 t (s.dataOffset + 2 * s.groups.length * b + i)) (2 * s.groups.length)

/-- The accounts of a poisoned data or ring word that a decoded instruction meets (R271, Table MA-2). -/
def Dev.fetchEcc (d : Dev) (t : Tenant) (bad : Option Nat) (hit : Option Nat) : Dev :=
  match hit with
  | some a => if bad = some 0x11 && (d.seq t).decoding then d.eccHit a (some t) 0 t.val 5 else d
  | none => d

/-- Issue `reps` vectors of one record (NEXT, REPEAT). A full FIFO or an empty ring pauses decoding (R143, R158). -/
def Dev.issue (d : Dev) (m : Mem) (t : Tenant) (reps b cost : Nat) (fieldsOk : Bool) (bad : Option Nat) : Dev :=
  let s := d.seq t
  let ok := fieldsOk && bad.isNone && d.dict.cfg.tsEnabled t s.tset
  if ok && s.decoding && (decide (s.fifoCount ≥ 64) || (match d.fetchRecord m t b with | .empty => true | _ => false)) then d
  else
    let bad1 := bad.orElse fun _ =>
      if !d.dict.cfg.tsEnabled t s.tset then some 0x08
      else match d.fetchRecord m t b with | .error e => some e | _ => none
    (d.fetchEcc t bad1 (d.recordPoison t b (ceilDiv (16 * s.groups.length) 64))).decode t true fieldsOk cost bad1 fun d1 =>
      match d.fetchRecord m t b with
      | .codes cs =>
        (((d1.consumeStream t (ceilDiv (16 * s.groups.length) 64)).pushVec t { codes := cs, reps := reps }).credit t
          (reps * d.dict.cfg.period t s.tset)).bodyDone t
      | _ => d1

/-! ### The formatter -/

/-- The formatter moves a pin's lane to a state at an instant (R64, R108, R292). -/
def Dev.moveLane (d : Dev) (p : Pin) (pos : Nat) (was s : Bool × Bool) : Dev :=
  match d.pinChan p with
  | some c =>
    if d.laneActive c && (d.ballHeld c).isNone then
      d.showBall c pos (d.laneLevel c (d.activeState c s)) (some (issueOf (d.block c) (risingTo was s) pos))
    else d
  | none => d

/-- What the formatter left on a pin: level and drive. -/
def Seq.lane (s : Seq) (p : Pin) : Bool × Bool := (s.level.getLsbD p.val, s.driven.getLsbD p.val)

/-- The formatter leaves a lane as it now is. -/
def Seq.setLane (s : Seq) (p : Pin) (l : Bool × Bool) : Seq :=
  { s with level := setBit s.level p.val l.1, driven := setBit s.driven p.val l.2 }

/-- Play one pin of a vector that starts at `start` (R108, R121): its lane changes and its new lane state. -/
def Dev.playPin (d : Dev) (t : Tenant) (tset start : Nat) (pc : Pin × Nat) : Dev :=
  let l := (d.seq t).lane pc.1
  let r := (runEvents l (sortEvents ((d.dict.cfg.tsPin t tset pc.1).events pc.2))).foldl
    (fun (acc : Dev × (Bool × Bool)) e => (acc.1.moveLane pc.1 (start + e.1) acc.2 e.2, e.2)) (d, l)
  r.1.modSeq t fun s => s.setLane pc.1 r.2

/-- The compares of a vector's pins under the values at its start (R119, R127): pin, code, CMP_OPEN and CMP_CLOSE. -/
def Cfg.compareWins (c : Cfg) (t : Tenant) (tset start : Nat) (codes : List (Pin × Nat)) : List (Pin × Nat × Nat × Nat) :=
  (codes.filter fun p => codeExpect p.2 != .none).map fun p =>
    let r := c.tsPin t tset p.1
    (p.1, p.2, start + r.cmpOpen, start + r.cmpClose)

/-- The latest CMP_CLOSE of the pins that compare, or of all pins where none does (R120, R151). -/
def Cfg.lastClose (c : Cfg) (t : Tenant) (tset start : Nat) (codes : List (Pin × Nat)) : Nat :=
  let wins := c.compareWins t tset start codes
  let ends := if wins.isEmpty then codes.map fun p => start + (c.tsPin t tset p.1).cmpClose else wins.map fun w => w.2.2.2
  ends.foldl Nat.max start

/-- The drive words of a RAW segment on one pin (R122): a change of the lane at each slot whose bit differs. -/
def State.playRaw (s : State) (t : Tenant) (c : Cmp) (n w : Nat) (comparing ring : Bool) (pj : Pin × Nat) : State :=
  let pins := c.rawPins.length
  let stride := if comparing then 3 * pins else pins
  let slots := (List.range n).flatMap fun k =>
    let word := s.rawWord t c w (stride * k + pj.2) ring
    (List.range 64).map fun slot => (c.start + k * finePerTick + slot * finePerSlot, (bit word slot, true))
  let r := slots.foldl (fun (acc : Dev × (Bool × Bool)) e =>
    if acc.2 == e.2 then acc else (acc.1.moveLane pj.1 e.1 acc.2 e.2, e.2)) (s.dev, (s.dev.seq t).lane pj.1)
  { s with dev := r.1.modSeq t fun q => q.setLane pj.1 r.2 }

/-- The ticks in which the precision strobes of a vector that starts at `start` play (R129, R130). -/
def Dev.strobeTicks (d : Dev) (t : Tenant) (v : Vec) (quietOn : Bool) (start : Nat) : List Nat :=
  let attr := d.dict.cfg.tsQuiet t v.tset
  if !attr && !quietOn then [] else (d.dict.cfg.strobes t v.tset (!attr)).map fun p => (start + p) / finePerTick

/-- The guard of a strobe (R279), shortened where it would begin before the tick after its vector entered the FIFO (R280). -/
def Cfg.guardOf (c : Cfg) (v : Vec) (k : Nat) : Nat × Nat := (Nat.max (k - c.nat 0x1920 0) (v.entered + 1), k + c.nat 0x1920 1)

/-- The guards of a vector that starts, and QUIET_LATE_GUARDS for those shortened (R279, R280). -/
def Dev.openGuards (d : Dev) (t : Tenant) (v : Vec) (start : Nat) : Dev :=
  let ks := d.strobeTicks t v (d.seq t).quietOn start
  let late := ks.filter fun k => decide (k ≤ v.entered + d.dict.cfg.nat 0x1920 0)
  { d with arb := { d.arb with lateGuards := vmod d.arb.lateGuards t fun n => satAdd 32 n late.length } }.modSeq t fun q =>
    { q with guards := q.guards ++ ks.map (d.dict.cfg.guardOf v) }

/-- QUIET-ON in force after the effects of an entry. -/
def quietAfter (on : Bool) (effects : List Aligned) : Bool :=
  effects.foldl (fun on e => match e with | .quietOn => true | .quietOff => false | _ => on) on

/-- The guards of the vectors that the FIFO holds and that start within 64 ticks of the present one, the longest lead of a guard. -/
def Dev.fifoGuards (d : Dev) (t : Tenant) (q : Seq) : List Vec → List (Nat × Nat)
  | [] => []
  | v :: l =>
    let start := q.startOf v
    let on := quietAfter q.quietOn v.effects
    if start / finePerTick > d.tb.tick + 64 then []
    else
      (if v.tail || v.raw.isSome then [] else (List.range (Nat.min v.reps 65)).flatMap fun i =>
        (d.strobeTicks t v on (start + i * d.dict.cfg.period t v.tset)).map (d.dict.cfg.guardOf v))
      ++ d.fifoGuards t { q with pos := if v.tail then q.pos else d.endOf t v start, inRun := !v.tail && v.raw.isNone, quietOn := on } l

/-- Tick `k` lies in a guard of tenant t. -/
def Dev.inGuard (d : Dev) (t : Tenant) (k : Nat) : Bool :=
  ((d.seq t).guards ++ d.fifoGuards t (d.seq t) (d.seq t).fifo).any fun g => decide (g.1 ≤ k ∧ k ≤ g.2)

/-- The ticks of t's guards in the frame of tick `k` up to and including `k`, in order. -/
def Dev.guardTicks (d : Dev) (t : Tenant) (k : Nat) : List Nat :=
  let gs := (d.seq t).guards ++ d.fifoGuards t (d.seq t) (d.seq t).fifo
  if gs.isEmpty then []
  else ((List.range (k % ticksPerFrame + 1)).map fun i => k - k % ticksPerFrame + i).filter fun x =>
    gs.any fun g => decide (g.1 ≤ x ∧ x ≤ g.2)

/-- QUIET_QUOTA. -/
def Cfg.quietQuota (c : Cfg) (t : Tenant) : Nat := c.nat 0x1921 t.val

/-- Tick `k` is withheld (R279): it lies in some tenant's guard, within that tenant's quota of the frame (R283). -/
def Dev.withheldTick (d : Dev) (k : Nat) : Bool :=
  allTenants.any fun t => d.inGuard t k && decide ((d.guardTicks t k).length ≤ d.dict.cfg.quietQuota t)

/-- A started vector or RAW segment: the set in force, a quiet window to its end, and INVALID over its gap (R126, R129, R143). -/
def Dev.started (d : Dev) (t : Tenant) (v : Vec) (start end_ : Nat) : Dev :=
  d.modSeq t fun q => { q with
    tsetNow := v.tset
    quietTo := if d.dict.cfg.tsQuiet t v.tset then Nat.max q.quietTo end_ else q.quietTo
    invalidSpans := match v.gap with
      | some k => q.invalidSpans ++ [(if v.raw.isSome then start + k * finePerTick else start, some end_)]
      | none => q.invalidSpans }

/-- The instant at which the oldest entry of the FIFO starts, or takes its effects. -/
def Dev.nextStart (d : Dev) (t : Tenant) : Option Nat :=
  match (d.seq t).fifo with
  | [] => none
  | v :: _ => some (if v.tail then (d.seq t).pos else (d.seq t).startOf v)

/-- The oldest entry of the FIFO starts (R106, R108, R122, R148); a stopped engine's aligned effects are withheld (R198). -/
def State.vectorStart (s : State) (t : Tenant) : State :=
  let q := s.dev.seq t
  match q.fifo with
  | [] => s
  | v :: rest =>
    let effects := if s.dev.engineStopped t then [] else v.effects
    if v.tail then
      { s with dev := ((((s.dev.modSeq t fun q => { q with fifo := rest }).alignedEffects t q.pos effects).lanesOff t).galleryIssueEnd
        t).issueOver t }
    else
      let start := q.startOf v
      let d1 := s.dev.alignedEffects t start effects
      let cmp : Cmp :=
        { vecNo := q.vectors, tset := v.tset, start := start, raw := v.raw, silent := v.silent
          inMatch := v.inMatch, marked := v.codes.any fun c => c.2 == 14, close := start, ctrl := v.ctrl, loops := v.loops
          gap := v.gap, rawData := v.rawData, rawPins := if v.raw.isSome then d1.rawPins t v.tset else [] }
      match v.raw with
      | some r =>
        let end_ := start + r.1 * finePerTick
        let plays := Nat.min r.1 (v.gap.getD r.1)
        let s1 := (cmp.rawPins.zipIdx).foldl (fun s pj => s.playRaw t cmp plays r.2.1 r.2.2.1 r.2.2.2 pj)
          { s with dev := d1.started t v start end_ }
        { s1 with dev := (s1.dev.modSeq t fun q => { q with
          fifo := rest, pos := start + (r.1 + 1) * finePerTick, inRun := false
          compares := if r.2.2.1 then q.compares ++ [{ cmp with close := end_ }] else q.compares }).issueOver t }
      | none =>
        let end_ := start + d1.dict.cfg.period t v.tset
        let d2 := v.codes.foldl (fun d p => d.playPin t v.tset start p) ((d1.openGuards t v start).started t v start end_)
        { s with dev := (d2.modSeq t fun q => { q with
          fifo := if v.reps > 1 then { v with reps := v.reps - 1, release := none, effects := [] } :: rest else rest
          pos := end_, vectors := satAdd 64 q.vectors 1, inRun := true
          compares := q.compares ++ [{ cmp with
            wins := d1.dict.cfg.compareWins t v.tset start v.codes
            close := d1.dict.cfg.lastClose t v.tset start v.codes }] }).issueOver t }

/-! ### START, STOP and completion -/

/-- A 64-bit word of the image (R137), through the tenant's vector-store area. -/
def Dev.imageWord (d : Dev) (m : Mem) (t : Tenant) (off : Nat) : Nat :=
  match d.areaRead m 0 t off 8 with
  | some b => leNat b
  | none => 0

/-- The groups a tenant owns in force. -/
def Dev.ownedGroups (d : Dev) (t : Tenant) : List Group :=
  (List.ofFn (n := 12) id).filter fun g => tenantOf (d.dict.cfg.nat 0x1102 g.val) == some t

/-- The image check at START (R138). -/
def Dev.imageOk (d : Dev) (m : Mem) (t : Tenant) : Bool :=
  let base := d.dict.cfg.nat (0x2010 + 0x100 * t.val) 1
  let entry := d.dict.cfg.nat (0x2010 + 0x100 * t.val) 2
  let size := d.areaSize 0 t
  let w := fun k => d.imageWord m t (base + 8 * k)
  let owned := (d.ownedGroups t).foldl (fun n g => n + 2 ^ g.val) 0
  let ctrlOff := bits (w 1) 63 32
  let ctrlN := bits (w 1) 31 0
  let dataOff := bits (w 2) 63 32
  let dataN := bits (w 2) 31 0
  decide (base % 64 = 0) && decide (base + 64 ≤ size) && decide (bits (w 0) 63 32 = 0x4C5A5050)
    && decide (bits (w 0) 31 16 = 1) && decide (bits (w 0) 15 12 = 0) && decide (bits (w 0) 11 0 = owned)
    && decide (ctrlOff % 8 = 0) && decide (dataOff % 8 = 0) && decide (ctrlN ≥ 1)
    && ([3, 4, 5, 6, 7].all fun k => decide (w k = 0))
    && decide (base + ctrlOff + 8 * ctrlN ≤ size) && decide (base + dataOff + 8 * dataN ≤ size) && decide (entry < ctrlN)

/-- START at its Landing (R128, R133). What an earlier program has started plays and compares to its end (R134). -/
def Dev.seqStart (d : Dev) (m : Mem) (t : Tenant) : Dev :=
  let base := d.dict.cfg.nat (0x2010 + 0x100 * t.val) 1
  let entry := d.dict.cfg.nat (0x2010 + 0x100 * t.val) 2
  let w := fun k => d.imageWord m t (base + 8 * k)
  let d0 := d.modSeq t fun s =>
    { ({} : Seq) with tf := s.tf, tf0 := s.tf0, ei := s.ei, stores := s.stores, scratch := s.scratch, level := s.level
                      driven := s.driven, pos := s.pos, compares := s.compares, quietTo := s.quietTo, closed := s.closed
                      pc := entry, lastPc := entry, state := .running }
  if d.imageOk m t then
    (d0.modSeq t fun s => { s with
      ctrlOffset := base + bits (w 1) 63 32, ctrlWords := bits (w 1) 31 0, dataOffset := base + bits (w 2) 63 32
      dataWords := bits (w 2) 31 0, groups := d.ownedGroups t }).releaseRun t d.tb.tick
  else d0.seqError t 0x12 entry

/-- The state falls still: nothing more is decoded, and what has not started is discarded with its aligned effects (R134). -/
def Seq.still (s : Seq) (state : SeqState) : Seq :=
  { s with state := state, fifo := [], aligned := [], wait := none, sync := none, halt := none, matching := none, streamLeft := 0 }

/-- STOP at its Landing (R134): nothing in IDLE, HALTED and ERROR. -/
def Dev.seqStop (d : Dev) (t : Tenant) : Dev :=
  if (d.seq t).state == .idle || (d.seq t).state == .halted || (d.seq t).state == .error then d
  else
    (((d.latchCond (tenantEngine t) 1).modSeq t fun s => s.still .halted).endIssue t).seqHalt t 0x02 0 0

/-- The engine's KILL (R189-R191, R475): nothing more is issued, and the state becomes STOPPED. A running sequencer sends
SEQ_HALT with cause TENANT_FATAL. -/
def Dev.seqKill (d : Dev) (t : Tenant) : Dev :=
  let busy := (d.seq t).state.busy
  let d1 := ((d.latchCond (tenantEngine t) 0).modSeq t fun s => s.still .stopped).endIssue t
  if busy then d1.seqHalt t 0x05 0 0 else d1

/-- Every issued vector, compare, store and effect is complete (R151). -/
def Seq.drained (s : Seq) : Bool := s.fifo.isEmpty && s.compares.isEmpty && s.stores.isEmpty && s.aligned.isEmpty

/-- The tick boundary at which a SYNC or HALT with everything drained completes (R151). -/
def Seq.drainTick (s : Seq) : Nat := ceilDiv (Nat.max s.pos s.closed) finePerTick

/-- A SYNC completes in the present tick (R151). -/
def Dev.syncComplete (d : Dev) (t : Tenant) : Dev :=
  let s := d.seq t
  match s.sync with
  | some frame =>
    if s.drained && decide (s.drainTick ≤ d.tb.tick) then
      (d.modSeq t fun s => { s with state := .running, sync := none, synced := true }).releaseRun t
        (if frame then ceilDiv d.tb.tick ticksPerFrame * ticksPerFrame else d.tb.tick)
    else d
  | none => d

/-- A HALT completes in the present tick (R152). -/
def Dev.haltComplete (d : Dev) (t : Tenant) : Dev :=
  let s := d.seq t
  match s.halt with
  | some v =>
    if s.drained && decide (s.drainTick ≤ d.tb.tick) then
      ((d.modSeq t fun s => { s with state := .halted, halt := none, haltValue := v, synced := true }).endIssue t).seqHalt t 0x01 0 v
    else d
  | none => d

/-- A timed-out WAIT or MATCH-LOOP: TO set, and the error of its instruction where ERR is 1 (R135, R156, R157); otherwise
execution continues with a release. -/
def Dev.timeOut (d : Dev) (t : Tenant) (err : Bool) (code pc release : Nat) : Dev :=
  let d1 := d.modSeq t fun s => { s with cond := true }
  if err then d1.seqError t code pc
  else (d1.modSeq t fun s => { s with state := .running, wait := none, matching := none }).releaseRun t release

/-- A WAIT is met (R157): in the tick of its execution issue goes on, later it is released in the present tick. -/
def Dev.waitMet (d : Dev) (t : Tenant) (w : Wait) : Dev :=
  let d1 := (d.waitSatisfied t w.sel w.clear).modSeq t fun s =>
    { s with state := .running, wait := none, stall := 0, declared := false }
  if w.fresh then d1 else d1.releaseRun t d.tb.tick

/-- The WAITs at the end of the tick (R157, R161): all are judged on the values then reached, and those that are met act after
every other change; the first time one is not met, issue is suspended. -/
def Dev.endWaits (d : Dev) : Dev :=
  let waiting := allTenants.filterMap fun t => match (d.seq t).wait with
    | some w => if d.engineStopped t then none else some (t, w, d.waitHolds t w.sel)
    | none => none
  waiting.foldl (fun e x =>
    if x.2.2 then e.waitMet x.1 x.2.1
    else if x.2.1.fresh then
      (e.modSeq x.1 fun s => { s with wait := some { x.2.1 with fresh := false } }).suspendEffects x.1
    else e) d

/-- The tick at which a WAIT's timeout expires (R157). -/
def Wait.expiry (w : Wait) : Option Nat := if w.timeout = 0 then none else some (w.since + w.timeout)

/-- A WAIT whose timeout has expired (R157). -/
def Dev.waitTimeout (d : Dev) (t : Tenant) : Dev :=
  match (d.seq t).wait with
  | some w =>
    match w.expiry with
    | some x =>
      if d.tb.tick < x then d
      else (d.modSeq t fun s => { s with stall := 0, declared := false }).timeOut t w.err 0x0D (d.seq t).lastPc d.tb.tick
    | none => d
  | none => d

/-- The end of a pass (R155, R156): its release is the tick of its last CMP_CLOSE. -/
def Dev.matchPassEnd (d : Dev) (t : Tenant) : Dev :=
  let s := d.seq t
  match s.matching with
  | some m =>
    if m.left ≠ 0 || !s.fifo.isEmpty || !s.compares.isEmpty then d
    else
      let release := s.closed / finePerTick
      let input : Fin 8 := ⟨m.input % 8, by omega⟩
      let hit := if m.event then decide ((vget s.ei input).count ≥ 1) else !m.failed
      if hit then
        let d1 := if m.event then d.eiTake t input else d
        (d1.modSeq t fun s => { s with state := .running, matching := none, cond := false, pc := m.bodyPc + m.len }).releaseRun
          t release
      else if m.passes ≤ 1 then
        (d.modSeq t fun s => { s with pc := m.bodyPc + m.len }).timeOut t m.err 0x0C (m.bodyPc - 1) release
      else
        (d.modSeq t fun s => { s with pc := m.bodyPc
                                      matching := some { m with passes := m.passes - 1, left := m.len, failed := false } }).releaseRun
          t release
  | none => d

/-- The words that a vector, or a tick of a RAW segment, takes from the ring (R142). -/
def Dev.ringNeed (d : Dev) (t : Tenant) (mod : Nat) : Nat :=
  if bit mod 0 then (d.rawPins t (d.seq t).tset).length * (if bit mod 1 then 3 else 1) else ceilDiv (16 * (d.seq t).groups.length) 64

/-- STREAM_GAP (R143): the ring holds no data for the next NEXT or REPEAT of `n` vectors, or for some tick of the next NEXT.RAW of
`n` ticks, as MOD tells. The duration of a gap counts in whole ticks, rounded up gap by gap (notes/assumptions/15). -/
def Dev.streamGap (d : Dev) (m : Mem) (t : Tenant) (mod n : Nat) : Dev :=
  let s := d.seq t
  let need := d.ringNeed t mod
  let raw := bit mod 0
  let have_ := if need = 0 then n else Nat.min n (d.ringLevel t / need)
  if s.streamLeft = 0 || need = 0 || (if raw then decide (n ≤ have_) else decide (0 < d.ringLevel t / need)) then d
  else d.decode t true true 1 (if !d.dict.cfg.tsEnabled t s.tset then some 0x08 else if s.streamGap then none else some 0x0F) fun d1 =>
    let played := if raw then have_ else 0
    let fine := if raw then (n - played) * finePerTick else n * d.dict.cfg.period t s.tset
    let total := if raw then n * finePerTick else fine
    let data := if raw then (List.range (played * need)).map fun k => leNat ((d.ringBytesAt m t k 1).getD []) else []
    let v : Vec := if raw then { raw := some (n, 0, bit mod 1, true), rawData := data, gap := some played }
      else { codes := (groupPins s.groups).map fun p => (p, 3), reps := n, gap := some 0 }
    let d2 := d1.modSeq t fun s => { s with gapTicks := satAdd 64 s.gapTicks (ceilDiv fine finePerTick), gapRaised := true }
    let d3 := ((d2.consumeStream t (played * need)).pushVec t v).credit t total
    (if s.gapRaised then d3 else d3.raiseTrans 50 (some t) 0 t.val 0 0).bodyDone t

/-! ### Scratch and the store buffer -/

/-- Two byte ranges overlap. -/
def overlaps (a n b k : Nat) : Bool := decide (a < b + k) && decide (b < a + n)

/-- Drain the `n` oldest stores into scratch (R164). -/
def Seq.drain (s : Seq) : Nat → Seq
  | 0 => s
  | n + 1 => match s.stores with
    | [] => s
    | w :: ws => Seq.drain { s with stores := ws, scratch := Mem.writeBytes s.scratch w.addr w.data } n

/-- The last index (from 1) of a store that overlaps a load. -/
def lastOverlap (a n : Nat) (l : List Store) : Nat :=
  (l.zipIdx.foldl (fun p w => if overlaps a n w.1.addr w.1.data.length then w.2 + 1 else p) 0)

/-- The stores that a load of `n` bytes waits for (R165, case 3): up to the youngest overlapping one, where it does not cover the
load. -/
def Seq.loadWaits (s : Seq) (a n : Nat) : Nat :=
  let p := lastOverlap a n s.stores
  match s.stores[p - 1]? with
  | some w => if p = 0 || (w.addr ≤ a && a + n ≤ w.addr + w.data.length) then 0 else p
  | none => 0

/-- A load (R165): forwarded from the youngest overlapping store where that covers it, otherwise from scratch. -/
def Seq.load (s : Seq) (a n : Nat) : Bytes :=
  let p := lastOverlap a n s.stores
  match s.stores[p - 1]? with
  | some w => if p = 0 then Mem.readBytes s.scratch a n else (w.data.drop (a - w.addr)).take n
  | none => Mem.readBytes s.scratch a n

/-- The address in bank 60 of the word that holds a scratch address of a tenant (R268). -/
def scratchWord (t : Tenant) (b : Nat) : Nat := 60 * 2 ^ 20 + b / 8 * 64 + t.val * 8

/-- The `n` oldest stores reach scratch; a store of a whole word overwrites a poisoned one (R164, R271). -/
def Dev.drainStores (d : Dev) (t : Tenant) (n : Nat) : Dev :=
  let whole := (((d.seq t).stores.take n).filter fun w => w.data.length == 8).map fun w => scratchWord t w.addr
  let d1 := d.modSeq t fun s => s.drain n
  if whole.isEmpty then d1 else { d1 with arb := { d1.arb with poison := d1.arb.poison.filter fun a => !whole.contains a } }

/-! ### The stall detector -/

/-- A sequencer that can still set flags: RUNNING, MATCHING or SYNCING (R167). -/
def SeqState.acting : SeqState → Bool
  | .running => true | .matching => true | .syncing => true | _ => false

/-- The sequencer of GFn's lock holder is acting. -/
def Dev.gfLive (d : Dev) (n : Nat) : Bool :=
  match d.gfHolder n with
  | some (.tenant t) => (d.seq t).state.acting
  | _ => false

/-- A bound source of an event input is live (Table PS-9). -/
def Dev.sourceLive (d : Dev) (t : Tenant) (src : Nat) : Bool :=
  if src ≤ 3 then bit (d.dict.cfg.nat (0x5101 + 0x10 * t.val) 7) src
  else if src = 4 then (vget (vget d.tb.alarms (tenantScope t)) 0).status == 1
  else if src = 5 then (vget (vget d.tb.alarms (tenantScope t)) 1).status == 1
  else if src = 6 then true
  else if 32 ≤ src && src ≤ 63 then d.gfGrant t (src - 32) && d.gfLive (src - 32)
  else false

/-- Some live source can meet a selector (R167). -/
def Dev.selLive (d : Dev) (t : Tenant) (sel : Nat) : Bool :=
  if selKind sel = 1 then false
  else if selKind sel = 2 then d.gfLive (selNum sel)
  else (d.eiSources t (selInput sel)).any fun s => d.sourceLive t s

/-- A sequencer is stalled (R167). -/
def Dev.stalled (d : Dev) (t : Tenant) : Bool :=
  match (d.seq t).wait with
  | some w => w.timeout == 0 && !d.selLive t w.sel
  | none => false

/-- STALL_TICKS after `n` ticks: it grows while stalled and falls to zero otherwise. -/
def Dev.passStall (d : Dev) (n : Nat) : Dev :=
  allTenants.foldl (fun d t =>
    if d.stalled t then d.modSeq t fun s => { s with stall := min 0xFFFF (s.stall + n) }
    else if (d.seq t).stall = 0 then d else d.modSeq t fun s => { s with stall := 0 }) d

/-- GFs a tenant's wait names: the flag itself, or the set edges its event input is bound to. -/
def Dev.waitedGFs (d : Dev) (t : Tenant) : List Nat :=
  match (d.seq t).wait with
  | some w =>
    if selKind w.sel = 2 then [selNum w.sel]
    else if selKind w.sel = 3 then ((d.eiSources t (selInput w.sel)).filter fun s => 32 ≤ s && s ≤ 63).map fun s => s - 32
    else []
  | none => []

/-- A mask with the listed bits. -/
def maskOf (l : List Nat) : Nat := l.foldl (fun m n => m ||| 2 ^ n) 0

/-- The declared sequencer halts under DEADLOCK_REACTION 1: vectors that it has issued play on, and its aligned effects are
withheld (R170, R191). -/
def Dev.deadlockHalt (d : Dev) (t : Tenant) : Dev :=
  (((d.latchCond (tenantEngine t) 2).modSeq t fun s => { s with
    state := .halted, wait := none, aligned := [], fifo := s.fifo.map fun v => { v with effects := [] } }).issueOver t).seqHalt t 0x04 0 0

/-- The declaration of a deadlock (R168-R170), when the count of t's sequencer reaches 4,096 with the present tick: every stalled sequencer is
declared with it. -/
def Dev.seqDeadlock (d : Dev) (t : Tenant) : Dev :=
  if !d.stalled t || (d.seq t).declared || decide ((d.seq t).stall + 1 < 4096) then d
  else
    let dec := allTenants.filter fun u => d.stalled u && !(d.seq u).declared
    let lowest := dec.headD t
    let gfs := maskOf (dec.flatMap d.waitedGFs)
    let seqs := natLE 1 (maskOf (dec.map (·.val)))
    let holders := (setBits (BitVec.ofNat 32 gfs) 32).filterMap fun n => match d.gfHolder n with | some (.tenant u) => some u | _ => none
    let receivers := allTenants.filter fun u => dec.contains u || holders.contains u
    let payload := fun (u : Tenant) =>
      let own := dec.contains u
      let w := (d.seq u).wait
      let tfs := match w with | some x => if own && selKind x.sel = 1 then 2 ^ selNum x.sel else 0 | none => 0
      let eis := match w with | some x => if own && selKind x.sel = 3 then 2 ^ selNum x.sel else 0 | none => 0
      natLE 4 gfs ++ natLE 2 tfs ++ natLE 1 eis ++ seqs
        ++ natLE 1 (if own then d.dict.cfg.nat (0x2010 + 0x100 * u.val) 3 else 0) ++ [0, 0, 0]
    let d1 := dec.foldl (fun d u => d.modSeq u fun s => { s with declared := true }) d
    let d2 := (d1.condRise 51 (tenantScope lowest) 0 []).condFall 51 (tenantScope lowest)
    let d3 := receivers.foldl (fun d u => d.emitTenant u false 0x09 lowest.val d.now (payload u)) d2
    let d4 := d3.emitMgmt 0x09 lowest.val d.now (natLE 4 gfs ++ [0, 0, 0] ++ seqs ++ [0, 0, 0, 0])
    dec.foldl (fun d u => if d.dict.cfg.nat (0x2010 + 0x100 * u.val) 3 = 1 then d.deadlockHalt u else d) d4

end Sys2Proof.Machine
end

