-- ==== Sys2Proof/Machine/Arbiter.lean ====
section
/-! DEFINITION. The frame arbiter (chapter 9): demands, admission control (R282-R286), credits, quotas (R436-R439), the
scrubber and the accounts of ECC (R270-R272), quiet overruns and budget breaches. -/
namespace Sys2Proof.Machine

/-! ### Demands -/

/-- Some enabled set gives an owned pin the RAW format. -/
def Cfg.rawSet (c : Cfg) (t : Tenant) (pins : List Pin) : Bool :=
  (c.enabledSets t).any fun s => pins.any fun p => (c.tsPin t s p).format == 6

/-- The pins a tenant owns in a configuration. -/
def Cfg.ownedPins (c : Cfg) (t : Tenant) : List Pin := allPins.filter fun p => c.pinOwner p == some t

/-- V of R224: the vectors of a frame. -/
def Cfg.vectorsPerFrame (c : Cfg) (t : Tenant) : Nat :=
  match c.enabledSets t with
  | [] => 0
  | s :: l =>
    if c.rawSet t (c.ownedPins t) then 1024
    else
      let p := l.foldl (fun m k => min m (c.period t k)) (c.period t s)
      min 1024 (ceilDiv 8388608 (Nat.max 1 p))

/-- Vector-fetch demand in the tenant's vector-store banks (Table MA-4). -/
def Cfg.fetchDemand (c : Cfg) (t : Tenant) : Nat :=
  let g := (c.ownedGroups t).length
  if g = 0 then 0
  else
    let pins := c.ownedPins t
    let p := ((c.enabledSets t).map fun s => (pins.filter fun q => (c.tsPin t s q).format == 6).length).foldl Nat.max 0
    128 + ceilDiv (c.vectorsPerFrame t * 16 * g) 512 + 128 * p * (if c.nat 0x1911 t.val = 1 then 3 else 1)

/-- Fail-write demand (Table FG-5). -/
def Cfg.failDemand (c : Cfg) (t : Tenant) : Nat :=
  let v := c.vectorsPerFrame t
  (if bit (c.fg t 1) 0 then v else 0) + (if bit (c.fg t 1) 1 then ceilDiv (v * 8 * (c.ownedGroups t).length) 512 else 0) + 30 + 48

/-- Capture-write demand of an armed context (Table TA-8). -/
def Cfg.captureDemand (c : Cfg) (t : Tenant) : Nat :=
  let pc := (c.acqPins t).length
  let i := Nat.max 1 (c.acq t 4)
  let body :=
    if c.acq t 1 = 3 then ceilDiv pc 4
    else if c.acq t 2 = 1 then ceilDiv ((ceilDiv 1024 i + 1) * 8 * pc) 64
    else if c.acq t 2 = 2 then (ceilDiv 1024 i + 1) * pc * c.parallelBytes t / 64
    else if c.acq t 1 = 2 then 256 * pc * c.acq t 0x0B
    else 256 * pc
  body + 2

/-- The withheld demand W_t (R282). -/
def Cfg.withheld (c : Cfg) (t : Tenant) : Nat :=
  let all := c.nat 0x1922 t.val == 1
  let sets := (c.enabledSets t).filter fun s => all || c.tsQuiet t s
  let h := c.nat 0x1920 0 + c.nat 0x1920 1 + 1
  let g := fun s => let n := (c.strobes t s true).length; min (ceilDiv (c.period t s) 8192 + h) (n * h)
  match sets with
  | [] => 0
  | _ =>
    let best := sets.foldl (fun (m : Q) s => m.max ⟨g s, Nat.max 1 (c.period t s)⟩) ⟨0, 1⟩
    let gmax := (sets.map g).foldl Nat.max 0
    min 1024 (ceilDiv (8388608 * best.num.toNat) best.den + 2 * gmax)

/-- STREAM_RESERVE. -/
def Cfg.streamReserve (c : Cfg) (t : Tenant) : Nat := c.nat 0x1910 t.val

/-- A sum over the tenants. -/
def sumTenants (f : Tenant → Nat) : Nat := (allTenants.map f).foldl (· + ·) 0

/-- The demands of a tenant in the three regions' banks: vector store, Capture Hall, Gallery. -/
structure Demand where
  fetch : Nat
  capture : Nat
  fail : Nat

/-- The demands under a configuration; an armed context presents its capture demand. -/
def Cfg.demand (c : Cfg) (armed : Tenant → Bool) (t : Tenant) : Demand :=
  { fetch := c.fetchDemand t, capture := if armed t then c.captureDemand t else 0, fail := c.failDemand t }

/-- The larger of two demands, part by part (R284). -/
def Demand.max (a b : Demand) : Demand :=
  { fetch := Nat.max a.fetch b.fetch, capture := Nat.max a.capture b.capture, fail := Nat.max a.fail b.fail }

/-- Banks of a region that a tenant holds under an assignment. -/
def banksHeld (owner : Vector Nat 64) (region : Nat) (t : Tenant) : Nat :=
  ((regionBanks region).filter fun b => vget owner b == t.val).length

/-- The region of a bank: 0 vector store, 1 Capture Hall, 2 Gallery, 3 the system region. -/
def bankRegion (b : Fin 64) : Nat := if b.val < 32 then 0 else if b.val < 48 then 1 else if b.val < 60 then 2 else 3

/-- The class that serves a region's banks. -/
def regionClass (region : Nat) : Nat := if region = 0 then 0 else if region = 1 then 3 else 2

/-- The guaranteed demand in a tenant bank under an assignment (R276). -/
def bankShare (owner : Vector Nat 64) (dm : Tenant → Demand) (b : Fin 64) : Nat :=
  match tenantOf (vget owner b) with
  | none => 0
  | some t =>
    let x := dm t
    let d := if bankRegion b = 0 then x.fetch else if bankRegion b = 1 then x.capture else x.fail
    ceilDiv d (Nat.max 1 (banksHeld owner (bankRegion b) t))

/-! ### Admission (R284-R286) -/

/-- ADMIT_LAST (Table MA-5). -/
def admitRecord (reason bank tenant cls demand capacity : Nat) : Bytes :=
  natBE 1 reason ++ natBE 1 bank ++ natBE 1 tenant ++ natBE 1 cls ++ natBE 4 demand ++ natBE 4 capacity ++ zeros 4

/-- The first tenant bank that does not fit under an assignment (condition 1). -/
def bankBreach (owner : Vector Nat 64) (dm : Tenant → Demand) : Option Bytes :=
  ((List.ofFn (n := 64) id).filter fun b => decide (b.val < 60)).findSome? fun b =>
    let s := bankShare owner dm b
    if s > 1024 then some (admitRecord 1 b.val (vget owner b) (regionClass (bankRegion b)) s 1024) else none

/-- The lowest tenant whose STREAM_RESERVE or QUIET_QUOTA the judged commit changes, and whether a reserve changes. -/
def judgedTenant (force new : Cfg) (judged : Cfg) : Nat × Bool :=
  let names := fun ix (t : Tenant) => (judged.find (keyOf ix t.val)).isSome && force.nat ix t.val != new.nat ix t.val
  let t := (allTenants.find? fun t => names 0x1910 t || names 0x1921 t)
  (match t with | some x => x.val | none => 0xFF, allTenants.any (names 0x1910))

/-- Q_b and N_b of banks 61-63 for the larger reserves (R285). -/
def systemDemand (reserves : Nat) : Nat × Nat := (65 + ceilDiv reserves 3, 12 + ceilDiv reserves 3)

/-- Admission of a prospective configuration (R284-R286): none where it fits, otherwise ADMIT_LAST. `owner` is the
assignment of banks that the prospective quotas give. -/
def Dev.admission (d : Dev) (new judged : Cfg) (armed : Tenant → Bool) (owner : Vector Nat 64) : Option Bytes :=
  let force := d.dict.cfg
  let inForce := fun t => (vget d.acq t).active
  let dm := fun t => (force.demand inForce t).max (new.demand (fun t => armed t || inForce t) t)
  let larger := fun (f : Cfg → Tenant → Nat) t => Nat.max (f force t) (f new t)
  let qn := systemDemand (sumTenants (larger Cfg.streamReserve))
  let w := sumTenants (larger Cfg.quietQuota)
  let j := judgedTenant force new judged
  (bankBreach d.arb.bankOwner dm).orElse fun _ => (bankBreach owner dm).orElse fun _ =>
    if qn.1 > 1024 then some (admitRecord 2 61 j.1 0 qn.1 1024)
    else if 1024 * qn.2 > (1024 - w) * (1024 - qn.1) then
      some (admitRecord 3 61 j.1 (if j.2 then 1 else 0xFF) (1024 * qn.2) ((1024 - w) * (1024 - qn.1)))
    else allTenants.findSome? fun t =>
      let wt := larger Cfg.withheld t
      if wt > new.quietQuota t then some (admitRecord 4 0xFF t.val 0xFF wt (new.quietQuota t)) else none

/-- The admitted values after a Landing (R286). -/
def Dev.admitted (d : Dev) : Dev :=
  let c := d.dict.cfg
  let dm := fun t => c.demand (fun t => (vget d.acq t).active) t
  let res := sumTenants c.streamReserve
  let qn := systemDemand res
  let a := d.arb
  { d with arb := { a with
    quietDemand := Vector.ofFn fun t => c.withheld t
    bankDemand := Vector.ofFn fun b =>
      if b.val < 60 then bankShare a.bankOwner dm b else if b.val = 60 then 1024 else qn.1 + qn.2
    classDemand := Vector.ofFn fun k => match k.val with
      | 0 => sumTenants (fun t => (dm t).fetch) + res
      | 1 => res
      | 2 => sumTenants fun t => if banksHeld a.bankOwner 2 t = 0 then 0 else (dm t).fail
      | 3 => sumTenants fun t => (dm t).capture
      | 4 => 96 | 5 => 1024 | 7 => 64 | 8 => 32 | 9 => 32 | 10 => 3
      | _ => 0 } }

/-- The per-bank demand of a guaranteed class (R276). -/
def Dev.classShare (d : Dev) (b : Fin 64) (k : Nat) : Nat :=
  let c := d.dict.cfg
  if b.val < 60 then
    if regionClass (bankRegion b) = k then bankShare d.arb.bankOwner (fun t => c.demand (fun t => (vget d.acq t).active) t) b else 0
  else if b.val = 60 then (if k = 5 then 1024 else 0)
  else match k with
    | 0 => ceilDiv (sumTenants c.streamReserve) 3
    | 1 => ceilDiv (sumTenants c.streamReserve) 3
    | 4 => 32 | 7 => 22 | 8 => 11 | 9 => 11 | 10 => 1
    | _ => 0

/-- Step 3 of R24: the credits of the new frame. -/
def Dev.loadBudgets (d : Dev) : Dev :=
  { d with arb := { d.arb with
    credit := Vector.ofFn fun b => Vector.ofFn fun k => d.classShare b k.val
    overrun := Vector.replicate 8 false, fetchShort := Vector.replicate 8 false, breaches := [] } }

/-- What a bank sees in a tick (R277): the credit of each class, the cycles granted to it in the frame, whether it has a request
pending, the best-effort requests (image download, upload DMA, scrub), whether the tick is withheld, its number k in the frame,
the frame's ticks so far that were not withheld, and W. -/
structure BankTick where
  credit : Fin 11 → Nat
  granted : Fin 11 → Nat
  wants : Fin 11 → Bool
  image : Bool
  upload : Bool
  scrub : Bool
  withheld : Bool
  k : Nat
  kOpen : Nat
  w : Nat

/-- Every class, ascending. -/
def allClasses : List (Fin 11) := List.ofFn id

/-- The noisy classes (Table MA-3). -/
def noisyClass (c : Fin 11) : Bool := c == 1 || c == 6 || c == 9 || c == 10

/-- The rate line of a guaranteed class (R277). -/
def BankTick.line (x : BankTick) (c : Fin 11) : Nat :=
  if noisyClass c then min (x.credit c) (ceilDiv (x.credit c * x.kOpen) (1024 - x.w)) else ceilDiv (x.credit c * x.k) 1024

/-- By how many cycles a class is behind its rate line. -/
def BankTick.lag (x : BankTick) (c : Fin 11) : Nat := x.line c - x.granted c

/-- Who takes a bank's cycle. -/
inductive Grant where
  | guaranteed (c : Fin 11)
  | image | upload | scrub
  deriving DecidableEq, Repr

/-- The class with the greatest lag, the lowest code on a tie; none where no class lags. -/
def BankTick.furthest (x : BankTick) (l : List (Fin 11)) : Option (Fin 11) :=
  l.foldl (fun best c => if x.lag c > (match best with | some b => x.lag b | none => 0) then some c else best) none

/-- The grant of a bank's cycle (R277): the guaranteed class furthest behind its rate line, then one with credit left, then best
effort; a noisy class has no grant in a withheld tick (R279). -/
def BankTick.grant (x : BankTick) : Option Grant :=
  let ready := allClasses.filter fun c => x.wants c && decide (0 < x.credit c) && !(x.withheld && noisyClass c)
  match x.furthest ready with
  | some c => some (.guaranteed c)
  | none => match ready.find? fun c => decide (x.granted c < x.credit c) with
    | some c => some (.guaranteed c)
    | none =>
      if x.withheld then none
      else if x.image then some .image else if x.upload then some .upload else if x.scrub then some .scrub else none

/-- A guaranteed class is short in a bank (R287): requests within its budget that the frame did not grant, or a lag of more than 16
cycles with a request pending. -/
def BankTick.short (x : BankTick) (c : Fin 11) : Bool :=
  x.wants c && (decide (x.k = 1024 ∧ x.granted c < x.credit c) || decide (16 < x.lag c))

/-! ### Quotas (R436-R439) -/

/-- A byte of QUOTA: 0 vector store, 1 Capture Hall, 2 Gallery, 3 staging shares. -/
def Cfg.quota (c : Cfg) (t : Tenant) (k : Nat) : Nat := fieldBE (c.get 0x1103 t.val) k 1

/-- The last `n` indices of a list of owners that hold `t` become free. -/
def releaseLast (t free n : Nat) (l : List Nat) : List Nat :=
  (l.foldr (fun x (acc : List Nat × Nat) => if x = t && acc.2 > 0 then (free :: acc.1, acc.2 - 1) else (x :: acc.1, acc.2)) ([], n)).1

/-- The first `n` free indices become `t`'s. -/
def takeFirst (t free : Nat) : Nat → List Nat → List Nat
  | 0, l => l
  | _, [] => []
  | n + 1, x :: l => if x = free then t :: takeFirst t free n l else x :: takeFirst t free (n + 1) l

/-- R438 in one region. -/
def assignRegion (owners : List Nat) (old new : Tenant → Nat) : List Nat :=
  let l1 := allTenants.foldl (fun l t => releaseLast t.val 0xFF (old t - new t) l) owners
  allTenants.foldl (fun l t => takeFirst t.val 0xFF (new t - old t) l) l1

/-- The assignment of banks under prospective quotas (R438). -/
def Dev.assignBanks (d : Dev) (old new : Cfg) : Vector Nat 64 :=
  let l := d.arb.bankOwner.toList
  let part := fun lo hi k => assignRegion ((l.drop lo).take (hi - lo)) (fun t => old.quota t k) (fun t => new.quota t k)
  let out := part 0 32 0 ++ part 32 48 1 ++ part 48 60 2
  Vector.ofFn fun b => if b.val < 60 then out.getD b.val 0xFF else 0xFE

/-- The assignment of staging shares. -/
def Dev.assignShares (d : Dev) (old new : Cfg) : Vector Nat 32 :=
  let out := assignRegion d.arb.shareOwner.toList (fun t => old.quota t 3) (fun t => new.quota t 3)
  Vector.ofFn fun k => out.getD k.val 0xFF

/-- The addresses that a change of quotas makes read as zero (R267, R439): banks whose region quota of either owner
changed, and shares likewise. -/
def Dev.clearedBank (d : Dev) (old new : Cfg) (owner : Vector Nat 64) (b : Fin 64) : Bool :=
  b.val < 60 &&
    (vget d.arb.bankOwner b != vget owner b ||
      match tenantOf (vget owner b) with
      | some t => old.quota t (bankRegion b) != new.quota t (bankRegion b)
      | none => false)

/-- A Landing changes quotas (R267, R438, R439): banks and shares are assigned, and changed areas read as zero. -/
def State.landQuotas (s : State) (old new : Cfg) : State :=
  let d := s.dev
  let owner := d.assignBanks old new
  let shares := d.assignShares old new
  let badBank := fun a => if h : a / 2 ^ 20 < 64 then d.clearedBank old new owner ⟨a / 2 ^ 20, h⟩ else false
  let badShare := fun k => vget d.arb.shareOwner k != vget shares k ||
    match tenantOf (vget shares k) with | some t => old.quota t 3 != new.quota t 3 | none => false
  let shareAddrs := ((List.ofFn (n := 32) id).filter badShare).flatMap fun k =>
    (List.range 1024).map fun i => systemAddr (0x100000 + k.val * 65536 + i * 64) / 64
  let gone := fun a => badBank a || (decide (61 * 2 ^ 20 ≤ a) && shareAddrs.contains (a / 64))
  { s with mem := s.mem.filter fun c => !gone c.1
           dev := { d with arb := { d.arb with bankOwner := owner, shareOwner := shares
                                               poison := d.arb.poison.filter fun a => !gone a } } }

/-! ### ECC and the scrubber -/

/-- The offset in banks 61-63 of an address (the inverse of R269's interleave). -/
def systemOffset (a : Nat) : Nat := (a / 64 % 2 ^ 14 * 3 + (a / 2 ^ 20 - 61)) * 64 + a % 64

/-- The tenant whose bank or structure holds a word (R271). -/
def Dev.wordOwner (d : Dev) (a : Nat) : Option Tenant :=
  let b := a / 2 ^ 20
  if h : b < 60 then tenantOf (vget d.arb.bankOwner ⟨b, by omega⟩)
  else if b = 60 then (if a / 64 % 2 ^ 14 < 512 then tenantOf (a / 8 % 8) else none)
  else
    let o := systemOffset a
    if o < 0x20000 then tenantOf (o % 0x10000 / 0x2000)
    else if h : 0x100000 ≤ o ∧ o < 0x300000 then tenantOf (vget d.arb.shareOwner ⟨(o - 0x100000) / 0x10000, by omega⟩)
    else none

/-- A corrected single-bit error (R270): FS-032, and a word that waits for its write-back. -/
def Dev.eccCorrected (d : Dev) (a : Nat) (masterKind master access : Nat) : Dev :=
  { d with arb := { d.arb with eccCorrected := satAdd 32 d.arb.eccCorrected 1, writeBack := d.arb.writeBack ++ [a] } }.raiseTrans 32
    (d.wordOwner a) masterKind master a access

/-- SCRUB_ROW (R272); a withheld tick grants the scrubber no cycle (R279), but in bank 60, whose words it takes in read slots
that carry no load. -/
def Dev.scrubRow (d : Dev) (bank : Fin 64) (corrected uncorrectable : List (Fin 8)) : Dev :=
  if bank.val ≠ 60 && d.withheldTick d.tb.tick then d else
  let row := vget d.arb.scrubRow bank
  let addr := fun (l : Fin 8) => bank.val * 2 ^ 20 + row * 64 + l.val * 8
  let d1 := corrected.foldl (fun d l => d.eccCorrected (addr l) 3 0 4) d
  let d2 := uncorrectable.foldl (fun (d : Dev) l =>
    let a := addr l
    let d' := { d with arb := { d.arb with poison := if d.arb.poison.contains a then d.arb.poison else a :: d.arb.poison } }
    d'.eccHit a (d.wordOwner a) 3 0 4) d1
  let a := d2.arb
  if row + 1 < 16384 then { d2 with arb := { a with scrubRow := vmod a.scrubRow bank fun r => r + 1 } }
  else
    let took := d2.tb.ms - vget a.scrubStart bank
    let a1 : Arb := { a with
      scrubRow := vmod a.scrubRow bank fun _ => 0, scrubStart := vmod a.scrubStart bank fun _ => d2.tb.ms
      scrubLate := vmod a.scrubLate bank fun _ => false, scrubPassMax := max a.scrubPassMax (took % 2 ^ 32)
      scrubPasses := satAdd 32 a.scrubPasses 1 }
    { d2 with arb := a1 }

/-- ECC_WRITEBACK (R270): the oldest corrected word of a bank is written back. -/
def Dev.eccWriteback (d : Dev) (bank : Fin 64) : Dev :=
  match d.arb.writeBack.find? fun a => a / 2 ^ 20 == bank.val with
  | some a => { d with arb := { d.arb with writeBack := d.arb.writeBack.erase a } }
  | none => d

/-- SCRUB_LATE (R272): the pass has lasted longer than SCRUB_PASS_LIMIT; once for that pass. -/
def Dev.scrubLateNow (d : Dev) (bank : Fin 64) : Dev :=
  if d.tb.ms - vget d.arb.scrubStart bank > d.dict.cfg.nat 0x1902 0 && !vget d.arb.scrubLate bank then
    { d with arb := { d.arb with scrubLate := vmod d.arb.scrubLate bank fun _ => true } }.raiseDev 35
  else d

/-! ### Overruns and breaches -/

/-- QUIET_OVERRUN (R283): once a frame, where the ticks of t's guards in the frame have passed its quota; INVALID begins with the
first of them that is not withheld. -/
def Dev.quietOverrun (d : Dev) (t : Tenant) : Dev :=
  match (d.guardTicks t d.tb.tick).drop (d.dict.cfg.quietQuota t) with
  | [] => d
  | first :: _ =>
    if vget d.arb.overrun t then d
    else
      let d1 := (d.ownedPins t).foldl (fun d p => d.backInvalid p first) { d with arb := { d.arb with
        overrun := vmod d.arb.overrun t fun _ => true, overruns := vmod d.arb.overruns t fun n => satAdd 32 n 1 } }
      (d1.condRise 37 (tenantScope t) 0 []).condFall 37 (tenantScope t)

/-- The tenants that a class's shortfall in a bank concerns (R287). -/
def Dev.breachTenants (d : Dev) (cls : Fin 11) (bank : Fin 64) : List Tenant :=
  if bank.val < 60 then (match tenantOf (vget d.arb.bankOwner bank) with | some t => [t] | none => [])
  else if cls = 0 || cls = 1 then d.presentTenants.filter fun t => decide (d.dict.cfg.streamReserve t > 0)
  else if cls = 5 || cls = 7 || cls = 8 then d.presentTenants
  else []

/-- The flags of a BUDGET_BREACH record (Table MA-6). -/
def breachFlags (cls : Fin 11) (lost : Nat) : Nat :=
  match cls.val with
  | 0 => 1 | 5 => 1 | 3 => 1
  | 1 => 2 + ofBool (decide (lost > 0))
  | 2 => if lost > 0 then 1 else 2
  | _ => 2

/-- The next `n` vectors, or RAW segments, play with code DK and no compare: their data has not arrived (Table MA-6). -/
def dropData : List Vec → Nat → List Vec
  | [], _ => []
  | l, 0 => l
  | v :: l, n + 1 =>
    let lost := { v with codes := v.codes.map fun c => (c.1, 3), gap := some 0 }
    if v.tail then v :: dropData l (n + 1)
    else if v.reps ≤ n + 1 then lost :: dropData l (n + 1 - v.reps)
    else { lost with reps := n + 1 } :: { v with reps := v.reps - (n + 1), release := none, effects := [] } :: l

/-- What a shortfall does to one tenant's data (Table MA-6). -/
def Dev.breachEffect (d : Dev) (cls : Fin 11) (lost : Nat) (t : Tenant) : Dev :=
  if cls = 0 || cls = 5 || (cls = 1 && lost > 0) then
    ({ d with arb := { d.arb with fetchShort := vmod d.arb.fetchShort t fun _ => true } }).modSeq t fun s => { s with fifo := dropData s.fifo lost }
  else if cls = 2 then d.modGal t fun g => { g with breach := true }.drop lost
  else if cls = 3 then d.captureLost t lost
  else d

/-- A further shortfall of one class in one bank in a frame adds to the first (R287). -/
def addBreach (b : Breach) : List Breach → List Breach
  | [] => [b]
  | x :: l => if x.cls = b.cls && x.bank == b.bank then { x with short := x.short + b.short, flags := x.flags ||| b.flags } :: l
              else x :: addBreach b l

/-- BUDGET_BREACH (R287): the fault, the count and what the class loses; the record follows at the frame edge (R288). -/
def Dev.budgetBreach (d : Dev) (cls : Fin 11) (bank : Fin 64) (shortfall lost : Nat) : Dev :=
  let ts := d.breachTenants cls bank
  let owner := if bank.val < 60 then ts.head? else none
  let d1 := d.raiseTrans 36 owner 3 cls.val (bank.val * 2 ^ 20) 0
  let d2 := { d1 with arb := { d1.arb with
    breachCount := vmod d1.arb.breachCount cls fun n => satAdd 32 n 1
    breaches := addBreach { cls := cls.val, bank := bank.val, short := shortfall, flags := breachFlags cls lost, tenants := ts
                            owner := owner } d1.arb.breaches } }
  ts.foldl (fun d t => d.breachEffect cls lost t) d2

/-- The BUDGET_BREACH record of a shortfall in the frame that has ended (R287, R288). -/
def Dev.breachRecord (d : Dev) (b : Breach) : Dev :=
  let frame := d.frame - 1
  let head := natLE 1 b.cls ++ natLE 1 b.bank ++ natLE 1 (match b.owner with | some t => t.val | none => 0xFF) ++ natLE 1 b.flags
  let payload := head ++ natLE 4 b.short ++ natLE 4 frame
  let d1 := b.tenants.foldl (fun d t => d.emitTenant t false 0x0E (0x7000 + b.bank) d.now payload)
    { d with arb := { d.arb with breachLast := head ++ natBE 4 b.short ++ natBE 4 frame } }
  d1.emit (d1.mkRec .mgmt (match b.owner with | some t => t.val | none => 8) 0x0E (0x7000 + b.bank) d1.now payload)

/-- The BUDGET_BREACH records of the frame that has ended. -/
def Dev.breachRecords (d : Dev) : Dev := d.arb.breaches.foldl (fun d b => d.breachRecord b) d

/-! ### Meanings -/

/-- SCRUB_ROW (R272). -/
def execScrubRow (bank : Fin 64) (corrected uncorrectable : List (Fin 8)) (s : State) : Host.Outcome State Fault Refusal :=
  .next { s with dev := s.dev.scrubRow bank corrected uncorrectable }

/-- ECC_WRITEBACK (R270). -/
def execEccWriteback (bank : Fin 64) (s : State) : Host.Outcome State Fault Refusal := .next { s with dev := s.dev.eccWriteback bank }

/-- SCRUB_LATE (R272). -/
def execScrubLate (bank : Fin 64) (s : State) : Host.Outcome State Fault Refusal := .next { s with dev := s.dev.scrubLateNow bank }

/-- QUIET_OVERRUN (R283). -/
def execQuietOverrun (t : Tenant) (s : State) : Host.Outcome State Fault Refusal := .next { s with dev := s.dev.quietOverrun t }

/-- BUDGET_BREACH (R287). -/
def execBudgetBreach (cls : Fin 11) (bank : Fin 64) (shortfall lost : Nat) (s : State) : Host.Outcome State Fault Refusal :=
  .next { s with dev := s.dev.budgetBreach cls bank shortfall lost }

end Sys2Proof.Machine
end

