-- ==== Sys2Proof/Machine/Gcm.lean ====
section
/-! DEFINITION. AES-256-GCM, which R547 names by its standard: the block cipher (FIPS 197), counter mode and GHASH (SP
800-38D). PRESUMED (notes/assumptions/3): the spec names the algorithm and does not write it out. -/
namespace Sys2Proof.Machine

/-- Multiplication by x in the field of AES. -/
def xtime (a : BitVec 8) : BitVec 8 := (a <<< 1) ^^^ (if a.getLsbD 7 then 0x1B else 0)

/-- The product in the field of AES: `n` bits of `b` are taken. -/
def gfMul : Nat → BitVec 8 → BitVec 8 → BitVec 8
  | 0, _, _ => 0
  | n + 1, a, b => (if b.getLsbD 0 then a else 0) ^^^ gfMul n (xtime a) (b >>> 1)

/-- The inverse in the field of AES, as a power: x^2 times x^4 and so on to x^128. -/
def gfInv (x : BitVec 8) : BitVec 8 :=
  ((List.range 7).foldl (fun (p : BitVec 8 × BitVec 8) _ => let sq := gfMul 8 p.1 p.1; (sq, gfMul 8 p.2 sq)) (x, 1)).2

/-- SubBytes of one byte. -/
def aesSub (x : BitVec 8) : BitVec 8 :=
  let b := gfInv x
  b ^^^ b.rotateLeft 1 ^^^ b.rotateLeft 2 ^^^ b.rotateLeft 3 ^^^ b.rotateLeft 4 ^^^ 0x63

/-- The sum of two byte strings. -/
def xorBytes (a b : Bytes) : Bytes := a.zipWith (· ^^^ ·) b

/-- The key schedule: `n` further words of four bytes, newest first; `rcon` is the round constant that comes next. -/
def aesExpand : Nat → BitVec 8 → List Bytes → List Bytes
  | 0, _, w => w
  | n + 1, rcon, w =>
    let i := w.length
    let t := w.headD []
    let old := w.getD 7 []
    if i % 8 = 0 then
      let r := (t.drop 1 ++ t.take 1).map aesSub
      aesExpand n (xtime rcon) (xorBytes old (xorBytes r [rcon, 0, 0, 0]) :: w)
    else aesExpand n rcon (xorBytes old (if i % 8 = 4 then t.map aesSub else t) :: w)

/-- The fifteen round keys of a 32-byte key. -/
def aesKeys (key : Bytes) : List Bytes :=
  chunks 16 15 (aesExpand 52 1 ((chunks 4 8 key).reverse)).reverse.flatten

/-- ShiftRows; byte r + 4c is row r of column c. -/
def shiftRows (s : Bytes) : Bytes :=
  (List.range 16).map fun i => s.getD (i % 4 + 4 * ((i / 4 + i % 4) % 4)) 0

/-- MixColumns. -/
def mixColumns (s : Bytes) : Bytes :=
  (List.range 16).map fun i =>
    let a := fun (k : Nat) => s.getD (i / 4 * 4 + (i + k) % 4) 0
    xtime (a 0) ^^^ (xtime (a 1) ^^^ a 1) ^^^ a 2 ^^^ a 3

/-- One block under the round keys. -/
def aesBlock (keys : List Bytes) (b : Bytes) : Bytes :=
  match keys with
  | [] => b
  | k0 :: ks =>
    let mid := ks.dropLast.foldl (fun s k => xorBytes (mixColumns (shiftRows (s.map aesSub))) k) (xorBytes b k0)
    xorBytes (shiftRows (mid.map aesSub)) (ks.getLastD [])

/-- The product of GHASH: bit 127 of a number is the first bit of its block. -/
def ghashMul : Nat → Nat → Nat → Nat → Nat
  | 0, _, _, z => z
  | n + 1, x, v, z =>
    ghashMul n x (if v % 2 = 1 then v / 2 ^^^ 0xE1 * 2 ^ 120 else v / 2) (if bit x n then z ^^^ v else z)

/-- GHASH of the additional data and the cipher bytes under the hash key `h`. -/
def ghash (h : Nat) (aad c : Bytes) : Nat :=
  let blocks := fun (b : Bytes) => (chunks 16 (b.length / 16 + 1) b).map fun x => fieldBE x 0 16
  (blocks aad ++ blocks c ++ [8 * aad.length * 2 ^ 64 + 8 * c.length]).foldl (fun y x => ghashMul 128 (y ^^^ x) h 0) 0

/-- Counter mode from counter `n` on, block by block. -/
def ctrMode (keys : List Bytes) (iv : Bytes) : Nat → List Bytes → List Bytes
  | _, [] => []
  | n, b :: l => xorBytes b (aesBlock keys (iv ++ natBE 4 n)) :: ctrMode keys iv (n + 1) l

/-- The plain bytes of an AES-256-GCM body: key, 96-bit initialisation vector, cipher bytes. -/
def gcmPlain (key iv c : Bytes) : Bytes := (ctrMode (aesKeys key) iv 2 (chunks 16 (c.length / 16 + 1) c)).flatten

/-- An AES-256-GCM body carries its right tag: key, additional data, initialisation vector, cipher bytes, tag. -/
def gcmAuthentic (key aad iv c tag : Bytes) : Bool :=
  let keys := aesKeys key
  let h := fieldBE (aesBlock keys (List.replicate 16 0)) 0 16
  xorBytes (aesBlock keys (iv ++ natBE 4 1)) (natBE 16 (ghash h aad c)) == tag

end Sys2Proof.Machine
end

