-- ==== Sys2Proof/Machine/P384.lean ====
section
/-! DEFINITION. ECDSA on the curve P-384, which R547 names by its standard (FIPS 186). PRESUMED (notes/assumptions/3): the
spec names the algorithm and does not write it out. -/
namespace Sys2Proof.Machine

/-- The field of P-384. -/
def p384 : Nat := 2 ^ 384 - 2 ^ 128 - 2 ^ 96 + 2 ^ 32 - 1
/-- The order of the base point. -/
def n384 : Nat := 0xFFFFFFFFFFFFFFFFFFFFFFFFFFFFFFFFFFFFFFFFFFFFFFFFC7634D81F4372DDF581A0DB248B0A77AECEC196ACCC52973
/-- The coefficient b of the curve y² = x³ - 3x + b. -/
def b384 : Nat := 0xB3312FA7E23EE7E4988E056BE3F82D19181D9C6EFE8141120314088F5013875AC656398D8A2ED19D2A85C8EDD3EC2AEF

/-- `a` to the power `e`, of which `fuel` bits are taken, modulo `m`. -/
def powMod (m : Nat) : Nat → Nat → Nat → Nat
  | 0, _, _ => 1 % m
  | fuel + 1, a, e => (if e % 2 = 1 then a else 1) * powMod m fuel (a * a % m) (e / 2) % m

/-- The inverse modulo a prime of at most 384 bits. -/
def invMod (m a : Nat) : Nat := powMod m 384 (a % m) (m - 2)

/-- The sum of two points of the curve; none is the point at infinity. -/
def addPoint : Option (Nat × Nat) → Option (Nat × Nat) → Option (Nat × Nat)
  | none, q => q
  | p, none => p
  | some (x1, y1), some (x2, y2) =>
    let m := p384
    if x1 = x2 && (y1 + y2) % m = 0 then none
    else
      let l := if x1 = x2 then (3 * x1 * x1 + m - 3) * invMod m (2 * y1) % m else (y2 + m - y1) * invMod m (x2 + m - x1) % m
      let x := (l * l + 2 * m - x1 - x2) % m
      some (x, (l * (x1 + m - x) + m - y1) % m)

/-- `k` times a point, of which `fuel` bits are taken. -/
def mulPoint : Nat → Nat → Option (Nat × Nat) → Option (Nat × Nat)
  | 0, _, _ => none
  | fuel + 1, k, p => addPoint (if k % 2 = 1 then p else none) (mulPoint fuel (k / 2) (addPoint p p))

/-- The base point. -/
def g384 : Nat × Nat :=
  (0xAA87CA22BE8B05378EB1C71EF320AD746E1D3B628BA79B9859F741E082542A385502F25DBF55296C3A545E3872760AB7,
   0x3617DE4A96262C6F5D9E98BF9292DC29F8F41DBD289A147CE9DA3113B5F0B8C00A60B1CE1D7E819D7A431D7C90EA0E5F)

/-- An ECDSA P-384 signature verifies: the 97-byte uncompressed key, the SHA-384 digest and the 96 bytes r and s. -/
def ecdsaVerifies (key digest sig : Bytes) : Bool :=
  let x := fieldBE key 1 48
  let y := fieldBE key 49 48
  let r := fieldBE sig 0 48
  let s := fieldBE sig 48 48
  let onCurve := decide (x < p384) && decide (y < p384) && y * y % p384 == (x * x * x + (p384 - 3) * x + b384) % p384
  let w := invMod n384 s
  let point := addPoint (mulPoint 384 (fieldBE digest 0 48 * w % n384) (some g384)) (mulPoint 384 (r * w % n384) (some (x, y)))
  fieldBE key 0 1 == 4 && onCurve && decide (0 < r ∧ r < n384) && decide (0 < s ∧ s < n384)
    && match point with | some q => q.1 % n384 == r | none => false

end Sys2Proof.Machine
end

