-- ==== Sys2Proof/Machine/Boot.lean ====
section
/-! DEFINITION. Serow: the slots of the flash and their checks, the choice and load at B3, the anti-rollback counter, and
the flash update (chapter 18). -/
namespace Sys2Proof.Machine

/-- The flash is usable (R545): the signature "SFDP", major revision 1, the reads, erase and addressing that Serow needs, and
at least 1 Mbit. -/
def sfdpUsable (x : Sfdp) : Bool :=
  x.signature == 0x50444653 && x.major == 1 && x.fastRead114 && x.erase4k && x.addr3 && decide (2 ^ 20 ≤ x.density)

/-- Bytes of an erased area. -/
def erased (n : Nat) : Bytes := List.replicate n 0xFF

/-- `n` bytes of a slot from an offset; the flash past the bytes listed reads 0xFF. -/
def slotBytes (f : Bytes) (o n : Nat) : Bytes := (List.range n).map fun i => f.getD (o + i) 0xFF

/-- BODY_LEN of a slot. -/
def bodyLen (f : Bytes) : Nat := leNat (slotBytes f 20 4)

/-- The body of a slot. -/
def slotBody (f : Bytes) : Bytes := slotBytes f 4096 (bodyLen f)

/-- Every byte is zero. -/
def allZero (b : Bytes) : Bool := b.all fun x => x == 0

/-- Check 3 of Table BP-3: MAGIC, FORMAT, reserved bytes and bits, SVN, BODY_LEN. -/
def formatOk (f : Bytes) : Bool :=
  leNat (slotBytes f 0 4) == 0x4C5A4249 && leNat (slotBytes f 4 2) == 1 && allZero (slotBytes f 24 8)
    && allZero (slotBytes f 60 4) && allZero (slotBytes f 161 31) && allZero (slotBytes f 288 3808)
    && leNat (slotBytes f 16 4) / 2 == 0 && decide (leNat (slotBytes f 14 2) ≤ 64)
    && decide (16 ≤ bodyLen f ∧ bodyLen f ≤ 61440)

/-- The public key, the signature and the signed digest (R547). -/
def slotSigned (f : Bytes) : Bool :=
  ecdsaVerifies (slotBytes f 64 97) (sha384 (slotBytes f 0 192 ++ slotBody f)) (slotBytes f 192 96)

/-- The header checks 3 to 7 of a slot: 0 where they pass (R549). -/
def Dev.headerChecks (d : Dev) (f : Bytes) : Nat :=
  let step := leNat (slotBytes f 6 2)
  let own := d.fuses.stepping.toNat
  if !formatOk f then 3
  else if sha384 (slotBytes f 64 97) ≠ d.fuses.keyHash then 4
  else if step / 256 ≠ own / 256 || step % 256 > own % 256 then 5
  else if leNat (slotBytes f 14 2) < d.fuses.rollback then 6
  else if !slotSigned f then 7
  else 0

/-- One loaded match register is acceptable (R550). -/
def matchOk (m micro : Nat) : Bool :=
  bit m 31 && (bit m 30 || bit m 29) && bits m 28 23 == 0
    && !(decide (0x3E00 ≤ bits m 22 9) && decide (bits m 22 9 ≤ 0x3FFF)) && decide (bits m 8 0 < micro)

/-- A patch payload (Table BP-2). -/
structure Payload where
  micro : List Nat
  nano : List Nat
  regs : List Nat

/-- `n` entries of `k` bytes from an offset. -/
def entries (b : Bytes) (o k n : Nat) : List Nat := (List.range n).map fun i => fieldLE b (o + k * i) k

/-- The payload checks (R550): none where they fail. -/
def payloadOf (b : Bytes) : Option Payload :=
  let mc := fieldLE b 0 2
  let nc := fieldLE b 2 2
  let rc := fieldLE b 4 1
  let micro := entries b 16 4 mc
  let nano := entries b (16 + 4 * mc) 24 nc
  let regs := entries b (16 + 4 * mc + 24 * nc) 4 rc
  if mc ≤ 512 && nc ≤ 128 && rc ≤ 32 && b.length == 16 + 4 * mc + 24 * nc + 4 * rc && allZero (slice b 5 11)
      && micro.all (fun w => decide (w < 2 ^ 24)) && nano.all (fun w => decide (w < 2 ^ 191)) && regs.all (fun m => matchOk m mc) then
    some { micro := micro, nano := nano, regs := regs }
  else none

/-- Decryption under IMAGE_KEY and the payload checks of a slot that has passed its header checks: the reason and the payload. -/
def slotPayload (key f : Bytes) : Nat × Option Payload :=
  let iv := slotBytes f 32 12
  let body := slotBody f
  if !gcmAuthentic key (slotBytes f 0 32) iv body (slotBytes f 44 16) then (8, none)
  else match payloadOf (gcmPlain key iv body) with
    | some p => (0, some p)
    | none => (9, none)

/-- The slot of a number. -/
def slotNo (n : Nat) : Fin 2 := if n = 0 then 0 else 1

/-- The flash base of a slot. -/
def slotBase (s : Fin 2) : Nat := s.val * 0x10000

/-- Serow's transaction fault (R553, R557): the slot's base as address, the reason as access type. -/
def Dev.serowFault (d : Dev) (src : Source) (s : Fin 2) (reason : Nat) : Dev := d.raiseTrans src none 4 0 (slotBase s) reason

/-- Values that are not zero, with their indices. -/
def nonZero {w : Nat} (l : List Nat) : List (Nat × BitVec w) :=
  (l.zipIdx.filter fun p => p.1 != 0).map fun p => (p.2, BitVec.ofNat w p.1)

/-- The stores take a payload (R551); what it does not write is zero. -/
def Micro.load (m : Micro) (p : Payload) : Micro :=
  { m with patchWords := nonZero p.micro, patchNanos := nonZero p.nano
           matchRegs := Vector.ofFn fun i => BitVec.ofNat 32 (p.regs.getD i.val 0), patchHits := Vector.replicate 32 0 }

/-- The stores hold nothing (R552). -/
def Micro.clearStores (m : Micro) : Micro := m.load { micro := [], nano := [], regs := [] }

/-- The reason of a slot before it is tried: no flash, empty, or a header check (R549). -/
def Dev.slotReason (d : Dev) (flashOk : Bool) (s : Fin 2) : Nat :=
  let f := vget d.boot.flash s
  if !flashOk then 1 else if slotBytes f 0 16 = erased 16 then 2 else d.headerChecks f

/-- The slots that pass their header checks, the higher IMAGE_VERSION first, A before B when equal (R551). -/
def Dev.bootOrder (d : Dev) (reasonA reasonB : Nat) : List (Fin 2) :=
  let v := fun (s : Fin 2) => leNat (slotBytes (vget d.boot.flash s) 8 4)
  match reasonA, reasonB with
  | 0, 0 => if v 0 < v 1 then [1, 0] else [0, 1]
  | 0, _ => [0]
  | _, 0 => [1]
  | _, _ => []

/-- The first slot of the order whose payload is good, with the payload, and the reasons of those tried before it. -/
def tryOrder (key : Bytes) (flash : Vector Bytes 2) : List (Fin 2) → Option (Fin 2 × Payload) × List (Fin 2 × Nat)
  | [] => (none, [])
  | s :: rest =>
    match slotPayload key (vget flash s) with
    | (_, some p) => (some (s, p), [])
    | (r, none) => let (x, l) := tryOrder key flash rest; (x, (s, r) :: l)

/-- The anti-rollback counter advances to an SVN (R555): the fuse bits from ROLLBACK_COUNT up are blown in order, as far as
`blow` of them can be. -/
def Dev.advanceRollback (d : Dev) (svn blow : Nat) : Dev :=
  let rb := d.fuses.rollback
  if svn ≤ rb then d
  else
    let blown := (List.range (min blow (svn - rb))).foldl (fun x i => setBit x (rb + i) true) d.fuses.rollbackFuses
    let d1 := { d with fuses := { d.fuses with rollbackFuses := blown } }
    if rb + blow < svn then d1.raiseTrans 119 none 4 0 0 0 else d1

/-- B3 (R549-R555): the slots are checked, one is loaded, and BOOT_STATUS and PATCH_INFO are written. -/
def Dev.bootB3 (d : Dev) (flashOk : Bool) (blow : Nat) : Dev :=
  let ra := d.slotReason flashOk 0
  let rb := d.slotReason flashOk 1
  let order := d.bootOrder ra rb
  let tried := tryOrder d.fuses.imageKey d.boot.flash order
  let why := fun (s : Fin 2) (r : Nat) => match tried.2.find? fun p => p.1 == s with | some p => p.2 | none => r
  let fa := why 0 ra
  let fb := why 1 rb
  let d1 := if fa != 0 && fa != 2 then d.serowFault 116 0 fa else d
  let d2 := if fb != 0 && fb != 2 then d1.serowFault 116 1 fb else d1
  match tried.1 with
  | none =>
    ({ d2 with micro := d2.micro.clearStores
               boot := { flash := d.boot.flash, outcome := 3, slot := 3, reasonA := fa, reasonB := fb } }.raiseDev 118)
  | some (s, p) =>
    let f := vget d.boot.flash s
    let first := order.head? == some s
    let svn := leNat (slotBytes f 14 2)
    let d3 := { d2 with micro := d2.micro.load p
                        boot := { flash := d.boot.flash, outcome := if first then 1 else 2, slot := s.val, reasonA := fa, reasonB := fb
                                  version := leNat (slotBytes f 8 4), patchLevel := leNat (slotBytes f 12 2), svn := svn
                                  microCount := p.micro.length, nanoCount := p.nano.length, matchCount := p.regs.length } }
    if !first then d3.raiseTrans 117 none 4 0 (slotBase s) 0
    else if bit (leNat (slotBytes f 16 4)) 0 then d3.advanceRollback svn blow
    else d3

/-! ### Flash update (R556-R558) -/

/-- The inactive slot (R556). -/
def Dev.inactiveSlot (d : Dev) : Fin 2 := if d.boot.slot = 0 then 1 else 0

/-- An update ends in failure: the slot is left empty and FS-120 names the reason (R557, R558). -/
def Dev.updateFails (d : Dev) (u : FlashUpd) (reason : Nat) : Dev :=
  let header := vget d.boot.flash u.slot
  { d with boot := { d.boot with
      update := none, updState := 4, updReason := reason
      flash := vmod d.boot.flash u.slot fun _ => erased 4096 ++ header.drop 4096 } }.serowFault 120 u.slot reason

/-- The last byte has been received: checks 3 to 9 on the held header and the body as programmed (R557). -/
def Dev.updateEnds (d : Dev) (u : FlashUpd) : Dev × Nat :=
  let f := u.header ++ (vget d.boot.flash u.slot).drop 4096
  let h := d.headerChecks f
  let r := if h ≠ 0 then h else (slotPayload d.fuses.imageKey f).1
  if r = 0 then
    ({ d with boot := { d.boot with update := none, updState := 3, flash := vmod d.boot.flash u.slot fun _ => f } }, stOK)
  else (d.updateFails u r, stRange)

/-- The bytes of a block enter the update: the header is held, the rest programmed (R557). -/
def Dev.updateBytes (d : Dev) (u : FlashUpd) (data : Bytes) : Dev × Nat :=
  let h := data.take (4096 - min 4096 u.next)
  let b := data.drop h.length
  let u1 := { u with header := u.header ++ h, next := u.next + data.length }
  let d1 := { d with boot := { d.boot with
    update := some u1, updState := 1, flash := vmod d.boot.flash u.slot fun f => if b.isEmpty then f else f ++ b } }
  if u1.next = u1.total then d1.updateEnds u1 else (d1, stOK)

/-- The update in progress is abandoned (R556): none is then in progress, and none has failed (notes/assumptions/33). -/
def Dev.abandonUpdate (d : Dev) : Dev :=
  if d.boot.update.isSome then { d with boot := { d.boot with update := none, updState := 0 } } else d

/-- A block of FLASH_UPDATE (R556-R558): the status. With no usable flash the erase does not complete. -/
def Dev.flashBlock (d : Dev) (offset total : Nat) (data : Bytes) : Dev × Nat :=
  let abandon := d.abandonUpdate
  if offset = 0 then
    if total < 4112 || total > 65536 || data.length > total then (abandon, stRange)
    else
      let u : FlashUpd := { slot := d.inactiveSlot, total := total, next := 0, header := [] }
      if d.boot.reasonA = 1 then (d.updateFails u 10, stRange)
      else
        let d1 := { d with boot := { d.boot with flash := vmod d.boot.flash u.slot fun _ => erased 4096 } }
        d1.updateBytes u data
  else match d.boot.update with
    | none => (abandon, stRange)
    | some u =>
      if offset ≠ u.next || total ≠ u.total || offset + data.length > total then (abandon, stRange)
      else d.updateBytes u data

/-- FLASH_WRITE_TIMEOUT (R558): the erase or program of the block being served does not complete; the block is answered
RANGE. -/
def Dev.flashTimeout (d : Dev) : Dev :=
  match d.boot.update with
  | none => d
  | some u => (d.updateFails u 10).send (.itemStatus .mgmt 0x1702 0 stRange)

/-- BOOT_STATUS (Table BP-4). -/
def Boot.status (b : Boot) : Nat :=
  b.outcome + 16 * b.slot + 256 * b.reasonA + 4096 * b.reasonB + 2 ^ 16 * b.updState + 2 ^ 20 * b.updReason

/-- PATCH_INFO (R561). -/
def Boot.patchInfo (b : Boot) : Bytes :=
  natBE 4 b.version ++ natBE 2 b.patchLevel ++ natBE 2 b.svn ++ natBE 2 b.microCount ++ natBE 2 b.nanoCount
    ++ natBE 1 b.matchCount ++ natBE 1 (if b.outcome = 3 then 0xFF else b.slot) ++ [0, 0]

/-- FLASH_WRITE_TIMEOUT (R558). -/
def execFlashWriteTimeout (s : State) : Host.Outcome State Fault Refusal := .next { s with dev := s.dev.flashTimeout }

end Sys2Proof.Machine
end

