-- ==== Sys2Proof/Machine/Cal.lean ====
section
/-! DEFINITION. Calibration procedures (R296-R310), the reference sensor and re-application (R313-R316), and the archive
with its lifetime counters (R324-R330). -/
namespace Sys2Proof.Machine

/-! ### Records -/

/-- The tenant of a requester code: none for management (8). -/
def whoTenant (who : Fin 9) : Option Tenant := tenantOf who.val

/-- A requester as the code of CAL_REQ's sub-index. -/
def reqWho : Req → Fin 9
  | .tenant t => ⟨t.val, by omega⟩
  | .mgmt => 8

/-- A calibration record: to the requesting tenant and to the management plane. -/
def Dev.calRecord (d : Dev) (who : Fin 9) (type source : Nat) (payload : Bytes) : Dev :=
  match whoTenant who with
  | some t => d.emitTenant t true type source d.now payload
  | none => d.emitMgmt type source d.now payload

/-- CAL_DONE (R309). -/
def Dev.calDone (d : Dev) (who : Fin 9) (code outcome reason accepted kept epoch : Nat) : Dev :=
  d.calRecord who 0x06 (0x6000 + code)
    (natLE 1 code ++ natLE 1 outcome ++ natLE 1 reason ++ natLE 1 accepted ++ natLE 1 kept ++ [0, 0, 0] ++ natLE 4 epoch)

/-- CAL_DISAGREE (R300). -/
def Dev.calDisagree (d : Dev) (who : Fin 9) (code : Nat) (ch : Chan) (item attempts spread tolerance : Nat) : Dev :=
  d.calRecord who 0x07 (0x3000 + ch.val)
    (natLE 1 code ++ natLE 1 ch.val ++ natLE 1 item ++ natLE 1 attempts ++ natLE 4 spread ++ natLE 4 tolerance)

/-! ### Requests (R301, R302) -/

/-- The mask of a list of channels. -/
def chanMask (cs : List Chan) : BitVec 52 := cs.foldl (fun m c => setBit m c.val true) 0

/-- The channels of a mask, ascending. -/
def maskChans (m : BitVec 52) : List Chan := allChans.filter fun c => m.getLsbD c.val

/-- Items of each step: SC1-SC4, RT1-RT4 (Tables CA-4, CA-5). -/
def stepItems (step : Nat) : List Nat :=
  match step with
  | 1 => [4, 5, 6] | 2 => [0] | 3 => [3] | 4 => [1, 2]
  | 0x11 => [7] | 0x12 => [2] | 0x13 => [1] | 0x14 => [0, 3, 4, 5, 6]
  | _ => []

/-- The parts in which an item is measured. -/
def itemParts (code item : Nat) : List Nat :=
  match item with
  | 0 => [0, 1] | 1 => [0, 1] | 4 => [0, 1] | 5 => [0, 1]
  | 2 => if code = 2 then [0, 1, 2, 3, 4] else [0]
  | _ => [0]

/-- Elements of a measurement (R296). -/
def itemElements (item : Nat) : Nat := if item = 0 then 160 else if item = 3 then 128 else 1

/-- A lock is held by a requester: 0 the reference chain, 1 REFEDGE. -/
def Dev.holdsLock (d : Dev) (k : Fin 34) (r : Req) : Bool := (vget d.mgmt.locks k).holder == some r

/-- Change CAL_RESULT of a requester. -/
def Dev.modResult (d : Dev) (who : Fin 9) (f : CalResult → CalResult) : Dev :=
  { d with cal := { d.cal with results := vmod d.cal.results who f } }

/-- A procedure has ended: its code leaves the procedure register. -/
def Dev.dropProc (d : Dev) (code : Nat) : Dev :=
  { d with micro := { d.micro with procReg := d.micro.procReg.erase code } }

/-- A procedure abandoned (R307): the reason in R307's order, 1 to 7. -/
def Dev.abandonProc (d : Dev) (reason : Nat) : Dev :=
  match d.cal.proc with
  | none => d
  | some p =>
    let d1 := Dev.dropProc { d with cal := { d.cal with proc := none }, modes := { d.modes with dcHouse := 0 } } p.code
    let d2 := d1.modResult p.who fun r => { r with state := 4, reason := reason, frames := p.frames }
    (d2.raiseTrans 107 (whoTenant p.who) 0 8 0 0).calDone p.who p.code 4 reason 0 0 0

/-- DC conversions that step SC1 asks for as it begins (R305): each calibration-bus level once, and HI and LO of each channel
named with SWING in its first attempt. The manual states no count of bus levels; two are taken (notes/assumptions/20). -/
def scConversions (items : Nat) (chans : List Chan) : Nat :=
  (if bit items 4 || bit items 5 then 2 else 0) + (if bit items 6 then 2 * chans.length else 0)

/-- The requester may name the channels of a CAL_REQ (R302): its own, or for management spare, retired and disabled ones. -/
def Dev.calRight (d : Dev) (r : Req) (v : Bytes) : Bool :=
  fieldBE v 0 1 == 0xFF || (maskChans (BitVec.ofNat 52 (fieldBE v 4 7))).all fun c => match r with
    | .tenant t => d.chOwner c == some t
    | .mgmt => let st := (vget d.chans c).st; st == .spare || st == .retired || st == .disabled

/-- A write of CAL_REQ (R301, R302): the status. Its rights have been judged in the order of R341 (`Dev.valueRight`). -/
def Dev.calReq (d : Dev) (r : Req) (v : Bytes) : Dev × Nat :=
  let who := reqWho r
  let code := fieldBE v 0 1
  let opts := fieldBE v 1 1
  let items := fieldBE v 2 2
  let chans := fieldBE v 4 7
  if opts ≥ 4 || items ≥ 128 || chans ≥ 2 ^ 52 || fieldBE v 11 5 ≠ 0 then (d, stRange)
  else if code = 0xFF then
    match d.cal.proc with
    | some p => if p.who = who then (d.abandonProc 6, stOK) else (d, stOK)
    | none => (d, stOK)
  else
    let cs := maskChans (BitVec.ofNat 52 chans)
    let rt := decide (code = 2)
    let mode := match r with | .tenant t => vget d.modes.mode t | .mgmt => 0
    let isMgmt := decide (r = .mgmt)
    if chans = 0 || (items = 0 && !rt) || (code ≠ 1 && code ≠ 2) then (d, stRange)
    else if (!isMgmt && mode != (if rt then 8 else 7)) || (isMgmt && rt) then (d, stMode)
    else if d.cal.proc.isSome then (d, stMode)
    else if d.heater.state = 2 || d.cal.clamped then (d, stMode)
    else if rt && d.tb.trace != 0 then (d, stMode)
    else if !d.holdsLock 0 r || (rt && !d.holdsLock 1 r) then (d, stLocked)
    else
      let all := if rt then 0x7F else items
      let p : Proc := { who := who, code := code, autoCommit := bit opts 0, allOrNothing := bit opts 1, items := all
                        chans := BitVec.ofNat 52 chans, step := if rt then 0x11 else 1 }
      let d1 := { d with cal := { d.cal with proc := some p }
                         modes := { d.modes with dcHouse := d.modes.dcHouse + if rt then 0 else scConversions all cs } }.queueProc code
      (d1.modResult who fun _ => { proc := code, state := 1, step := p.step }, stOK)

/-! ### Agreement (R297-R299) -/

/-- The tolerance of an item. -/
def Cfg.tolerance (c : Cfg) (item : Nat) : Q :=
  if item = 4 || item = 5 then c.q 0x6004 1 else if item = 6 then c.q 0x6004 2 else c.q 0x6004 0

/-- Units of an item in a second or a volt: fs for timing items, uV for the others. -/
def itemScale (item : Nat) : Nat := if item = 4 || item = 5 || item = 6 then 10 ^ 6 else 10 ^ 15

/-- The largest difference of two attempts; none where an attempt had no edge. -/
def spreadOf (a b : List Int) : Option Nat :=
  if a.isEmpty || b.isEmpty then none
  else some (((a.zip b).map fun p => (p.1 - p.2).natAbs).foldl Nat.max 0)

/-- The first earlier attempt that agrees with the last one: its sum with it, and their difference. -/
def agreeing (tol : Q) (scale : Nat) (earlier : List (List Int)) (last : List Int) : Option (List Int × Nat) :=
  earlier.findSome? fun a =>
    match spreadOf a last with
    | some s => if (Q.mk s scale).le tol then some ((a.zip last).map fun p => p.1 + p.2, s) else none
    | none => none

/-- The smallest spread between any two attempts, or 0x7FFF_FFFF. -/
def smallestSpread : List (List Int) → Nat
  | [] => 0x7FFFFFFF
  | a :: l => l.foldl (fun m b => match spreadOf a b with | some s => min m s | none => m) (smallestSpread l)

/-- A tolerance as R300 carries it. -/
def Cfg.toleranceUnits (c : Cfg) (item : Nat) : Nat :=
  let q := c.tolerance item
  (roundDiv (q.num * itemScale item) q.den).toNat

/-- A measurement has the form of its item. -/
def Measured.ok (m : Measured) : Bool :=
  (m.values.isEmpty || m.values.length == itemElements m.item.val)
    && (if m.item = 4 then m.sel.length == 12 && decide (fieldLE m.sel 0 1 ≤ 11) && decide (fieldLE m.sel 1 1 ≤ 11)
        else if m.item = 6 then m.sel.length == 20 else true)

/-! ### Results (SC5) -/

/-- fs to 1/16 fine step, of twice a mean (R290: 10^6 / 229,376 fs each). -/
def unitsOfFs (sum2 : Int) : Int := roundDiv (sum2 * 229376) 2000000

/-- The index in `[lo, hi]` whose delay is nearest the target; the lowest of equals. -/
def nearestTap (d : List Int) (target : Int) (lo hi : Nat) : Nat :=
  ((List.range (hi + 1 - lo)).foldl (fun (best : Nat × Nat) k =>
    let e := (d.getD (lo + k) 0 - target).natAbs
    if e < best.2 then (lo + k, e) else best) (lo, (d.getD lo 0 - target).natAbs)).1

/-- The taps of one base, with their largest error (R295). -/
def tapsFor (d : List Int) (r base : Nat) : List Nat × Nat :=
  (List.range 128).foldl (fun (acc : List Nat × Nat) (k : Nat) =>
    let target : Int := d.getD 0 0 + (r + 16 * k + 16 * base : Nat)
    let lo := match acc.1.getLast? with | some p => p + 1 | none => 0
    let i := nearestTap d target lo (159 - (127 - k))
    (acc.1 ++ [i], Nat.max acc.2 (d.getD i 0 - target).natAbs)) ([], 0)

/-- The selection with the smallest largest error over the 32 bases; none where that exceeds 250 fs (R295). -/
def selectTaps (d : List Int) (r : Nat) : Option (List Nat) :=
  let best := (List.range 32).foldl (fun (b : List Nat × Nat) base =>
    let x := tapsFor d r base
    if b.1.isEmpty || decide (x.2 < b.2) then x else b) ([], 0)
  if best.2 * 1000000 ≤ 250 * 229376 then some best.1 else none

/-- The accepted item of a channel. -/
def Proc.item (p : Proc) (ch : Chan) (item part : Nat) : Option CalItem :=
  p.accepted.find? fun i => i.ch == ch && i.item == item && i.part == part

/-- The drive skew of a direction in a new block, 1/16 fine step. -/
def Proc.newSkew (p : Proc) (ch : Chan) (base : Bytes) (part : Nat) : Int :=
  match p.item ch 1 part with
  | some i => unitsOfFs (i.sum.getD 0 0)
  | none => toSigned 32 (fieldLE base (256 + 4 * part) 4)

/-- Square of the standard error of an accepted mean (R306), in s^2 for timing items. -/
def CalItem.uSq (i : CalItem) (samples : Nat) : Q :=
  (Q.mk (i.diff * i.diff) (4 * 10 ^ 30)).max ⟨i.sigma * i.sigma, 2 * samples * 10 ^ 30⟩

/-- The taps of a direction in the new block: none keeps the old ones; `false` where no selection meets R295. -/
def Proc.newTaps (p : Proc) (ch : Chan) (base : Bytes) (part : Nat) : Option (Option (List Nat)) :=
  match p.item ch 0 part with
  | some i => some (selectTaps (i.sum.map unitsOfFs) ((p.newSkew ch base part) % 16).toNat)
  | none => none

/-- Uncertainties of a Reference Transfer (R306): U_RX and U_DRV squared. -/
def Dev.rtUncertainty (d : Dev) (p : Proc) (ch : Chan) : Q × Q :=
  let c := d.dict.cfg
  let n := c.nat 0x6004 4
  let u := fun (i : Option CalItem) => match i with | some x => x.uSq n | none => (⟨0, 1⟩ : Q)
  let ub := match p.accepted.find? fun i => i.item == 7 with | some x => x.uSq n | none => ⟨0, 1⟩
  let rx := (((c.q 0x6034 1).sq.add (c.q 0x6032 ch.val).sq).add ub).add (u (p.item ch 2 0))
  let drv := (rx.add (c.q 0x6033 ch.val).sq).add ((u (p.item ch 1 0)).max (u (p.item ch 1 1)))
  (rx, drv)

/-- One patch of the block for an accepted item. DAC_GAIN in ppm is not given by the measurement: a free value. -/
def Dev.patchItem (d : Dev) (b : Bytes) (i : CalItem) : Dev × Bytes :=
  let v := i.sum.getD 0 0
  match i.item with
  | 1 => (d, patchBytes b (256 + 4 * i.part) (natLE 4 (unitsOfFs v).toNat))
  | 2 => if i.part = 0 then (d, patchBytes b 284 (natLE 4 (ofSigned 32 (unitsOfFs v))))
         else (d, patchBytes b (286 + 2 * i.part) (natLE 2 (ofSigned 16 (unitsOfFs v))))
  | 3 => (d, patchBytes b 296 (i.sum.map fun s => BitVec.ofNat 8 (ofSigned 8 (max (-128) (min 127 (unitsOfFs s))))))
  | 4 =>
    let off := natLE 2 (ofSigned 16 (roundDiv (v * 64) 2000))
    let b1 := patchBytes b (424 + i.part) (slice i.sel i.part 1)
    (d, patchBytes (patchBytes b1 (428 + 4 * i.part) (slice i.sel (4 + 4 * i.part) 4)) (436 + 2 * i.part) off)
  | 5 => let f := d.free; (f.2, patchBytes b (440 + 2 * i.part) (natLE 2 f.1.toNat))
  | 6 => (d, patchBytes (patchBytes b 264 i.sel) 278 (zeros 2))
  | _ => (d, b)

/-- A free uncertainty (Table CA-1 U_INL, U_RX_LIN, U_THR): the manual gives no formula. -/
def Dev.freeField (d : Dev) (b : Bytes) (o : Nat) : Dev × Bytes := let f := d.free; (f.2, patchBytes b o (natLE 8 f.1.toNat))

/-- The result of a channel (SC5): none where R293 or R295 keeps its corrections. -/
def Dev.channelResult (d : Dev) (p : Proc) (ch : Chan) : Dev × Option Bytes :=
  let base := d.block ch
  let skewBad := [0, 1].any fun k => let s := p.newSkew ch base k; decide (s < 0) || decide (262144 < s)
  let taps := [0, 1].map fun k => p.newTaps ch base k
  let tapsBad := taps.any fun t => match t with | some none => true | _ => false
  if skewBad || tapsBad then (d.raiseTrans 104 (d.chOwner ch) 0 8 ch.val 0, none)
  else
    let b0 := (taps.zipIdx).foldl (fun b t => match t.1 with
      | some (some l) => patchBytes b (128 * t.2) (l.map fun n => BitVec.ofNat 8 n)
      | _ => b) base
    let r := (p.accepted.filter fun i => i.ch == ch).foldl (fun (acc : Dev × Bytes) i => acc.1.patchItem acc.2 i) (d, b0)
    let r1 := if bit p.items 0 then r.1.freeField r.2 464 else r
    let r2 := if bit p.items 3 then r1.1.freeField r1.2 472 else r1
    let r3 := if bit p.items 4 || bit p.items 5 then r2.1.freeField r2.2 480 else r2
    let flags := (fieldLE base 444 4 &&& 0x2) ||| 5 ||| (if p.code = 2 then 2 else 0)
    let b1 := patchBytes (patchBytes r3.2 444 (natLE 4 flags)) 488 (timeLE d.now)
    let u := d.rtUncertainty p ch
    let b2 := if p.code = 2 then
        patchBytes (patchBytes b1 448 (natLE 8 (f64Sqrt u.2).toNat)) 456 (natLE 8 (f64Sqrt u.1).toNat)
      else b1
    (r3.1, some b2)

/-- The computation: results staged, CAL_DONE with outcome 2 unless AUTO_COMMIT lands them (R308, R309). -/
def Dev.finishProc (d : Dev) (p : Proc) : Dev :=
  let step := fun (acc : Dev × List (Chan × Bytes × Bytes) × BitVec 52) (ch : Chan) =>
    let base := acc.1.block ch
    if p.kept.getLsbD ch.val then
      (acc.1, acc.2.1 ++ [(ch, base, patchBytes base 444 (natLE 4 (fieldLE base 444 4 ||| 8)))], acc.2.2)
    else
      let r := acc.1.channelResult p ch
      match r.2 with
      | some b => (r.1, acc.2.1 ++ [(ch, base, b)], acc.2.2)
      | none => (r.1, acc.2.1, setBit acc.2.2 ch.val true)
  let r := (maskChans p.chans).foldl step (d, [], p.kept)
  let acc := p.chans &&& ~~~r.2.2
  let p1 := { p with staged := true, step := 5, results := r.2.1, kept := r.2.2, meas := [] }
  let d1 := Dev.dropProc { r.1 with cal := { r.1.cal with proc := some p1 } } p.code
  let d2 := d1.modResult p.who fun x => { x with state := 2, step := 5, accepted := acc, kept := r.2.2, frames := p.frames }
  if p.autoCommit then d2
  else d2.calDone p.who p.code 2 0 (popCount acc.toNat 52) (popCount r.2.2.toNat 52) 0

/-- Measurements of a step that are still to be accepted. -/
def Proc.outstanding (p : Proc) (step : Nat) : List (Nat × Nat × Chan) :=
  let items := (stepItems step).filter fun i => i == 7 || bit p.items i
  let chans := (maskChans p.chans).filter fun c => !p.kept.getLsbD c.val
  items.flatMap fun i => (itemParts p.code i).flatMap fun k =>
    (if i = 7 then chans.take 1 else chans).filterMap fun c =>
      if i = 7 && p.accepted.any (fun x => x.item == 7) then none
      else if (p.item c i k).isSome then none else some (i, k, c)

/-- The next step that has something to measure, or SC5. -/
def Proc.nextStep (p : Proc) : Nat → Nat → Nat
  | 0, _ => 5
  | n + 1, step =>
    if step = 5 || step ≥ 0x15 then 5
    else if (p.outstanding step).isEmpty then p.nextStep n (step + 1) else step

/-- The procedure moves on once its step is complete. -/
def Dev.advanceProc (d : Dev) (p : Proc) : Dev :=
  let s := p.nextStep 6 p.step
  if s = 5 then d.finishProc p
  else
    let p1 := { p with step := s }
    let more := if s = 0x14 && p.step != 0x14 then scConversions p.items ((maskChans p.chans).filter fun c => !p.kept.getLsbD c.val) else 0
    ({ d with cal := { d.cal with proc := some p1 }, modes := { d.modes with dcHouse := d.modes.dcHouse + more } }).modResult p.who
      fun r => { r with step := s }

/-- A channel fails to agree (R298). -/
def Dev.disagree (d : Dev) (p : Proc) (m : Measured) (tries : List (List Int)) : Dev :=
  let d1 := d.calDisagree p.who p.code m.ch m.item.val tries.length (smallestSpread tries)
    (d.dict.cfg.toleranceUnits m.item.val)
  let d2 := if p.disagreed then d1 else d1.raiseTrans 96 (whoTenant p.who) 0 8 m.ch.val 0
  let p1 := { p with
    disagreed := true, kept := setBit p.kept m.ch.val true, accepted := p.accepted.filter fun i => i.ch != m.ch
    meas := p.meas.filter fun x => x.ch != m.ch }
  if p.allOrNothing then ({ d2 with cal := { d2.cal with proc := some p1 } }).abandonProc 7
  else d2.advanceProc p1

/-- A further attempt of SWING asks for a conversion of each drive level again (R305). -/
def Dev.nextSwing (d : Dev) (m : Measured) : Dev :=
  if m.item = 6 then { d with modes := { d.modes with dcHouse := d.modes.dcHouse + 2 } } else d

/-- An item that Table CA-4 measures one channel at a time: the drive levels, and the skews of step SC4. -/
def serialItem (code item : Nat) : Bool := item == 6 || code == 1 && (item == 1 || item == 2)

/-- The measurement is outstanding, and an item taken one channel at a time is taken in ascending channel order (R304, R305). -/
def Proc.takes (p : Proc) (m : Measured) : Bool :=
  let l := p.outstanding p.step
  (l.any fun x => x.1 == m.item.val && x.2.1 == m.part.val && (x.2.2 == m.ch || m.item == 7))
    && (!serialItem p.code m.item.val || l.all fun x => !serialItem p.code x.1 || decide (m.ch.val ≤ x.2.2.val))

/-- An attempt in the running procedure (R297-R299). -/
def Dev.procAttempt (d : Dev) (p : Proc) (m : Measured) : Dev :=
  if !p.takes m then d
  else
    let mine := fun (x : CalMeas) => x.item == m.item.val && x.part == m.part.val && x.ch == m.ch
    let old := (p.meas.find? mine).getD { item := m.item.val, part := m.part.val, ch := m.ch }
    let put := fun (x : CalMeas) => { p with meas := x :: p.meas.filter fun y => !mine y }
    if m.short then
      let p1 := put { old with lost := old.lost + 1 }
      let d1 := { d with cal := { d.cal with proc := some p1 } }
      if old.lost + 1 ≥ 16 then d1.abandonProc 5 else d1.nextSwing m
    else
      let tries := old.tries ++ [m.values]
      match agreeing (d.dict.cfg.tolerance m.item.val) (itemScale m.item.val) old.tries m.values with
      | some (sum, diff) =>
        let item : CalItem := { ch := m.ch, item := m.item.val, part := m.part.val, sum := sum, diff := diff
                                sigma := m.sigma, sel := m.sel }
        d.advanceProc { p with accepted := p.accepted ++ [item], meas := p.meas.filter fun y => !mine y }
      | none =>
        if tries.length ≥ d.dict.cfg.nat 0x6004 3 then d.disagree p m tries
        else Dev.nextSwing { d with cal := { d.cal with proc := some (put { old with tries := tries }) } } m

/-- REFEDGE_FAIL (R306). -/
def Dev.refedgeFail (d : Dev) : Dev :=
  match d.cal.proc with
  | some p =>
    if p.code = 2 && p.step = 0x11 && !p.staged then
      let sc := ownerScope (whoTenant p.who)
      ((d.condRise 106 sc 0 []).condFall 106 sc).abandonProc 5
    else d
  | none => d

/-! ### Landings -/

/-- The kind of epoch advance that a staged procedure brings: 0 none, 1 minor, 2 major (R317). -/
def Proc.epochKind (p : Proc) : Nat := if p.code = 2 then 2 else 1

/-- Corrections of one channel land (R95, R308): each delta on every temperature set and on the block in force. -/
def Dev.landBlock (d : Dev) (ch : Chan) (base new : Bytes) : Dev :=
  let n := patchBytes new 500 (natLE 4 d.epoch)
  let cfg := d.liveSets.foldl (fun (c : Cfg) i =>
    c.insert (keyOf (0x6011 + i) ch.val) (applyDelta blockFields base (d.setBlock i ch) n)) d.dict.cfg
  let now := applyDelta blockFields base (d.block ch) n
  { d with dict := { d.dict with cfg := cfg }
           cal := { d.cal with corr := (ch.val, now) :: d.cal.corr.filter fun p => p.1 != ch.val, setsChanged := true } }

/-- A Landing that changes a temperature set makes a re-application fall due, a pending one anew (R314); under SENSOR_FAULT it
waits for the readings to agree (R316). -/
def Dev.reapplyAnew (d : Dev) : Dev :=
  if d.cal.reapplyDue then d else { d with cal := { d.cal with reapplyDue := true } }.queueProc 0x03

/-- The archive record of a Reference Transfer (R306, Table CA-8): RT_TIME and RT_EPOCH (notes/assumptions/16). -/
def Dev.rtPayload (d : Dev) : Bytes := timeLE d.cal.rtTime ++ natLE 4 d.cal.rtEpoch

/-- A staged procedure lands at step 2; the epoch has already advanced (R308, R309, R317). -/
def Dev.landProc (d : Dev) : Dev :=
  match d.cal.proc with
  | none => d
  | some p =>
    let d1 := p.results.foldl (fun (d : Dev) (x : Chan × Bytes × Bytes) => d.landBlock x.1 x.2.1 x.2.2) d
    let d2 := Dev.reapplyAnew { d1 with cal := { d1.cal with proc := none } }
    let d3 := if p.code = 2 then
        let c := { d2.cal with rtTime := d2.now, rtEpoch := d2.epoch }
        let d' := { d2 with cal := c }
        { d' with cal := { c with nvQueue := c.nvQueue ++ [.record 0x20 0 d'.rtPayload false 0] } }
      else d2
    let d4 := d3.modResult p.who fun r => { r with state := 3, epoch := d3.epoch }
    let acc := p.chans &&& ~~~p.kept
    d4.calDone p.who p.code 3 0 (popCount acc.toNat 52) (popCount p.kept.toNat 52) d4.epoch

/-! ### Reference sensor and re-application -/

/-- |T - T_APPLIED| has reached REAPPLY_STEP (R314). -/
def Dev.stepReached (d : Dev) : Bool :=
  (d.dict.cfg.q 0x6003 0).le (milli (d.cal.tSensor - d.cal.tApplied)).abs

/-- A re-application falls due (R314). -/
def Dev.reapplyFalls (d : Dev) : Dev :=
  if d.cal.sensorFault || d.cal.reapplyDue || d.cal.reapply.isSome then d
  else { d with cal := { d.cal with reapplyDue := true } }.queueProc 0x03

/-- SENSOR_READ (R313, R314, R316). -/
def Dev.sensorRead (d : Dev) (milliC : Int) (diff : Nat) : Dev :=
  let bad := decide (diff > 500)
  let run := if bad then 0 else d.cal.agreeRun + 1
  let fault := bad || (d.cal.sensorFault && decide (run < 16))
  let d0 := { d with cal := { d.cal with tSensor := milliC, tDiff := diff, agreeRun := min run 16, sensorFault := fault } }
  let d1 := if bad then d0.condRise 103 devScope 0 [] else if fault then d0 else d0.condFall 103 devScope
  let out := d1.outside milliC
  let d2 := { d1 with cal := { d1.cal with clamped := out } }
  let d3 := if out then d2.condRise 97 devScope 0 [] else d2.condFall 97 devScope
  if d3.stepReached then d3.reapplyFalls else d3

/-- REAPPLY_COMPUTED (R314): the blend waits for its edge. -/
def Dev.reapplyComputed (d : Dev) : Dev :=
  if d.cal.reapplyDue && !d.cal.sensorFault then
    { d with cal := { d.cal with reapplyDue := false, reapply := some 0 }
             micro := { d.micro with procReg := d.micro.procReg.filter fun c => c != 0x03 } }
  else d

/-- CAL_REAPPLY_LATE (R315): pending for REAPPLY_DEFER_MAX frames; it lands at the next edge whatever windows are open. -/
def Dev.reapplyLate (d : Dev) : Dev :=
  match d.cal.reapply with
  | some n =>
    if n + 1 ≥ d.dict.cfg.nat 0x6003 1 && !d.cal.reapplyLate then
      { d with cal := { d.cal with reapplyLate := true } }.raiseTrans 98 none 0 8 0 0
    else d
  | none => d

/-- A re-application lands at this edge (R315, R316). -/
def Dev.reapplyLands (d : Dev) : Bool := d.cal.reapply.isSome && !d.cal.sensorFault && (!d.quietOpen || d.cal.reapplyLate)

/-- One more frame pending. -/
def Dev.reapplyWait (d : Dev) : Dev :=
  { d with cal := { d.cal with reapply := d.cal.reapply.map fun n => min (n + 1) (d.dict.cfg.nat 0x6003 1 - 1) } }

/-- CAL_DUE (R323). -/
def Dev.calDueNow (d : Dev) : Dev :=
  let due := timeOfBE (d.dict.cfg.get 0x6110 4)
  if Time.toSub due ≠ 0 && decide (Time.toSub due < Time.toSub d.now) && !d.cal.due then
    { d with cal := { d.cal with due := true } }.condRise 105 devScope 0 []
  else d

/-- A Landing of RT_DUE (R323): DUE waits for the new time to pass (notes/assumptions/16). -/
def Dev.dueAnew (d : Dev) : Dev := Dev.condFall { d with cal := { d.cal with due := false } } 105 devScope

/-! ### The archive -/

/-- A set's header (R311). -/
def Dev.setHeader (d : Dev) (i : Nat) (h : SetHdr) : Bytes :=
  natLE 8 (f64OfQ (milli (setpoint d.fuses.gradeB i))).toNat ++ natLE 8 h.charTemp.toNat ++ natLE 1 h.source ++ zeros 3
    ++ natLE 4 h.epoch ++ timeLE h.time ++ zeros 28

/-- The payload of a set record (R325): header and 52 blocks. -/
def Dev.setPayload (d : Dev) (i : Nat) (h : SetHdr) : Bytes :=
  d.setHeader i h ++ (allChans.map fun c => d.setBlock i c).flatten

/-- The traceability record: CERT_ID, REF_ID and RT_DUE, each with its length first (notes/assumptions/16). -/
def Dev.tracePayload (d : Dev) : Bytes :=
  let c := d.dict.cfg
  let s := fun (b : Bytes) => natLE 1 b.length ++ b
  s (c.get 0x6110 0) ++ s (c.get 0x6110 1) ++ timeLE (timeOfBE (c.get 0x6110 4))

/-- The header of a copy (R325): TYPE, KEY, VERSION, LENGTH, SEQ, FLAGS and a reserved U16. -/
def ArchCopy.header (a : ArchCopy) : Bytes :=
  natLE 2 a.typ ++ natLE 1 a.key ++ natLE 1 a.version ++ natLE 4 a.payload.length ++ natLE 4 a.seq ++ natLE 2 a.flags ++ natLE 2 0

/-- The check word of a copy (R326): over the header and the payload. -/
def ArchCopy.crc (a : ArchCopy) : Nat := crc32c (a.header ++ a.payload)

/-- A copy passes its check (R326). -/
def ArchCopy.valid (a : ArchCopy) : Bool := a.check == a.crc

/-- A copy as it is stored: header, payload and check word, padded with zeros to a multiple of 64 bytes (R325). -/
def ArchCopy.stored (a : ArchCopy) : Bytes :=
  let r := a.header ++ a.payload ++ natLE 4 a.check
  r ++ zeros ((64 - r.length % 64) % 64)

/-- The place of a copy in the archive. -/
def ArchCopy.offset (a : ArchCopy) : Nat := Config.archOffset a.typ a.key a.copyB

/-- A copy with its right check word. -/
def ArchCopy.sealed (a : ArchCopy) : ArchCopy := { a with check := a.crc }

/-- A copy as the device writes it. -/
def archWrite (typ key : Nat) (copyB : Bool) (seq : Nat) (payload : Bytes) : ArchCopy :=
  ArchCopy.sealed { typ := typ, key := key, copyB := copyB, version := Config.archVersion % 256, seq := seq
                    flags := Config.archFlags % 65536, payload := payload, check := 0 }

/-- A counter block passes its check. -/
def LifeCtr.valid (c : LifeCtr) : Bool := c.check == crc32c (lifeBytes c.value c.seq)

/-- A journal entry passes its check. -/
def JournalEntry.valid (e : JournalEntry) : Bool := e.check == crc32c (journalBytes e.counter e.seq e.value)

/-- The copies of a record. -/
def Cal.copies (c : Cal) (typ key : Nat) : List ArchCopy := c.arch.filter fun a => a.typ == typ && a.key == key

/-- The copy a reader uses: valid, with the higher SEQ (R327). -/
def Cal.record (c : Cal) (typ key : Nat) : Option ArchCopy :=
  ((c.copies typ key).filter (·.valid)).foldl (fun (best : Option ArchCopy) a => match best with
    | some b => if b.seq < a.seq then some a else best
    | none => some a) none

/-- The set record whose sets a restore loads. -/
def restoreType (cmd : Nat) : Nat := if cmd = 3 then 0x10 else 0x11

/-- A write of ARCHIVE_CMD (R329): the status. -/
def Dev.archiveCmd (d : Dev) (v : Bytes) : Dev × Nat :=
  let code := fieldBE v 0 1
  if fieldBE v 1 7 ≠ 0 || code = 0 || code > 4 then (d, stRange)
  else if d.cal.proc.isSome || d.modes.device = 11 || d.cal.cmd.isSome then (d, stMode)
  else
    let c := { d.cal with cmd := some code, cmdStatus := 1 }
    let d1 := d.queueProc (0x0F + code)
    let trace : NvWrite := .record 0x21 0 d.tracePayload false 0
    if code = 1 then
      let sets := d.liveSets.map fun i =>
        let h : SetHdr := { ((d.cal.sets[i]?).getD {}) with source := 1, epoch := d.epoch, time := d.now }
        NvWrite.record 0x11 i (d.setPayload i h) false 0
      ({ d1 with cal := { c with nvQueue := c.nvQueue ++ sets ++ [.record 0x20 0 d.rtPayload false 0, trace]
                                 setsChanged := false } }, stOK)
    else if code = 4 then ({ d1 with cal := { c with nvQueue := c.nvQueue ++ [trace] } }, stOK)
    else ({ d1 with cal := { c with restoreDue := some code } }, stOK)

/-- An archive command ends: its status and CAL_DONE (R329). -/
def Dev.endArchive (d : Dev) (ok : Bool) (epoch : Nat) : Dev :=
  match d.cal.cmd with
  | none => d
  | some c =>
    let d1 := { d with cal := { d.cal with cmd := none, cmdStatus := if ok then 2 else 3 }
                       micro := { d.micro with procReg := d.micro.procReg.filter fun x => x != 0x0F + c } }
    d1.calDone 8 (0x0F + c) (if ok then 3 else 4) 0 0 0 epoch

/-- One set loaded from a record's payload: the header and the 52 blocks. -/
def Dev.loadSet (d : Dev) (i : Nat) (payload : Bytes) : Dev :=
  let cfg := allChans.foldl (fun (c : Cfg) ch => c.insert (keyOf (0x6011 + i) ch.val) (slice payload (64 + 512 * ch.val) 512))
    d.dict.cfg
  let h : SetHdr := { valid := true, charTemp := f64LE (slice payload 8 8), source := fieldLE payload 16 1
                      epoch := fieldLE payload 20 4
                      time := { sub := fieldLE payload 24 2, ns := fieldLE payload 26 4, sec := fieldLE payload 30 6 } }
  { d with dict := { d.dict with cfg := cfg }
           cal := { d.cal with sets := if hi : i < 4 then vmod d.cal.sets ⟨i, hi⟩ fun _ => h else d.cal.sets } }

/-- The restored sets at their edge (R329): every set index whose record is valid. -/
def Dev.restorable (d : Dev) : List (Nat × ArchCopy) :=
  match d.cal.restoreDue with
  | none => []
  | some code => (List.range (setCount d.fuses.gradeB)).filterMap fun i =>
      (d.cal.record (restoreType code) i).map fun a => (i, a)

/-- A restore lands; the epoch has already advanced when any set is restored (R317, R329). -/
def Dev.landRestore (d : Dev) : Dev :=
  if d.cal.restoreDue.isNone then d
  else
    let l := d.restorable
    let d1 := l.foldl (fun (d : Dev) p => d.loadSet p.1 p.2.payload) d
    let d2 := { d1 with cal := { d1.cal with restoreDue := none, setsChanged := false } }.applyBlend d1.cal.tSensor
    if l.isEmpty then { d with cal := { d.cal with restoreDue := none } }.endArchive false 0
    else d2.reapplyAnew.endArchive true d2.epoch

/-- The latest value and SEQ of a lifetime counter, queued updates included. -/
def Cal.lifeLast (c : Cal) (k : Fin 4) : Nat × Nat :=
  c.nvQueue.foldl (fun (p : Nat × Nat) w => match w with
    | .counter n s v => if n = k.val then (v, s) else p
    | _ => p) ((vget c.life k).value, (vget c.life k).seq)

/-- A lifetime counter goes up by one: its journal entry and its block wait for their pulses (R330). -/
def Cal.bumpLife (c : Cal) (k : Fin 4) : Cal :=
  let p := c.lifeLast k
  let seq := (p.2 + 1) % 2 ^ 32
  { c with nvQueue := c.nvQueue ++ [.journal k.val seq (p.1 + 1), .counter k.val seq (p.1 + 1)] }

/-- Put a copy in place of the old one. -/
def Cal.putCopy (c : Cal) (a : ArchCopy) : Cal :=
  { c with arch := a :: c.arch.filter fun b => !(b.typ == a.typ && b.key == a.key && b.copyB == a.copyB) }

/-- An archive command's records have all been written, or one has failed (R329). -/
def Dev.checkArchive (d : Dev) (failed : Bool) : Dev :=
  let left := d.cal.nvQueue.any fun w => match w with | .record .. => true | _ => false
  match d.cal.cmd with
  | some c =>
    if c = 2 || c = 3 then d
    else if failed then
      { d with cal := { d.cal with nvQueue := d.cal.nvQueue.filter fun w => match w with | .record .. => false | _ => true } }.endArchive
        false 0
    else if left then d else d.endArchive true 0
  | none => d

/-- A write pulse may begin (R281, R327, R582); in Stairs 5 and 6 what Tahr has counted waits for the exit (R330). -/
def Dev.pulseMayBegin (d : Dev) : Bool :=
  !d.quietOpen && !d.cal.pulse && (vget d.fc.src 9).actives == 0 && decide (d.stairs.now ≤ 4)

/-- NV_WRITE_PULSE (R327, R330): the oldest waiting write is made; whether it reads back right, and right once rewritten. -/
def Dev.nvWritePulse (d : Dev) (first second : Bool) : Dev :=
  if !d.pulseMayBegin then d
  else match d.cal.nvQueue with
    | [] => d
    | w :: rest =>
      let c := { d.cal with nvQueue := rest, pulse := true }
      match w with
      | .record typ key payload copyB seq0 =>
        let seq := if copyB then seq0 else (((c.copies typ key).map (·.seq)).foldl Nat.max 0 + 1) % 2 ^ 32
        let good := first || second
        let a := archWrite typ key copyB seq payload
        let f := d.free
        let c1 := (c.putCopy (if good then a else { a with check := a.crc ^^^ (f.1.toNat % (2 ^ 32 - 1) + 1) })).bumpLife 2
        if !good then
          ({ f.2 with cal := { c1 with nvStatus := c1.nvStatus ||| 4 } }.raiseTrans 102 none 4 0 typ 2).checkArchive true
        else if copyB then { d with cal := c1 }.checkArchive false
        else { d with cal := { c1 with nvQueue := .record typ key payload true seq :: c1.nvQueue } }
      | .checkpoint major ceiling cont => { d with cal := { c with checkpoints := ((major, ceiling, cont) :: c.checkpoints).take 448 } }
      | .journal k seq v => { d with cal := { c with journal := (({ counter := k, seq := seq, value := v } : JournalEntry) :: c.journal).take 64 } }
      | .counter k seq v =>
        { d with cal := { c with life := if h : k < 4 then vmod c.life ⟨k, h⟩ fun _ => { value := v, seq := seq } else c.life } }

/-- One record is checked (R328): bad copies are rewritten from the valid one, with FS-099 for each; none valid is FS-100. -/
def Dev.checkRecord (d : Dev) (typ key : Nat) : Dev :=
  let cs := d.cal.copies typ key
  let bad := cs.filter fun a => !a.valid
  let note := fun (d : Dev) (n : BitVec 4) => { d with cal := { d.cal with nvStatus := d.cal.nvStatus ||| n } }
  match d.cal.record typ key with
  | some good =>
    bad.foldl (fun (d : Dev) a =>
      note ({ d with cal := (d.cal.putCopy { good with copyB := a.copyB }).bumpLife 2 }.raiseTrans 99 none 4 0 typ 1) 1) d
  | none => if cs.isEmpty then d else note (d.raiseTrans 100 none 4 0 typ 1) 2

/-- The valid journal entry of a counter with the highest SEQ (R330). -/
def Cal.journalLast (c : Cal) (k : Fin 4) : Option JournalEntry :=
  (c.journal.filter fun e => e.counter == k.val && e.valid).foldl (fun (best : Option JournalEntry) e => match best with
    | some b => if b.seq < e.seq then some e else best
    | none => some e) none

/-- One lifetime counter is checked against the journal (R330). Its value is free where neither holds. -/
def Dev.checkLife (d : Dev) (k : Fin 4) : Dev :=
  let c := vget d.cal.life k
  let set := fun (d : Dev) (x : LifeCtr) => { d with cal := { d.cal with life := vmod d.cal.life k fun _ => x } }
  match d.cal.journalLast k with
  | some e =>
    if !c.valid || c.seq < e.seq then
      let d1 := (set d { value := e.value, seq := e.seq }).raiseTrans 101 none 4 0 k.val 1
      { d1 with cal := { d1.cal.bumpLife 3 with nvStatus := d1.cal.nvStatus ||| 8 } }
    else d
  | none => if c.valid then d else let (v, d1) := d.free; set d1 { value := v.toNat, seq := c.seq }

/-- The types of archive records with two copies (R325), in the order of ARCHIVE_DIR, with their keys. -/
def archTypes : List (Nat × Nat) :=
  [(0x01, 0), (0x10, 0), (0x10, 1), (0x10, 2), (0x10, 3), (0x11, 0), (0x11, 1), (0x11, 2), (0x11, 3), (0x12, 0), (0x20, 0), (0x21, 0)]

/-- The archive is checked (R328, R330): at B2, and on exit from Stair 6 (R489). The counters come first, the roll-forward counter
before those whose roll-forwards it counts, since a copy that is rewritten is counted too. -/
def Dev.checkArchiveAll (d : Dev) : Dev :=
  archTypes.foldl (fun (d : Dev) p => d.checkRecord p.1 p.2) ([3, 0, 1, 2].foldl (fun (d : Dev) k => d.checkLife k) d)

/-- LIFETIME_HOUR (R330): powered hours (0) or heater hours (1). -/
def Dev.lifetimeHour (d : Dev) (k : Fin 2) : Dev := { d with cal := d.cal.bumpLife ⟨k.val, by omega⟩ }

/-! ### What the dictionary reads -/

/-- CAL_STATUS. -/
def Dev.calStatus (d : Dev) : Nat :=
  let factory := allChans.any fun c => (vget d.chans c).st == .inService && bit (fieldLE (d.block c) 444 4) 4
  let run := match d.cal.proc with | some p => !p.staged | none => false
  let staged := match d.cal.proc with | some p => p.staged | none => false
  ofBool (d.heater.state == 2) + 2 * ofBool d.cal.clamped + 4 * ofBool run + 8 * ofBool staged
    + 16 * ofBool (d.cal.reapplyDue || d.cal.reapply.isSome) + 32 * ofBool factory + 64 * ofBool d.cal.due
    + 128 * ofBool d.cal.sensorFault

/-- CAL_RESULT (R310). -/
def CalResult.bytes (r : CalResult) : Bytes :=
  natBE 1 r.proc ++ natBE 1 r.state ++ natBE 1 r.reason ++ natBE 1 r.step ++ natBE 7 r.accepted.toNat ++ natBE 7 r.kept.toNat
    ++ [0, 0] ++ natBE 4 r.epoch ++ natBE 4 r.frames ++ zeros 4

/-! ### Meanings -/

/-- REFEDGE_FAIL (R306). -/
def execRefedgeFail (s : State) : Host.Outcome State Fault Refusal := .next { s with dev := s.dev.refedgeFail }

/-- SENSOR_READ (R314). -/
def execSensorRead (milliC : Int) (diff : Nat) (s : State) : Host.Outcome State Fault Refusal :=
  .next { s with dev := s.dev.sensorRead milliC diff }

/-- REAPPLY_COMPUTED (R314). -/
def execReapplyComputed (s : State) : Host.Outcome State Fault Refusal := .next { s with dev := s.dev.reapplyComputed }

/-- CAL_REAPPLY_LATE (R315). -/
def execCalReapplyLate (s : State) : Host.Outcome State Fault Refusal := .next { s with dev := s.dev.reapplyLate }

/-- CAL_DUE (R323). -/
def execCalDue (s : State) : Host.Outcome State Fault Refusal := .next { s with dev := s.dev.calDueNow }

/-- NV_WRITE_PULSE (R327); what it writes changes ARCHIVE_IMAGE (R357). -/
def execNvWritePulse (first second : Bool) (s : State) : Host.Outcome State Fault Refusal :=
  let d := s.dev.nvWritePulse first second
  .next { s with dev := if d.cal.pulse && !s.dev.cal.pulse then { d with dict := d.dict.bumpGen 0x610200 } else d }

/-- LIFETIME_HOUR (R330). -/
def execLifetimeHour (counter : Fin 2) (s : State) : Host.Outcome State Fault Refusal :=
  .next { s with dev := s.dev.lifetimeHour counter }

end Sys2Proof.Machine
end

