-- ==== Sys2Proof/Machine/Channels.lean ====
section
/-! DEFINITION. Pin channels (chapter 3): what the receive and drive lanes report, retirement and re-admission, and the
channel map at a frame edge (R86-R97). -/
namespace Sys2Proof.Machine

/-! ### Re-admission ends without a join -/

/-- A re-admission is abandoned (R96): the reason of Table PC-7 and the fault source, 0xFFFF for none. -/
def Dev.readmitFail (d : Dev) (ch : Chan) (reason fs : Nat) : Dev :=
  let c := vget d.chans ch
  match c.readmit with
  | none => d
  | some a =>
    let owner := match a.pin with | some p => d.dict.cfg.pinOwner p | none => none
    let d1 := d.modChan ch fun x => { x with
      readmit := none, st := if a.wasHeld && x.map.isSome then .held else .retired }
    (d1.channelAdmit 0x05 ch a.pin none a.cause fs reason).raiseTrans 70 owner 0 8 ch.val 0

/-- The channel is in re-admission: RECAL or PENDING_JOIN. -/
def Channel.readmitting (c : Channel) : Bool := c.st == .recal || c.st == .pendingJoin

/-- A fault of FS-064 to FS-069 rises on a channel (R89, R96, R570). -/
def Dev.channelFault (d : Dev) (src : Source) (ch : Chan) : Dev :=
  let d1 := d.faultCondition src (.channel ch)
  if (vget d.chans ch).readmitting then d1.readmitFail ch 2 src.val else d1

/-! ### What lanes report -/

/-- The crossings of a comparator in a slot, from the differential input of the lane (R74): the fine offsets at which its level
changes, and the level at the end. Within the overdrive band the decision is a free value (R631). -/
def Dev.decideSlot (d : Dev) (ch : Chan) (high : Bool) : Bool → List (Fin 128 × Int) → Dev × List Nat × Bool
  | level, [] => (d, [], level)
  | level, (f, v) :: l =>
    let (d1, now) := match d.dict.cfg.comparator ch high level v with
      | some b => (d, b)
      | none => (d.free.2, d.free.1.getLsbD 0)
    let r := Dev.decideSlot d1 ch high now l
    (r.1, if now = level then r.2.1 else f.val :: r.2.1, r.2.2)

/-- The crossings of a slot enter the history: the level alternates from `level` on; only the last is reported, where `report`. -/
def Channel.addCrossings (c : Channel) (block : Bytes) (high report : Bool) (base : Nat) : Bool → List Nat → Channel
  | _, [] => c
  | level, f :: l =>
    let e : RxEvent := { high := high, rising := !level, pos := correctRx block high (!level) (base + f), reported := report && l.isEmpty }
    Channel.addCrossings { c with rx := insertRx e c.rx } block high report base (!level) l

/-- COMPARATOR_CROSSING (R78): one slot of one comparator. With a fine code outside the calibrated range the crossing is
discarded, FS-066 occurs, and the pin's records carry INVALID for the frame (R582). -/
def Dev.comparatorCrossing (d : Dev) (ch : Chan) (slot : Fin 64) (high : Bool) (inputs : List (Fin 128 × Int)) (fineOk : Bool) : Dev :=
  let x := vget d.chans ch
  let was := if high then x.rxHigh else x.rxLow
  let (d1, cs, now) := d.decideSlot ch high was inputs
  let odd := cs.length % 2 == 1
  let d2 := d1.modChan ch fun c =>
    let c1 := c.addCrossings (d.block ch) high (odd && fineOk) (d.fineNow + slot.val * finePerSlot) was cs
    { c1 with runt := if cs.length ≥ 2 then satAdd 32 c.runt 1 else c.runt
              rxHigh := if high then now else c.rxHigh, rxLow := if high then c.rxLow else now }
  if fineOk || !odd then d2
  else
    let d3 := ((d2.channelFault 66 ch).modChan ch fun c => { c with frameInvalid := true }).faultConditionFalls 66 (.channel ch)
    match x.map with
    | some p => d3.backInvalid p (d.tb.tick / ticksPerFrame * ticksPerFrame)
    | none => d3

/-- DRV_OVERLOAD (R69): a limit engaged for `ticks` ticks so far. INVALID counts from the first of them; FS-064 is raised from
the 64th on. The limit clears by FAULT_CONDITION_FALLS of FS-064. -/
def Dev.drvOverload (d : Dev) (ch : Chan) (ticks : Nat) : Dev :=
  let x := vget d.chans ch
  let d1 := d.modChan ch fun c =>
    { c with limitTicks := Nat.max 1 ticks, limitInvalid := true, limitClear := false
             drvLimit := if c.limitTicks = 0 then satAdd 32 c.drvLimit 1 else c.drvLimit }
  let d2 := match x.map with
    | some p => d1.backInvalid p (d.tb.tick + 1 - Nat.max 1 ticks)
    | none => d1
  if ticks ≥ 64 then d2.channelFault 64 ch else d2

/-- SWING_MONITOR (R70): the tolerance is 4 % of LANE_SWING plus 8 mV (Table EL-4). -/
def Dev.swingMonitor (d : Dev) (ch : Chan) (realised : Nat) : Dev :=
  let swing := d.dict.cfg.nat 0x3004 ch.val
  let diff := max realised swing - min realised swing
  if 100 * diff > 4 * swing + 800 then d.channelFault 65 ch else d.faultConditionFalls 65 (.channel ch)

/-- RX_OVERVOLTAGE (R72). The clamp lets go by FAULT_CONDITION_FALLS of FS-069. -/
def Dev.rxOvervoltage (d : Dev) (ch : Chan) : Dev :=
  (d.channelFault 69 ch).modChan ch fun c => { c with clamp := true, clampHiz := true, clampClear := false }

/-- VREF_RANGE (R75). -/
def Dev.vrefRange (d : Dev) : Dev := d.faultCondition 71 .device

/-- The inconsistent samples of a channel since the last count, up to the start of the present tick. -/
def Dev.newInconsistent (d : Dev) (ch : Chan) : Nat := d.inconsistentIn ch (vget d.chans ch).inconsistPos d.fineNow

/-- RX_INCONSISTENT (R77): the samples up to the present tick are counted; more than 16 in the frame raise FS-068. -/
def Dev.rxInconsistent (d : Dev) (ch : Chan) : Dev :=
  let n := d.newInconsistent ch
  let total := (vget d.chans ch).inconsistFrame + n
  let d1 := d.modChan ch fun c => { c with
    inconsist := satAdd 32 c.inconsist n, inconsistFrame := total, inconsistPos := d.fineNow }
  if total > 16 then d1.channelFault 68 ch else d1

/-- LANE_PLL_UNLOCK (R89). -/
def Dev.lanePllUnlock (d : Dev) (pll : Fin 13) : Dev :=
  let d1 := d.faultCondition 67 (.lanePll pll)
  (resChans (.lanePll pll)).foldl (fun d c => if (vget d.chans c).readmitting then d.readmitFail c 2 67 else d) d1

/-! ### The links -/

/-- Change a port. -/
def Dev.modPort (d : Dev) (p : Fin 2) (f : Port → Port) : Dev := { d with odp := { d.odp with port := vmod d.odp.port p f } }

/-- The port is enabled (R363). -/
def Cfg.portOn (c : Cfg) (p : Fin 2) : Bool := bit (c.nat 0x1200 p.val) 3

/-- FS-080 or FS-081. -/
def portSource (p : Fin 2) : Source := if p = 0 then 80 else 81

/-- A port whose link is lost: in automatic mode it tries again from 25GBASE-R (R363). -/
def Port.lost (p : Port) : Port := { lastUnauthMs := p.lastUnauthMs }

/-- FS-082 holds while DUP_ADDR of a port is set (Table FC-3). -/
def Dev.settleDup (d : Dev) : Dev :=
  if d.odp.port.toList.any Port.dup then d else d.condFall 82 devScope

/-- The link of a port is lost (R363). -/
def Dev.linkLost (d : Dev) (p : Fin 2) : Dev :=
  if (vget d.odp.port p).link then ((d.modPort p Port.lost).settleDup).synceLinkDown p.val else d

/-- LINK_DOWN (R363), with FS-080 or FS-081. -/
def Dev.linkDown (d : Dev) (p : Fin 2) : Dev :=
  if (vget d.odp.port p).link then (d.linkLost p).condRise (portSource p) devScope 0 [] else d

/-- The PCI Express link leaves L0 (FS-083). -/
def Dev.pcieDown (d : Dev) : Dev :=
  if d.link.l0 then { d with link := { d.link with l0 := false, l1 := false } }.condRise 83 devScope 0 [] else d

/-- FAULT_CONDITION (R570): any signal-level source. Channel sources end a re-admission (R96); FS-022 takes both Ethernet links
down (Table FC-3), and a link's own source is the loss of that link. -/
def Dev.anyCondition (d : Dev) (src : Source) (res : Resource) : Dev :=
  let d1 := d.faultCondition src res
  if src = 64 then (resChans res).foldl (fun d c => d.drvOverload c 64) d
  else if src = 69 then (resChans res).foldl (fun d c => d.rxOvervoltage c) d
  else if 64 ≤ src.val && src.val ≤ 69 then
    (resChans res).foldl (fun d c => if (vget d.chans c).readmitting then d.readmitFail c 2 src.val else d) d1
  else if src = 21 then { d1 with tb := { d1.tb with corePllLock := false } }
  else if src = 22 then (d1.linkDown 0).linkDown 1
  else if src = 80 || src = 81 then d1.linkLost (if src = 80 then 0 else 1)
  else if src = 83 then { d1 with link := { d1.link with l0 := false, l1 := false } }
  else d1

/-- FAULT_CONDITION_FALLS (R576), with what R69, R72 and R75 hang on it. -/
def Dev.anyFall (d : Dev) (src : Source) (res : Resource) : Dev :=
  let d1 := d.faultConditionFalls src res
  if src = 64 then (resChans res).foldl (fun d c => d.modChan c fun x => { x with limitTicks := 0 }) d1
  else if src = 69 then (resChans res).foldl (fun d c => d.modChan c fun x => { x with clamp := false }) d1
  else if src = 71 && (vget d.fc.src 71).cond != 0 then { d1 with vrefFrames := 1025 }
  else if src = 21 then { d1 with tb := { d1.tb with corePllLock := true } }
  else d1

/-! ### Writes of CH_RETIRE and CH_READMIT -/

/-- A write of CH_RETIRE (R89, R90, R93): the status, or that it waits for the end of the tick. -/
def Dev.writeRetire (d : Dev) (r : Req) (ch : Chan) (v : Nat) : Dev × Nat :=
  if v ≠ 1 then (d, stRange)
  else d.commandRetire ch (match r with | .tenant _ => 0 | .mgmt => 1)

/-- A write of CH_READMIT (R94): the status. DESIGN CHOICE (notes/assumptions/12): a second write before the edge replaces the
first, with its value, cause and timeout. -/
def Dev.writeReadmit (d : Dev) (r : Req) (ch : Chan) (v : Nat) : Dev × Nat :=
  let c := vget d.chans ch
  let held := c.st == .held
  if v ≠ 1 && v ≠ 2 then (d, stRange)
  else if !(held || c.st == .retired) || d.stairs.now != 0 then (d, stMode)
  else if (v = 2 && held) || (v = 1 && c.lastPin.isNone) then (d, stRange)
  else
    let a : Readmit := { value := v, cause := match r with | .tenant _ => 0 | .mgmt => 1
                         wasHeld := held, pin := if v = 1 then c.lastPin else none, msLeft := d.dict.cfg.nat 0x3012 ch.val }
    (d.modChan ch fun x => { x with readmit := some a }, stOK)

/-- The tenant that may write CH_READMIT value 1: the owner of the pin the channel last carried (R94). -/
def Dev.readmitOwner (d : Dev) (ch : Chan) : Option Tenant :=
  match (vget d.chans ch).lastPin with
  | some p => d.dict.cfg.pinOwner p
  | none => none

/-- RECAL_ACCEPTED (R95 step 3): a block that R291 and R293 allow. -/
def Dev.recalAccepted (d : Dev) (ch : Chan) (block : Bytes) : Dev :=
  let c := vget d.chans ch
  match c.readmit with
  | some a =>
    if c.st == .recal && blockOk block && block.length == 512 then
      (d.modChan ch fun x => { x with
        st := .pendingJoin, readmit := some { a with base := d.block ch, block := block, meas := [] } }).channelAdmit
        0x08 ch a.pin none a.cause 0xFFFF 0
    else d
  | none => d

/-- An attempt of a re-admission recalibration (R95 step 2, R297, R298): one disagreement abandons it (R96). -/
def Dev.recalAttempt (d : Dev) (m : Measured) : Dev :=
  let c := vget d.chans m.ch
  match c.readmit with
  | some a =>
    if c.st != .recal || m.short then d
    else
      let mine := fun (x : Nat × Nat × List (List Int)) => x.1 == m.item.val && x.2.1 == m.part.val
      let old := match a.meas.find? mine with | some x => x.2.2 | none => []
      let others := a.meas.filter fun x => !mine x
      match agreeing (d.dict.cfg.tolerance m.item.val) (itemScale m.item.val) old m.values with
      | some _ => d.modChan m.ch fun x => { x with readmit := some { a with meas := others } }
      | none =>
        let tries := old ++ [m.values]
        if tries.length ≥ d.dict.cfg.nat 0x6004 3 then
          let who : Fin 9 := match a.cause, d.readmitOwner m.ch with
            | 0, some t => reqWho (.tenant t)
            | _, _ => 8
          ((d.calDisagree who 0x04 m.ch m.item.val tries.length (smallestSpread tries)
            (d.dict.cfg.toleranceUnits m.item.val)).raiseTrans 96 (whoTenant who) 0 8 m.ch.val 0).readmitFail m.ch 1 0xFFFF
        else d.modChan m.ch fun x => { x with readmit := some { a with meas := (m.item.val, m.part.val, tries) :: others } }
  | none => d

/-- CAL_ATTEMPT (R297): an attempt of the running procedure, or of a channel's re-admission. -/
def Dev.calAttempt (d : Dev) (m : Measured) : Dev :=
  if !Measured.ok m then d
  else if (vget d.chans m.ch).st == .recal then d.recalAttempt m
  else match d.cal.proc with
    | some p => if p.staged then d else d.procAttempt p m
    | none => d

/-- READMIT_TIMEOUT (R96): the milliseconds have run out. -/
def Dev.readmitTimeout (d : Dev) (ch : Chan) : Dev :=
  match (vget d.chans ch).readmit with
  | some a => if a.msLeft ≤ 1 then d.readmitFail ch 4 0xFFFF else d
  | none => d

/-! ### The channel map at a frame edge -/

/-- The lane settings that a remap copies (R87). -/
def laneSettings : List Nat := [0x3003, 0x3004, 0x3005, 0x3006, 0x3008, 0x3009, 0x300A, 0x300B, 0x300C, 0x300D, 0x300E]

/-- A loopback to the neighbour ends on a channel (R80). -/
def Cfg.endNeighbourLoop (c : Cfg) (ch : Chan) : Cfg := if c.nat 0x300D ch.val = 2 then c.set 0x300D ch.val [0] else c

/-- A pin's settings pass from one channel to another, and neighbour loopbacks that the move breaks end (R80, R87). -/
def Dev.copyLane (d : Dev) (src dst : Chan) : Dev :=
  let c1 := laneSettings.foldl (fun (c : Cfg) ix => c.set ix dst.val (d.dict.cfg.get ix src.val)) d.dict.cfg
  let c2 := (c1.endNeighbourLoop dst).endNeighbourLoop (neighbour src)
  { d with dict := { d.dict with cfg := c2 } }

/-- A logical pin leaves a channel at this edge (R86). -/
def Dev.moved (d : Dev) (p : Pin) (ch : Chan) : Dev := { d with moves := (p, d.fineNow, ch) :: d.moves }

/-- Levels carried over by a remap settle anew on their channel (R68). -/
def Dev.markLevel (d : Dev) (ch : Chan) : Dev := d.modChan ch fun c => { c with levelTick := some d.tb.tick }

/-- One accepted retirement takes effect (R91-R93). -/
def State.retireEffect (s : State) (ch : Chan) : State :=
  let d := s.dev
  let c := vget d.chans ch
  match c.retire with
  | none => s
  | some r =>
    match r.spare, c.map with
    | some sp, some p =>
      let d1 := ((d.moved p ch).copyLane ch sp).modChan sp fun x => { x with
        st := .inService, map := some p, reserved := false, lastPin := none, levelTick := some d.tb.tick }
      let d2 := d1.modChan ch fun x => { x with st := .retired, map := none, lastPin := some p, retire := none }
      let d3 := d2.channelAdmit 0x01 ch (some p) (some sp) r.cause r.fs 0
      match d.dict.cfg.pinOwner p with
      | some t => State.admissionMarker { s with dev := d3 } t 1 p sp ch
      | none => { s with dev := d3 }
    | none, some p =>
      let d1 := d.modChan ch fun x => { x with st := .held, lastPin := some p, retire := none }
      { s with dev := d1.channelAdmit 0x02 ch (some p) none r.cause r.fs 0 }
    | _, none =>
      let d1 := d.modChan ch fun x => { x with st := .retired, lastPin := none, retire := none }
      { s with dev := d1.channelAdmit 0x01 ch none none r.cause r.fs 0 }

/-- The owning tenant's sequencer makes the join wait for a SYNC or HALT (R95 step 4). -/
def Dev.joinWaits (d : Dev) (p : Pin) : Bool :=
  match d.dict.cfg.pinOwner p with
  | some t => d.seqBusy t && [1, 4, 5, 6].contains (vget d.modes.mode t) && !(d.seq t).synced
  | none => false

/-- A channel joins at this edge (R95). -/
def Dev.joinsNow (d : Dev) (ch : Chan) : Bool :=
  let c := vget d.chans ch
  c.st == .pendingJoin && match c.readmit with
    | some a => match a.pin with | some p => !d.joinWaits p | none => true
    | none => false

/-- Some channel joins at this edge, so the epoch advances by one minor step. -/
def Dev.anyJoin (d : Dev) : Bool := allChans.any d.joinsNow

/-- What becomes of the channel that carried the pin until a join (R95 step 5). -/
def Dev.releaseCarrier (d : Dev) (cur : Chan) (p : Pin) : Dev :=
  let c := vget d.chans cur
  if c.st == .held then
    (d.modChan cur fun x => { x with st := .retired, map := none, lastPin := some p }).channelAdmit 0x01 cur (some p) none 2
      (c.retireCause.toNat % 256) 0
  else if c.readmitting then d.modChan cur fun x => { x with map := none, lastPin := some p }
  else d.modChan cur fun x => { x with st := .spare, map := none, lastPin := none }

/-- One channel joins; the epoch has already advanced (R95 step 5). -/
def State.join (s : State) (ch : Chan) : State :=
  let d := s.dev
  match (vget d.chans ch).readmit with
  | none => s
  | some a =>
    let d0 := d.landBlock ch a.base a.block
    match a.pin with
    | none =>
      let d1 := d0.modChan ch fun x => { x with st := .spare, readmit := none, lastPin := none }
      { s with dev := d1.channelAdmit 0x04 ch none none a.cause 0xFFFF 0 }
    | some p =>
      let cur := (d.pinChan p).filter fun k => k != ch
      let spareCur := cur.filter fun k => (vget d.chans k).st == .inService
      let d1 := match cur with | some k => ((d0.moved p k).copyLane k ch).releaseCarrier k p | none => d0
      let d2 := d1.modChan ch fun x => { x with
        st := .inService, map := some p, readmit := none, lastPin := none, levelTick := some d.tb.tick }
      let d3 := d2.channelAdmit 0x04 ch (some p) spareCur a.cause 0xFFFF 0
      match d.dict.cfg.pinOwner p with
      | some t => State.admissionMarker { s with dev := d3 } t 2 p ch (cur.getD ch)
      | none => { s with dev := d3 }

/-- An accepted re-admission enters RECAL (R95 step 1). A HELD channel keeps its pin, which is then on exactly one channel
(R13, notes/assumptions/12). -/
def Dev.startRecal (d : Dev) (ch : Chan) : Dev :=
  let c := vget d.chans ch
  match c.readmit with
  | some a =>
    if c.readmitting then d
    else
      let d1 := d.modChan ch fun x => { x with st := .recal }
      (d1.queueProc 0x04).channelAdmit 0x03 ch a.pin none a.cause 0xFFFF 0
  | none => d

/-- The channel map at step 2 of an edge, after the commits (R86): retirements, joins, then RECAL entries, each in
ascending physical channel order. `joiners` joined in the judgement at the end of the ending frame. -/
def State.channelEdge (s : State) (joiners : List Chan) : State :=
  let s1 := allChans.foldl State.retireEffect s
  let s2 := joiners.foldl State.join s1
  { s2 with dev := allChans.foldl (fun d c => if joiners.contains c then d else d.startRecal c) s2.dev }

/-- A Landing changes CH_DISABLE of a channel (R97). DESIGN CHOICE (notes/assumptions/12): as for a reserved spare, the value 1
has no effect and reads 0 again where a re-admission of the RETIRED channel has been accepted since. -/
def Dev.landDisable (d : Dev) (ch : Chan) (v : Nat) : Dev :=
  let c := vget d.chans ch
  let off := fun (d : Dev) => { d with dict := { d.dict with cfg := d.dict.cfg.set 0x3013 ch.val [0] } }
  if v = 1 then
    if (c.st == .spare && !c.reserved && c.retire.isNone) || (c.st == .retired && c.readmit.isNone) then
      (d.modChan ch fun x => { x with st := .disabled }).channelAdmit 0x06 ch none none 1 0xFFFF 0
    else off d
  else if c.st == .disabled then (d.modChan ch fun x => { x with st := .retired }).channelAdmit 0x07 ch none none 1 0xFFFF 0
  else d

/-- The intervals of INVALID that a frame edge ends (R69, R72, R75, R77, R92). -/
def Dev.laneEdge (d : Dev) : Dev :=
  let d1 := allChans.foldl (fun (d : Dev) c =>
    let d1 := d.rxInconsistent c
    if (vget d1.chans c).inconsistFrame > 16 then d1.faultConditionFalls 68 (.channel c) else d1) d
  { d1 with
    vrefFrames := d1.vrefFrames - 1
    chans := d1.chans.map fun c =>
      let lim := c.limitInvalid && c.limitTicks == 0
      let cl := c.clampHiz && !c.clamp
      { c with
        inconsistFrame := 0, frameInvalid := false, resetHold := false
        limitInvalid := c.limitInvalid && !(lim && c.limitClear), limitClear := lim && !c.limitClear
        clampHiz := c.clampHiz && !(cl && c.clampClear), clampClear := cl && !c.clampClear } }

/-- CH_IDLE (R101). DESIGN CHOICE (notes/assumptions/12): a sequencer drives the channel while it is RUNNING, WAITING, MATCHING
or SYNCING and while vectors it issued still play, whatever DRV_MODE is. A loopback of the housekeeping engine counts, though
LOOPBACK does not show it (R82). -/
def Dev.chIdle (d : Dev) (ch : Chan) : Bool :=
  let driven := match d.chOwner ch with
    | some t => d.seqBusy t || !(d.seq t).fifo.isEmpty || decide (d.fineNow < (d.seq t).pos)
    | none => false
  !driven && (d.rxSource ch == .balls) && (d.measuring ch).isNone && (vget d.chans ch).st != .recal

/-! ### Meanings -/

/-- COMPARATOR_CROSSING (R78). -/
def execComparatorCrossing (ch : Chan) (slot : Fin 64) (high : Bool) (inputs : List (Fin 128 × Int)) (fineOk : Bool) (s : State) :
    Host.Outcome State Fault Refusal :=
  .next { s with dev := s.dev.comparatorCrossing ch slot high inputs fineOk }

/-- DRV_OVERLOAD (R69). -/
def execDrvOverload (ch : Chan) (ticks : Nat) (s : State) : Host.Outcome State Fault Refusal :=
  .next { s with dev := s.dev.drvOverload ch ticks }

/-- SWING_MONITOR (R70). -/
def execSwingMonitor (ch : Chan) (realised : Nat) (s : State) : Host.Outcome State Fault Refusal :=
  .next { s with dev := s.dev.swingMonitor ch realised }

/-- RX_OVERVOLTAGE (R72). -/
def execRxOvervoltage (ch : Chan) (s : State) : Host.Outcome State Fault Refusal :=
  .next { s with dev := s.dev.rxOvervoltage ch }

/-- VREF_RANGE (R75). -/
def execVrefRange (s : State) : Host.Outcome State Fault Refusal := .next { s with dev := s.dev.vrefRange }

/-- RX_INCONSISTENT (R77). -/
def execRxInconsistent (ch : Chan) (s : State) : Host.Outcome State Fault Refusal := .next { s with dev := s.dev.rxInconsistent ch }

/-- LANE_PLL_UNLOCK (R89). -/
def execLanePllUnlock (pll : Fin 13) (s : State) : Host.Outcome State Fault Refusal :=
  .next { s with dev := s.dev.lanePllUnlock pll }

/-- RECAL_ACCEPTED (R95). -/
def execRecalAccepted (ch : Chan) (block : Bytes) (s : State) : Host.Outcome State Fault Refusal :=
  .next { s with dev := s.dev.recalAccepted ch block }

/-- READMIT_TIMEOUT (R96). -/
def execReadmitTimeout (ch : Chan) (s : State) : Host.Outcome State Fault Refusal :=
  .next { s with dev := s.dev.readmitTimeout ch }

/-- CAL_ATTEMPT (R297). -/
def execCalAttempt (m : Measured) (s : State) : Host.Outcome State Fault Refusal :=
  .next { s with dev := s.dev.calAttempt m }

/-- FAULT_CONDITION_FALLS (R576). -/
def execFaultConditionFalls (src : Source) (res : Resource) (s : State) : Host.Outcome State Fault Refusal :=
  .next { s with dev := s.dev.anyFall src res }

/-- PAIR_RESTORED (R563). -/
def execPairRestored (src : Source) (s : State) : Host.Outcome State Fault Refusal :=
  .next { s with dev := s.dev.pairRestored src }

/-- ALIVE_TOGGLE (R579). -/
def execAliveToggle (s : State) : Host.Outcome State Fault Refusal :=
  .next (if s.dev.fc.aliveToggling then { s with dev := s.dev.aliveToggle.showDiscrete 4 s.dev.tb.tick } else s)

end Sys2Proof.Machine
end

