-- ==== Sys2Proof/Machine/Micro.lean ====
section
/-! DEFINITION. The microsequencer (chapter 6): fetch with patches, nano-words, the next address, safe points and
conditions, the control prefetch buffer, the effects at the outputs, and the faults of Table MS-6. The ROM's contents are
constants without a value (notes/assumptions/18). The meanings stand in Machine/Engines.lean. -/
namespace Sys2Proof.Machine

/-! ### Fields -/

/-- A field of a nano-word. -/
def nf (n : BitVec 192) (hi lo : Nat) : Nat := bits n.toNat hi lo

/-- A field of a micro-word. -/
def mf (w : BitVec 24) (hi lo : Nat) : Nat := bits w.toNat hi lo

/-- The look-up of a sparse patch word; a word not written is zero (R193). -/
def sparse {w : Nat} (l : List (Nat × BitVec w)) (k : Nat) : BitVec w :=
  match l.find? fun p => p.1 == k with
  | some p => p.2
  | none => 0

/-- The tenant of a pattern engine. -/
def engineTenant (e : Engine) : Option Tenant := tenantOf e.val

/-- The ranges of Table MS-6a open to an engine. -/
def openTo (e : Engine) (a : Nat) : Bool :=
  decide (a < 0x200) || (decide (0x4000 ≤ a) && decide (a < 0x4200)) ||
    (if e.val < 8 then decide (a < 0x2000) else decide (0x2000 ≤ a) && decide (a < 0x3E00))

/-- The match register that redirects a ROM address: the lowest of those that match (R194). -/
def Micro.redirect (m : Micro) (e : Engine) (a : Nat) : Option (Fin 32) :=
  if a ≥ 0x4000 then none
  else (List.ofFn (n := 32) id).find? fun k =>
    let r := (vget m.matchRegs k).toNat
    bit r 31 && bit r (if e.val < 8 then 29 else 30) && bits r 22 9 == a

/-- A micro-word of the control store (R174, R193). -/
def Micro.word (m : Micro) (a : Nat) : BitVec 24 := if a ≥ 0x4000 then sparse m.patchWords (a - 0x4000) else Config.romWord a

/-- The nano-word that the micro-word at an address names (Table MS-1): a patch nano-word only from patch memory. -/
def Micro.nano (m : Micro) (a : Nat) (word : BitVec 24) : BitVec 192 :=
  let ptr := mf word 20 10
  if a ≥ 0x4000 && ptr ≥ 0x780 then sparse m.patchNanos (ptr - 0x780) else Config.romNano ptr

/-- The address at which an engine executes (R194): the patch word of a match, or its own. -/
def Micro.fetchAt (m : Micro) (e : Engine) (a : Nat) : Nat :=
  match m.redirect e a with | some k => 0x4000 + bits (vget m.matchRegs k).toNat 8 0 | none => a

/-- The micro-address in an entry of a dispatch table (R180): table 0 by pattern opcode, table 1 by procedure code. -/
def dispatchEntry (table index : Nat) : Nat :=
  bits (Config.romWord ((if table = 0 then 0x3F00 else 0x3E00) + index % 256)).toNat 14 0

/-- A microsequencer fault (R197, R198): nothing more issues, and what the engine was about to do is withheld. -/
def Dev.microFault (d : Dev) (e : Engine) (a sub : Nat) : Dev :=
  let d1 := (d.withhold e).modEngine e fun m => { m with stopped := true }
  match engineTenant e with
  | some t => d1.raiseTrans 53 (some t) 0 e.val a sub
  | none => d1.raiseTrans 54 none 0 e.val a sub

/-! ### Conditions and operands -/

/-- The sequencer of a pattern engine, or an empty one for the housekeeping engine. -/
def Dev.engineSeq (d : Dev) (e : Engine) : Seq := match engineTenant e with | some t => d.seq t | none => {}

/-- The operands MOD, A and B of the instruction that an engine executes (R177, Table PS-4). -/
def MicroEngine.mod (m : MicroEngine) : Nat := bits m.instr 55 48
/-- Operand A. -/
def MicroEngine.opA (m : MicroEngine) : Nat := bits m.instr 47 32
/-- Operand B. -/
def MicroEngine.opB (m : MicroEngine) : Nat := bits m.instr 31 0

/-- A WAIT's timeout, or the last pass of a MATCH-LOOP, has expired (Table MS-4, code 13). -/
def Seq.timedOut (s : Seq) (tick : Nat) : Bool :=
  (match s.wait.bind Wait.expiry with | some x => decide (x ≤ tick) | none => false) ||
    (match s.matching with | some m => decide (m.passes ≤ 1) && m.left == 0 && s.compares.isEmpty | none => false)

/-- The condition of Table MS-4 that a nano-word selects. The two of the analogue measurement come with the fetch. -/
def Dev.microCond (d : Dev) (e : Engine) (f : MicroFetch) (nano : BitVec 192) : Bool :=
  let m := vget d.micro.engines e
  let s := d.engineSeq e
  let size := 2 ^ (m.mod % 4)
  let c := match nf nano 175 171 with
    | 0 => true
    | 1 => m.aluZero
    | 2 => m.aluNeg
    | 3 => m.aluCarry
    | 4 => decide (m.debt > 0)
    | 5 => decide (s.fifoCount ≥ 64)
    | 6 => decide (s.stores.length ≥ 4)
    | 7 => decide (lastOverlap m.opB size s.stores ≠ 0 ∧ s.loadWaits m.opB size = 0)
    | 8 => decide (lastOverlap m.opB size s.stores ≠ 0)
    | 9 => !m.prefetch.isEmpty
    | 10 => m.returned
    | 11 => (match engineTenant e with | some t => d.flagWas (selFlag t m.opA) (selNum m.opA) | none => false)
    | 12 => decide ((vget s.ei (selInput m.opA)).count ≥ 1)
    | 13 => s.timedOut d.tb.tick
    | 14 => s.fifo.isEmpty && decide (s.pos ≤ d.fineNow)
    | 15 => match s.matching with | some x => !x.failed | none => true
    | 16 => d.tb.tick % ticksPerFrame == 1
    | 17 => (match engineTenant e with | some t => decide (ceilDiv (16 * s.groups.length) 64 ≤ d.ringLevel t) | none => false)
    | 18 => match s.loops with | (_, n) :: _ => n == 0 | [] => true
    | 19 => f.busReady
    | 20 => f.agree
    | _ => !d.micro.procReg.isEmpty
  c != (nf nano 170 170 == 1)

/-- The immediate of a word (IMM_USE). -/
def immediate (word : BitVec 24) (use : Nat) : Nat :=
  let v := mf word 9 0
  match use with
  | 0 => 0
  | 1 => v
  | 2 => ofSigned 32 (toSigned 10 v)
  | _ => v * 2 ^ 10

/-- An operand source (SRC_A, SRC_B). The slack reads in fine steps (notes/assumptions/18). -/
def Dev.microSrc (d : Dev) (e : Engine) (word : BitVec 24) (nano : BitVec 192) (k : Nat) : Nat :=
  let m := vget d.micro.engines e
  let s := d.engineSeq e
  if h : k < 16 then (vget m.w ⟨k, h⟩).toNat
  else if h : k < 24 then (vget s.counters ⟨k - 16, by omega⟩).toNat
  else match k with
    | 24 => nf nano 31 0
    | 25 => nf nano 63 32
    | 26 => if m.debt = 0 then s.slack else (2 ^ 32 - m.debt) % 2 ^ 32
    | 27 => (match s.loops with | (_, n) :: _ => n | [] => 0)
    | 28 => immediate word (nf nano 150 149)
    | 29 => m.opA
    | 30 => m.opB
    | _ => 0

/-- The 32-bit result and carry of an ALU operation. -/
def alu (op a b : Nat) (carry : Bool) : Nat × Bool :=
  match op with
  | 1 => ((a + b) % 2 ^ 32, decide (a + b ≥ 2 ^ 32))
  | 2 => ((a + 2 ^ 32 - b % 2 ^ 32) % 2 ^ 32, decide (a < b))
  | 3 => (a &&& b, carry)
  | 4 => (a ||| b, carry)
  | 5 => (a ^^^ b, carry)
  | 6 => (a * 2 ^ (min b 64) % 2 ^ 32, carry)
  | 7 => (a / 2 ^ (min b 64), carry)
  | 8 => (a, carry)
  | 9 => ((a + 2 ^ 32 - b % 2 ^ 32) % 2 ^ 32, decide (a < b))
  | _ => (a, carry)

/-- Every field of a nano-word has a defined value (R183, R184). -/
def nanoOk (n : BitVec 192) : Bool :=
  let dst := nf n 155 151
  decide (nf n 191 191 = 0) && decide (nf n 175 171 ≤ 21) && decide (nf n 169 166 ≤ 9)
    && (decide (dst ≤ 23) || dst == 26 || dst == 27 || dst == 31) && decide (nf n 148 145 ≤ 7) && decide (nf n 144 142 ≤ 4)
    && decide (nf n 137 134 ≤ 6) && decide (nf n 133 130 ≤ 5) && decide (nf n 129 126 ≤ 4) && decide (nf n 125 122 ≤ 1)
    && decide (nf n 121 118 ≤ 5) && decide (nf n 117 114 ≤ 3) && decide (nf n 113 110 ≤ 8) && decide (nf n 109 106 ≤ 1)

/-- The state of a code of Table PS-1. -/
def seqStateOf : Nat → SeqState
  | 0 => .idle | 1 => .running | 2 => .waiting | 3 => .matching | 4 => .syncing | 5 => .halted | 6 => .error | _ => .stopped

/-! ### Effects at the outputs (R176) -/


/-- The bytes of a MEM_SIZE. -/
def memSize (n : BitVec 192) : Nat := if nf n 144 142 = 4 then 64 else 2 ^ nf n 144 142

/-- The aligned effect of ALIGN_OP, with the operands of the instruction executed (R148). -/
def alignOf (m : MicroEngine) (s : Seq) : Nat → Option Aligned
  | 1 => some (.mark m.opB s.lastPc (match s.loops with | (_, n) :: _ => n | [] => 0))
  | 2 => some (.trigout (m.mod % 4) m.opA m.opB)
  | 3 => some .quietOn
  | 4 => some .quietOff
  | 5 => some (.signal (m.mod % 4) m.opA)
  | _ => none

/-- The effects that a nano-word of an engine sends to its outputs, in the order of Table MS-3; the address of MEM_OP is the work
register ADDR_SRC. -/
def MicroEngine.effects (m : MicroEngine) (s : Seq) (n : BitVec 192) : List MicroEffect :=
  let op := nf n 148 145
  let addr := (vget m.w ⟨nf n 141 138 % 16, by omega⟩).toNat
  (if op = 5 || op = 7 then [.write op addr (memSize n)] else if op ≥ 2 then [.read op addr (memSize n)] else [])
    ++ ((alignOf m s (nf n 133 130)).map MicroEffect.aligned).toList
    ++ (if nf n 137 134 = 0 then [] else [.vec (nf n 137 134) m.opA m.mod])
    ++ (if nf n 129 126 = 0 then [] else [.flag (nf n 129 126) m.opA])
    ++ (if nf n 109 106 = 0 then [] else [.record (nf n 105 98)])

/-- Free bytes: what the table leaves open (notes/assumptions/18). -/
def Dev.unstatedBytes (d : Dev) : Nat → Bytes × Dev
  | 0 => ([], d)
  | n + 1 =>
    let r := d.free
    let rest := r.2.unstatedBytes n
    (natLE 8 r.1.toNat ++ rest.1, rest.2)

/-- A FLAG_OP takes place: set, clear, toggle, or the clear of a WAIT (R157, R161). -/
def Dev.microFlag (d : Dev) (t : Tenant) (op sel : Nat) : Dev :=
  if selKind sel ≠ 1 && selKind sel ≠ 2 then d
  else if op = 4 then d.putFlag (selFlag t sel) (selNum sel) false
  else d.flagOp { sender := some t, tf := selFlag t sel, n := selNum sel, op := op - 1, fine := 0 }

/-- A VEC_OP takes place: the bytes that the last read brought are the record, or the words of the RAW tick. -/
def Dev.microVec (d : Dev) (t : Tenant) (op a mod : Nat) : Dev :=
  let data := (vget d.micro.engines (tenantEngine t)).data
  match op with
  | 1 => d.pushVec t { codes := recordCodes (d.seq t).groups data }
  | 2 => d.pushVec t { codes := recordCodes (d.seq t).groups data, reps := a }
  | 3 => d.pushVec t { raw := some (1, 0, bit mod 1, true)
                       rawData := (List.range (ceilDiv data.length 8)).map fun k => leNat ((data.drop (8 * k)).take 8) }
  | 4 => d.modSeq t fun s => { s with tset := a }
  | 5 => d.suspendEffects t
  | _ => d.releaseRun t d.tb.tick

/-- A read of MEM_OP returns its bytes. -/
def Dev.microReturn (d : Dev) (e : Engine) (b : Bytes) : Dev := d.modEngine e fun m => { m with data := b, returned := true }

/-- A read of MEM_OP takes place (Table MS-3): 2 data fetch, 3 ring pop, 4 scratch, 6 system region. A poisoned data word is the
error FETCH_ECC of Table PS-6; so is what a fetch beyond the tenant's quota returns, with FS-039 (R582; notes/assumptions/32). -/
def State.microRead (s : State) (e : Engine) (op addr size : Nat) : Dev :=
  let d := s.dev
  match op, engineTenant e with
  | 6, _ => d.microReturn e ((List.range size).map fun i => Mem.read s.mem (systemAddr ((addr + i) % (3 * 2 ^ 20))))
  | 2, some t =>
    if addr + size > d.areaSize 0 t then (d.raiseTrans 39 (some t) 0 t.val addr 5).seqError t 0x11 (d.seq t).lastPc
    else match d.poisoned (fun i => d.areaAddr 0 t (addr + i)) size with
    | some w => (d.eccHit w (some t) 0 t.val 5).seqError t 0x11 (d.seq t).lastPc
    | none => d.microReturn e (d.areaBytes s.mem 0 t addr size)
  | 3, some t =>
    let words := ceilDiv size 8
    if d.ringLevel t < words then d
    else match d.ringBytes s.mem t words with
      | some b => (d.microReturn e (b.take size)).ringConsume t words
      | none => d.seqError t 0x11 (d.seq t).lastPc
  | 4, some t => d.microReturn e ((d.seq t).load (addr % 0x1000) size)
  | _, _ => d

/-- A write of MEM_OP takes place: 5 scratch, through the store buffer (R164), 7 system region. The table gives no source of the
data. -/
def State.microWrite (s : State) (e : Engine) (op addr size : Nat) : State :=
  let r := s.dev.unstatedBytes (ceilDiv size 8)
  let data := r.1.take size
  match op, engineTenant e with
  | 5, some t =>
    let d := if (r.2.seq t).stores.length ≥ 4 then r.2.drainStores t 1 else r.2
    { s with dev := d.modSeq t fun q => { q with stores := q.stores ++ [{ addr := addr % 0x1000, data := data }] } }
  | 7, _ => { s with mem := Mem.writeMapped s.mem (fun i => systemAddr (i % (3 * 2 ^ 20))) addr data, dev := r.2 }
  | _, _ => s

/-- An effect takes place at the outputs of an engine (R176). -/
def State.microEffect (s : State) (e : Engine) : MicroEffect → State
  | .vec op a mod => { s with dev := match engineTenant e with | some t => s.dev.microVec t op a mod | none => s.dev }
  | .aligned x => { s with dev := match engineTenant e with
      | some t => s.dev.modSeq t fun q => { q with aligned := q.aligned ++ [x] }
      | none => s.dev }
  | .flag op sel => { s with dev := match engineTenant e with | some t => s.dev.microFlag t op sel | none => s.dev }
  | .record type =>
    let r := s.dev.unstatedBytes 2
    let d := r.2
    { s with dev := match engineTenant e with
      | some t => d.emitTenant t false type t.val d.now (r.1.take 12)
      | none => d.emitMgmt type 0xFFFF d.now (r.1.take 12) }
  | .read op addr size => { s with dev := s.microRead e op addr size }
  | .write op addr size => s.microWrite e op addr size

/-- The oldest effect on its way takes place. -/
def State.microOut (s : State) : State :=
  match s.dev.micro.outs with
  | o :: rest => State.microEffect { s with dev := { s.dev with micro := { s.dev.micro with outs := rest } } } o.engine o.effect
  | [] => s

/-! ### Control-stream fetches (R177) -/

/-- A control fetch asked for before tick `last` returns: the buffer fills from the image up to 8 words, and ends before a
poisoned word; where that is the first word, it is the error FETCH_ECC. -/
def State.ctrlReturn (s : State) (last : Nat) (t : Tenant) : Dev :=
  let d := s.dev
  let e := tenantEngine t
  let m := vget d.micro.engines e
  match m.ctrlReq with
  | none => d
  | some (target, asked) =>
    if last ≤ asked then d
    else
      let kept := if target.isSome then [] else m.prefetch
      let pc := target.getD m.prefetchPc
      let q := d.seq t
      let at_ := fun k => d.areaAddr 0 t (q.ctrlOffset + 8 * k)
      let all := ((List.range (8 - kept.length)).map fun k => pc + kept.length + k).takeWhile fun k => decide (k < q.ctrlWords)
      let good := all.takeWhile fun k => !d.arb.poison.contains (at_ k)
      let d1 := d.modEngine e fun m => { m with
        ctrlReq := none, prefetchPc := pc, prefetch := kept ++ good.map fun k => leNat (d.areaBytes s.mem 0 t (q.ctrlOffset + 8 * k) 8) }
      if kept.isEmpty && good.isEmpty && !all.isEmpty then (d1.eccHit (at_ pc) (some t) 0 t.val 5).seqError t 0x11 pc else d1

/-- The control fetches that have returned by the end of tick `last`. -/
def State.ctrlReturns (s : State) (last : Nat) : State :=
  allTenants.foldl (fun s t => { s with dev := s.ctrlReturn last t }) s

/-! ### Executing a nano-word -/

/-- The slack of an engine and its sequencer after SLACK_OP (R158): it may fall below zero. -/
def slackAfter (op period slack debt : Nat) : Nat × Nat :=
  let credit := fun (s b fine : Nat) => (min (64 * finePerTick) (s + (fine - b)), b - fine)
  let charged := if slack ≥ finePerTick then (slack - finePerTick, debt) else (0, debt + finePerTick - slack)
  match op with
  | 0 => charged
  | 1 => credit charged.1 charged.2 period
  | 2 => (64 * finePerTick, 0)
  | _ => (slack, debt)

/-- The pattern-side fields of a nano-word that act in the issue tick (Table MS-3): events, stacks, slack, state and error. -/
def Dev.nanoPattern (d : Dev) (t : Tenant) (m : MicroEngine) (n : BitVec 192) : Dev :=
  let input := selInput m.opA
  let d2 := if nf n 125 122 = 1 && decide ((vget (d.seq t).ei input).count ≥ 1) then d.eiTake t input else d
  let d3 := d2.modSeq t fun s =>
    match nf n 121 118 with
    | 1 => { s with loops := ((s.pc, m.opB) :: s.loops).take 8 }
    | 2 => { s with loops := match s.loops with | (p, k) :: r => (p, k - 1) :: r | [] => [] }
    | 3 => { s with loops := s.loops.tail }
    | 4 => { s with calls := (s.pc :: s.calls).take 16 }
    | 5 => { s with pc := s.calls.headD s.pc, calls := s.calls.tail }
    | _ => s
  let q := d3.seq t
  let op := nf n 117 114
  let r := slackAfter op (d3.dict.cfg.period t q.tset) q.slack m.debt
  let low := if op ≤ 1 then min q.slackMin (q.slack - finePerTick) else q.slackMin
  let d4 := (d3.modSeq t fun s => { s with slack := r.1, slackMin := low }).modEngine (tenantEngine t) fun m => { m with debt := r.2 }
  let st := nf n 113 110
  let d5 := if st = 0 then d4 else d4.modSeq t fun s => { s with state := seqStateOf (st - 1) }
  if nf n 97 90 = 0 then d5 else d5.seqError t (nf n 97 90) (d5.seq t).lastPc

/-- Where an ALU result goes (DST). -/
def Dev.microDst (d : Dev) (e : Engine) (dst r : Nat) : Dev :=
  if h : dst < 16 then d.modEngine e fun m => { m with w := vmod m.w ⟨dst, h⟩ fun _ => BitVec.ofNat 32 r }
  else match engineTenant e with
    | none => d
    | some t =>
      let d1 := if dst = 26 then d.modEngine e fun m => { m with debt := 0 } else d
      d1.modSeq t fun s =>
        if h : dst < 24 then { s with counters := vmod s.counters ⟨dst - 16, by omega⟩ fun _ => BitVec.ofNat 32 r }
        else if dst = 26 then { s with slack := min (64 * finePerTick) r }
        else if dst = 27 then { s with loops := match s.loops with | (p, _) :: l => (p, r) :: l | [] => [] }
        else s

/-- A nano-word executes (R176, R179, R183): the datapath in the issue tick, from the engine as the word found it; what goes to
the outputs takes place 8 ticks later, but for what a latched stop withholds (R191). -/
def Dev.nano (d : Dev) (e : Engine) (m0 : MicroEngine) (word : BitVec 24) (n : BitVec 192) : Dev :=
  let op := nf n 169 166
  let r := alu op (d.microSrc e word n (nf n 165 161)) (d.microSrc e word n (nf n 160 156)) m0.aluCarry
  let stopped := m0.pending &&& 7 != 0
  let outs := ((m0.effects (d.engineSeq e) n).filter fun x => !(stopped && x.withheld)).map fun x =>
    ({ engine := e, due := d.tb.tick + 8, effect := x } : MicroOut)
  let d0 := { d with micro := { d.micro with outs := d.micro.outs ++ outs } }.modEngine e fun m => { m with
    ctl := if nf n 89 64 = 0 then m.ctl else BitVec.ofNat 26 (nf n 89 64)
    returned := m.returned && !(decide (2 ≤ nf n 148 145) && nf n 148 145 != 5 && nf n 148 145 != 7)
    ctrlReq := if nf n 148 145 = 1 then some (some (vget m0.w ⟨nf n 141 138 % 16, by omega⟩).toNat, d.tb.tick) else m.ctrlReq }
  let d1 := match engineTenant e with | some t => d0.nanoPattern t m0 n | none => d0
  if op = 0 then d1
  else
    let d2 := d1.modEngine e fun m => { m with aluZero := r.1 == 0, aluNeg := bit r.1 31, aluCarry := r.2 }
    if op = 9 then d2 else d2.microDst e (nf n 155 151) r.1

/-! ### The next address and safe points -/

/-- Where a micro-word leads: an address, with the stack and handler as they become, or a fault subcode. -/
inductive Next where
  | goto (a : Nat) (stack : List Nat)
  | stall
  | resume
  | selfReset
  | fault (sub : Nat)

/-- The next address of an engine of pattern kind or not (Table MS-2, R181, R182): condition, TARGET and dispatch entry. -/
def MicroEngine.next (m : MicroEngine) (pattern : Bool) (word : BitVec 24) (c : Bool) (target entry : Nat) : Next :=
  match mf word 23 21 with
  | 2 => .goto (if c then ofSigned 15 ((m.upc : Int) + toSigned 10 (mf word 9 0)) else m.upc + 1) m.stack
  | 3 => .goto (if c then target else m.upc + 1) m.stack
  | 4 => if c then (if m.stack.length ≥ 8 then .fault 0x02 else .goto target ((m.upc + 1) :: m.stack)) else .goto (m.upc + 1) m.stack
  | 5 =>
    if c then (match m.stack with | a :: l => .goto a l | [] => .fault 0x02) else .goto (m.upc + 1) m.stack
  | 6 => if mf word 9 1 ≠ 0 || (mf word 0 0 = 1 && pattern) then .fault 0x04 else .goto entry m.stack
  | 7 =>
    if mf word 7 0 ≠ 0 then .fault 0x04
    else match mf word 9 8 with
      | 0 => if c then .goto (m.upc + 1) m.stack else .stall
      | 1 => if m.handling = some 0 then .stall else .resume
      | 2 => .selfReset
      | _ => .fault 0x04
  | _ => .goto (m.upc + 1) m.stack

/-- A next address is mapped and no dispatch-table entry (R182). -/
def mapped (a : Nat) : Bool := decide (a < 0x3E00) || (decide (0x4000 ≤ a) && decide (a < 0x4200))

/-- The vector of a condition (Table MS-5). -/
def condVector (k : Nat) : Nat := 0x100 + 0x20 * k

/-- The condition entered at a safe point: the highest latched, and during a handler only KILL (R188, R189). -/
def MicroEngine.entered (m : MicroEngine) (handling : Option Nat) : Option Nat :=
  match handling with
  | none => (List.range 8).find? fun k => m.pending.getLsbD k
  | some k => if m.pending.getLsbD 0 && k != 0 then some 0 else none

/-- The word is a safe point (R185). -/
def safePoint (word : BitVec 24) : Bool :=
  let c := mf word 23 21
  c == 1 || c == 6 || (c == 7 && decide (mf word 9 8 ≤ 1))

/-- SELF_RESET (R181). -/
def MicroEngine.selfReset (m : MicroEngine) : MicroEngine :=
  { m with upc := 0, stack := [], resume := 0, handling := none, gap := 0, stalling := false
           selfResets := satAdd 32 m.selfResets 1 }

/-- The address `a` follows; at a safe point a latched condition is entered instead, and `a` goes to the resume register but
after a RESUME (R188). None: the address is not mapped (R182). -/
def MicroEngine.advance (m : MicroEngine) (word : BitVec 24) (a : Nat) (stack : List Nat) (handling : Option Nat) (resuming : Bool) :
    Option MicroEngine :=
  match (if safePoint word then m.entered handling else none) with
  | some k => some { m with
      upc := condVector k, stack := stack, resume := if resuming then m.resume else a, handling := some k
      pending := setBit m.pending k false, stalling := false }
  | none => if mapped a then some { m with upc := a, stack := stack, handling := handling, stalling := false } else none

/-- The engine after a word, or a fault subcode. A KILL handler never resumes: a RESUME in it repeats (R189,
notes/assumptions/18). -/
def MicroEngine.after (m : MicroEngine) (word : BitVec 24) (nx : Next) : Except Nat MicroEngine :=
  let orFault := fun (o : Option MicroEngine) => match o with | some x => Except.ok x | none => Except.error 0x01
  match nx with
  | .fault sub => .error sub
  | .goto a stack => orFault (m.advance word a stack m.handling false)
  | .stall =>
    (match m.entered m.handling with
    | some _ => orFault (m.advance word m.upc m.stack m.handling false)
    | none => .ok { m with stalling := true })
  | .resume => orFault (m.advance word m.resume m.stack none true)
  | .selfReset => .ok m.selfReset

/-- A DISPATCH takes its index from the head of the prefetch buffer, which becomes the instruction executed, and the buffer asks
for its refill; or from the procedure register (R177, R180). With nothing there the index is free. -/
def Dev.microDispatch (d : Dev) (e : Engine) (table : Nat) : Nat × Dev :=
  let m := vget d.micro.engines e
  if table = 0 then
    match m.prefetch with
    | w :: rest => (bits w 63 56, d.modEngine e fun m => { m with
        instr := w, prefetch := rest, prefetchPc := m.prefetchPc + 1, ctrlReq := m.ctrlReq.orElse fun _ => some (none, d.tb.tick) })
    | [] => (d.free.1.toNat % 256, d.free.2)
  else
    match d.micro.procReg with
    | c :: rest => (c, { d with micro := { d.micro with procReg := rest } })
    | [] => (d.free.1.toNat % 256, d.free.2)

/-- The class and SYS operation that a command's row names are those of the word that the engine fetches. SYS operation 3 is an
ENCODING fault under each SYS row. -/
def Dev.microNamed (d : Dev) (e : Engine) (f : MicroFetch) (cls : Nat) (sys : Option Nat) : Bool :=
  let a := (vget d.micro.engines e).upc
  let word := d.micro.word (d.micro.fetchAt e a)
  !openTo e a || f.ecc == 2 || (mf word 23 21 == cls &&
    (match sys with | some o => mf word 9 8 == o || mf word 9 8 == 3 | none => true))

/-- The engine's clock runs (R175, Table PL-1), and no fault has stopped it (R198). -/
def Dev.engineRuns (d : Dev) (e : Engine) : Bool := d.tb.fast && d.stairs.now == 0 && !(vget d.micro.engines e).stopped

/-- One micro-word of an engine (R175-R198): fetch, redirection, checks, next address, nano-word. A word that faults does nothing
else. -/
def Dev.micro1 (d : Dev) (e : Engine) (f : MicroFetch) : Dev :=
  let m0 := vget d.micro.engines e
  if !openTo e m0.upc then d.microFault e m0.upc 0x01
  else
    let at_ := d.micro.fetchAt e m0.upc
    let word := d.micro.word at_
    let n := d.micro.nano at_ word
    let d0 := match d.micro.redirect e m0.upc with
      | some k => { d with micro := { d.micro with patchHits := vmod d.micro.patchHits k fun n => satAdd 32 n 1 } }
      | none => d
    let d1 := d0.modEngine e fun m => { m with upc := at_, fetched := some d.tb.tick }
    if f.ecc = 2 then d1.microFault e at_ 0x05
    else
      let d2 := if f.ecc = 1 then d1.raiseTrans 55 none 0 e.val at_ 0 else d1
      if !nanoOk n then d2.microFault e at_ 0x04
      else
        let gap := if safePoint word then 0 else m0.gap + 1
        let d3 := d2.modEngine e fun m => { m with gap := gap, gapMax := max m.gapMax gap }
        if gap ≥ 64 then d3.microFault e at_ 0x03
        else
          let m := vget d3.micro.engines e
          let cond := d3.microCond e f n
          let r := if mf word 23 21 = 6 then d3.microDispatch e (mf word 0 0) else (0, d3)
          match m.after word (m.next (e.val < 8) word cond (nf n 190 176) (dispatchEntry (mf word 0 0) r.1)) with
          | .error sub => d3.microFault e at_ sub
          | .ok m1 =>
            let d4 := if m0.stalling then r.2 else r.2.nano e m word n
            d4.modEngine e fun x => { x with
              upc := m1.upc, stack := m1.stack, resume := m1.resume, handling := m1.handling, pending := m1.pending, gap := m1.gap
              stalling := m1.stalling, selfResets := m1.selfResets }

/-- ENGINE_RESET (R199): the reset waits for the next frame edge; permitted only in M10. -/
def Dev.writeEngineReset (d : Dev) (e : Engine) (v : Nat) : Dev × Nat :=
  if d.modes.device ≠ 10 then (d, stMode)
  else (d.modEngine e fun m => { m with resetDue := m.resetDue || v == 1 }, stOK)

/-- Engine resets that wait are made at a frame edge. -/
def Dev.engineEdge (d : Dev) : Dev :=
  { d with micro := { d.micro with engines := d.micro.engines.map fun m =>
    if m.resetDue then { m.selfReset with resetDue := false } else m } }

end Sys2Proof.Machine
end

