-- ==== Sys2Proof/Machine/Modes.lean ====
section
/-! DEFINITION. The operating modes and the DC converter (chapter 15): conversions, the stop of a tenant, and the modes at
a frame edge. -/
namespace Sys2Proof.Machine

/-! ### DC conversions (R469-R474) -/

/-- DC_CFG of a tenant in a configuration: RUN, SOURCE, INTEG, REPEAT_COUNT (Table OM-4). -/
def Cfg.dcRun (c : Cfg) (t : Tenant) : Nat := fieldBE (c.get 0x7010 t.val) 0 1
def Cfg.dcSource (c : Cfg) (t : Tenant) : Nat := fieldBE (c.get 0x7010 t.val) 1 1
def Cfg.dcInteg (c : Cfg) (t : Tenant) : Nat := fieldBE (c.get 0x7010 t.val) 4 4
def Cfg.dcRepeat (c : Cfg) (t : Tenant) : Nat := fieldBE (c.get 0x7010 t.val) 8 4

/-- A conversion of the tenant is queued or in progress (BUSY). -/
def Dev.dcBusy (d : Dev) (t : Tenant) : Bool :=
  vget d.modes.dcQueued t || (match d.modes.dc with | some x => x.tenant == some t | none => false)

/-- RUN of DC_CFG in force becomes 0. -/
def Dev.dcRunOff (d : Dev) (t : Tenant) : Dev :=
  { d with dict := { d.dict with cfg := d.dict.cfg.set 0x7010 t.val (0 :: (d.dict.cfg.get 0x7010 t.val).drop 1) } }

/-- The tenants in round-robin order after the one served last (R472). -/
def rrOrder (last : Tenant) : List Tenant :=
  (List.range 8).map fun k => ⟨(last.val + 1 + k) % 8, Nat.mod_lt _ (by omega)⟩

/-- Frames until the first frame edge: 0 at an edge. -/
def Dev.toEdge (d : Dev) : Nat := if d.tb.tick % ticksPerFrame = 0 then 0 else 1

/-- DC_CONVERSION_START (R471, R472): a free converter takes the next conversion, which begins at a frame edge and settles
for 16 frames; one of step SC1 integrates for 32 frames (R305). -/
def Dev.dcStart (d : Dev) : Dev :=
  let m := d.modes
  match m.dc with
  | some _ => d
  | none =>
    let first := ceilDiv d.tb.tick ticksPerFrame * ticksPerFrame + 16 * ticksPerFrame
    if m.dcHouse > 0 then
      { d with modes := { m with dcHouse := m.dcHouse - 1, dc := some { tenant := none, frames := 48 + d.toEdge, integ := 32, source := 0
                                                                        tick := first } } }
    else match (rrOrder m.dcLast).find? fun t => vget m.dcQueued t with
      | some t =>
        let integ := d.dict.cfg.dcInteg t
        { d with modes := { m with
            dcQueued := vmod m.dcQueued t fun _ => false, dcLast := t
            dc := some { tenant := some t, frames := 16 + integ + d.toEdge, integ := integ, source := d.dict.cfg.dcSource t
                         tick := first } } }
      | none => d

/-- The limit of the converter at the source, in nV: 1.28 V, through the divider of 1/4 for a reference. -/
def dcLimit (source : Nat) : Int := if 0x80 ≤ source ∧ source ≤ 0x85 then 5120000000 else 1280000000

/-- Volts of a number of nanovolts. -/
def volts (nv : Int) : Q := ⟨nv, 1000000000⟩

/-- The centre of the integration interval, in fine steps of the tick counter (R473). -/
def DcConv.centre (x : DcConv) : Nat := (x.tick + 512 * x.integ) * finePerTick

/-- The last tick of the integration interval, or the present one where that comes first. -/
def Dev.dcEnd (d : Dev) (x : DcConv) : Nat := Nat.max x.tick (Nat.min d.tb.tick (x.tick + ticksPerFrame * x.integ - 1))

/-- What a result says of its time (R12, R52, R473): the time, the epoch and the state of its centre, and whether either changed
within the integration. -/
def Dev.dcStamp (d : Dev) (x : DcConv) (r : DcResult) : DcResult :=
  { r with time := d.timeOfPos x.centre, et := d.etOfPos x.centre, source := x.source, valid := true
           epochSpan := d.epochSpan x.tick (d.dcEnd x), traceSpan := d.traceSpan x.tick (d.dcEnd x) }

/-- A result of tenant t. -/
def Dev.dcPut (d : Dev) (t : Tenant) (r : DcResult) : Dev :=
  { d with modes := { d.modes with dc := none, dcResult := vmod d.modes.dcResult t fun _ => r } }

/-- A conversion in progress ends without a value (R470): ABANDONED and INVALID; VALUE and U_STD are free values. -/
def Dev.dcAbandon (d : Dev) (x : DcConv) (t : Tenant) : Dev :=
  let (v, d1) := d.free
  let (u, d2) := d1.free
  d2.dcPut t (d.dcStamp x { value := v, u := u, invalid := true, abandoned := true })

/-- A Landing of DC_CFG with RUN 0 (R470), or the end of the tenant's conversions (R475). -/
def Dev.dcStop (d : Dev) (t : Tenant) : Dev :=
  let d1 := { d with modes := { d.modes with dcQueued := vmod d.modes.dcQueued t fun _ => false } }
  match d1.modes.dc with
  | some x => if x.tenant = some t then d1.dcAbandon x t else d1
  | none => d1

/-- A Landing of DC_CFG (R470). -/
def Dev.landDc (d : Dev) (t : Tenant) : Dev :=
  if d.dict.cfg.dcRun t = 0 then d.dcStop t
  else { d with modes := { d.modes with dcQueued := vmod d.modes.dcQueued t fun _ => true, dcDone := vmod d.modes.dcDone t fun _ => 0 } }

/-- The result of a completed conversion (R473, R474). -/
def Dev.dcResultOf (d : Dev) (x : DcConv) (nv : Int) : DcResult :=
  let lim := dcLimit x.source
  let beyond := decide (lim < nv.natAbs)
  let v := if beyond then (if nv < 0 then -lim else lim) else nv
  let u := ((f64ToQ (Config.convNoise d.cal.uConv x.integ)).sq.add (d.uVref (volts v)).sq).add d.uDriftV.sq
  d.dcStamp x { value := f64OfQ (volts v), u := f64Sqrt u, invalid := beyond || x.invalid, overrange := beyond }

/-- DC_CONVERSION_DONE (R470, R471): a conversion whose frames have passed writes its result; a repeated series queues the
next. -/
def Dev.dcDone (d : Dev) (nv : Int) : Dev :=
  match d.modes.dc with
  | none => d
  | some x =>
    if x.frames ≠ 0 then d
    else match x.tenant with
      | none => { d with modes := { d.modes with dc := none } }
      | some t =>
        let d1 := d.dcPut t (d.dcResultOf x nv)
        let n := vget d.modes.dcDone t + 1
        let d2 := { d1 with modes := { d1.modes with dcDone := vmod d1.modes.dcDone t fun _ => n } }
        if d.dict.cfg.dcRun t = 2 then
          if d.dict.cfg.dcRepeat t = n then d2.dcRunOff t
          else { d2 with modes := { d2.modes with dcQueued := vmod d2.modes.dcQueued t fun _ => true } }
        else d2

/-- A result of a channel carries INVALID: the clamp (R72), the reference (R75), or every record (R554, R582). -/
def Dev.dcInvalid (d : Dev) (c : Chan) : Bool :=
  (vget d.chans c).clamp || (vget d.chans c).clampHiz || d.vrefInvalid || d.allInvalid

/-- A frame of the conversion in progress ends (R471, R474). -/
def Dev.dcEdge (d : Dev) : Dev :=
  match d.modes.dc with
  | none => d
  | some x =>
    let inv := if h : x.source < 52 then d.dcInvalid ⟨x.source, h⟩ else d.allInvalid
    { d with modes := { d.modes with
      dc := some { x with frames := x.frames - 1, invalid := x.invalid || (decide (x.frames ≤ x.integ) && inv) } } }

/-! ### Modes of tenants and of the device -/

/-- MODE as a tenant's entry reads (R459): the device's mode stands over present and absent tenants. -/
def Dev.modeOf (d : Dev) (t : Tenant) : Nat :=
  if d.modes.device ≠ 0 then d.modes.device else if d.present t then vget d.modes.mode t else 0

/-- A tenant is in M0, and its MODE_REQ in force is 0. -/
def Dev.toM0 (d : Dev) (t : Tenant) : Dev :=
  { d with modes := { d.modes with mode := vmod d.modes.mode t fun _ => 0 }
           dict := { d.dict with cfg := d.dict.cfg.set (0x2000 + 0x100 * t.val) 0 [0] } }

/-- A procedure that the tenant runs or has staged. -/
def Dev.ownProc (d : Dev) (t : Tenant) : Bool :=
  match d.cal.proc with | some p => p.who.val == t.val | none => false

/-- A tenant activity of R462 is in progress. -/
def Dev.activity (d : Dev) (t : Tenant) : Bool :=
  d.seqBusy t || (vget d.acq t).active || d.ownProc t || d.dcBusy t

/-- The activities of a tenant end, and it is in M0 (R475). -/
def State.stopActivities (s : State) (t : Tenant) : State :=
  let d1 := s.dev.errorHalt t
  let s1 := { s with dev := d1.seqKill t }.acqAbort t
  let d2 := if s1.dev.ownProc t then s1.dev.abandonProc 3 else s1.dev
  { s1 with dev := ((d2.dcStop t).dcRunOff t).toM0 t }

/-- The stop of a tenant by a reaction, at step 1 (R475): its channels hold their fuse-map states. -/
def State.stopTenant (s : State) (t : Tenant) : State :=
  let s1 := s.stopActivities t
  { s1 with dev := { s1.dev with fc := { s1.dev.fc with held := setBit s1.dev.fc.held t.val true } } }

/-- The holder of a lock is the tenant. -/
def Dev.holds (d : Dev) (l : Fin 34) (t : Tenant) : Bool := (vget d.mgmt.locks l).holder == some (.tenant t)

/-- The locks that a mode needs are held (R463, R465). -/
def Dev.modeLocks (d : Dev) (t : Tenant) (mode : Nat) : Bool :=
  if mode = 7 then d.holds 0 t else if mode = 8 then d.holds 0 t && d.holds 1 t else true

/-- M7 and M8 without their locks fall to M0 (R465). -/
def Dev.modeFalls (d : Dev) : Dev :=
  allTenants.foldl (fun d t =>
    if d.modeLocks t (vget d.modes.mode t) then d
    else (if d.ownProc t then d.abandonProc 1 else d).toM0 t) d

/-- M10 is entered or left at step 2 (R477, R479). -/
def Dev.serviceEdge (d : Dev) : Dev :=
  if d.modes.device = 0 && d.modes.serviceReq then { d with modes := { d.modes with serviceReq := false, device := 10 } }
  else if d.modes.serviceLeave then
    let d1 := allTenants.foldl (fun d t => d.toM0 t) d
    { d1 with modes := { d1.modes with serviceLeave := false, device := 0 } }
  else d

/-! ### Meanings -/

/-- DC_CONVERSION_START (R472). -/
def execDcConversionStart (s : State) : Host.Outcome State Fault Refusal := .next { s with dev := s.dev.dcStart }

/-- DC_CONVERSION_DONE (R471). -/
def execDcConversionDone (nanovolts : Int) (s : State) : Host.Outcome State Fault Refusal :=
  .next { s with dev := s.dev.dcDone nanovolts }

end Sys2Proof.Machine
end

