-- ==== Sys2Proof/Machine/Read.lean ====
section
/-! DEFINITION. What a read of each dictionary entry returns (R338, R340), and the blocks of the DOMAIN entries. -/
namespace Sys2Proof.Machine

/-- A value of `k` bytes, most significant byte first. -/
def be (k n : Nat) : Bytes := natBE k n

/-- A signed value of `k` bytes. -/
def beInt (k : Nat) (z : Int) : Bytes := natBE k (ofSigned (8 * k) z)

/-- A BOOL. -/
def beBool (b : Bool) : Bytes := [if b then 1 else 0]

/-- A component by number, or the default where the number is none. -/
def at_ {α : Type} {n : Nat} (v : Vector α n) (i : Nat) (z : α) : α := if h : i < n then v[i] else z

/-- Printable text. -/
def ascii (s : List Nat) : Bytes := s.map (BitVec.ofNat 8)

/-- VENDOR and PART. -/
def vendorText : Bytes := ascii [0x42, 0x65, 0x78, 0x76, 0x6F, 0x6E]
def partText (gradeB : Bool) : Bytes := ascii [0x4C, 0x5A, 0x2D, 0x34, 0x38, 0x35, 0x32, 0x2D, if gradeB then 0x42 else 0x4D]

/-- LOCK_STATE (Table TM-3). -/
def Lock.bytes (l : Lock) : Bytes :=
  be 1 (match l.holder with | some r => reqCode r | none => 0xFF) ++ be 1 (ofBool l.warned) ++ zeros 2 ++ be 4 l.lease
    ++ be 4 l.remaining ++ be 4 l.grants

/-- PORT_STATUS (Table NP-2); a port carries PTP while PTP_ENABLE is 1 (DEDUCED, notes/assumptions/35). -/
def Dev.portStatus (d : Dev) (i : Fin 2) : Nat :=
  let p := vget d.odp.port i
  let c := d.dict.cfg
  let ip := c.get 0x1202 i.val
  let v4 := bit (fieldBE ip 13 1) 0 && !p.v4Conflict && p.link
  ofBool p.link + 2 * (if p.link then p.rate else 0) + 8 * ofBool (p.link && p.fec)
    + 16 * ofBool (c.nat 0x1290 1 == i.val) + 32 * ofBool (c.nat 0x1280 1 == 1 && c.nat 0x1280 2 == i.val) + 64 * ofBool v4
    + 128 * ofBool p.ipv6Ready + 256 * ofBool p.dup

/-- ODP_SESSION (Table NP-9). -/
def Session.bytes (x : Session) : Bytes :=
  be 2 x.number ++ be 1 (ofBool x.isOpen) ++ be 1 x.inFlight ++ be 4 x.seqHigh ++ be 4 x.authFails ++ be 4 x.replays

/-- RESET_CAUSE (Table RB-2). -/
def ResetEntry.bytes (e : ResetEntry) : Bytes := be 1 e.source ++ be 1 e.reach ++ be 1 e.target ++ be 1 e.flags ++ timeBE e.time

/-- DC_RESULT (Table OM-5). -/
def Dev.dcBytes (d : Dev) (t : Tenant) : Bytes :=
  let r := vget d.modes.dcResult t
  let flags := ofBool r.invalid + 2 * ofBool r.epochSpan + 4 * ofBool r.traceSpan + 8 * ofBool r.abandoned + 16 * ofBool r.overrange
    + 32 * ofBool (d.dcBusy t) + 64 * ofBool r.valid
  be 8 r.value.toNat ++ be 8 r.u.toNat ++ timeBE r.time ++ be 1 r.source ++ be 1 flags ++ be 2 r.et.toNat

/-- COMMIT_STATE of a requester: 0 none, 1 pending, 2 pending AT_IDLE. -/
def Dict.commitState (x : Dict) (r : Req) : Nat :=
  match x.commits.find? fun c => c.req == r with
  | some c => if c.atIdle then 2 else 1
  | none => 0

/-- The shadow of a requester (R347). -/
def Dict.shadowOf (x : Dict) : Req → Cfg
  | .tenant t => vget x.shadow t
  | .mgmt => x.mgmtShadow

/-- ALARM_STATUS. -/
def Dev.alarmStatus (d : Dev) (o : Nat) : Nat :=
  if h : o < 9 then (vget (vget d.tb.alarms ⟨o, h⟩) 0).status + 4 * (vget (vget d.tb.alarms ⟨o, h⟩) 1).status else 0

/-- The state codes of Table PC-6. -/
def ChState.code : ChState → Nat
  | .spare => 0 | .inService => 1 | .retired => 2 | .held => 3 | .recal => 4 | .pendingJoin => 5 | .disabled => 6

/-! ### Computed values, chapter by chapter -/

/-- 0x1000 to 0x13FF. -/
def Dev.ro10 (d : Dev) (ix sub : Nat) : Option Bytes :=
  if ix = 0x1000 then
    match sub with
    | 0 => some vendorText
    | 1 => some (partText d.fuses.gradeB)
    | 2 => some (beBool d.fuses.gradeB)
    | 3 => some (be 2 d.fuses.stepping.toNat)
    | 4 => some d.fuses.serial
    | 5 => some (be 8 d.fuses.dieId.toNat)
    | _ => none
  else if ix = 0x1001 then
    match sub with
    | 0 => some (be 4 d.boot.version)
    | 1 => some (be 2 d.boot.patchLevel)
    | _ => some (be 2 d.fuses.rollback)
  else if ix = 0x1108 then some (at_ d.mgmt.locks sub {}).bytes
  else if ix = 0x1201 then some (be 2 (d.portStatus (slotNo sub)))
  else if ix = 0x1210 then some (at_ d.odp.sess sub {}).bytes
  else if ix = 0x1281 then
    match sub with
    | 1 => some (be 1 d.tb.ptpState)
    | 2 => some (beInt 8 d.tb.ptpOffset)
    | 3 => some (beInt 8 d.tb.ptpDelay)
    | 4 => some (be 8 d.tb.ptpGm.toNat)
    | 5 => some (be 2 d.tb.ptpSteps)
    | _ => some (be 4 d.tb.ptpDiscards)
  else if ix = 0x1290 && sub = 3 then some (be 1 d.tb.synceQl)
  else if ix = 0x1300 then some (be 2 (if d.link.l0 then d.link.rate + 16 * d.link.width else 0))
  else none

/-- 0x1400 to 0x17FF. -/
def Dev.ro14 (d : Dev) (ix sub : Nat) : Option Bytes :=
  if ix = 0x1400 then some (timeBE d.now)
  else if ix = 0x1401 then some (be 8 d.tb.tick)
  else if ix = 0x1402 then
    match sub with
    | 1 => some (be 1 d.traceShown)
    | 2 => some (timeBE d.tb.traceSince)
    | 3 => some (be 1 d.tb.freqActive)
    | 4 => some (be 1 d.tb.todActive)
    | 5 => some (be 8 d.tb.uY.toNat)
    | _ => some (be 8 d.tb.uT.toNat)
  else if ix = 0x1443 then some (be 1 (d.alarmStatus sub))
  else if ix = 0x1500 then
    match sub with
    | 0 => some (be 1 d.stairs.now)
    | 2 => some (be 1 d.stairs.status)
    | _ => none
  else if ix = 0x1511 then some (if sub = 0 then be 8 d.heater.power.toNat else be 1 d.heater.state)
  else if ix = 0x1600 then
    some (match d.rst.history[sub]? with | some e => e.bytes | none => zeros 16)
  else if ix = 0x1601 then some (if sub = 0 then be 1 d.rst.phase else be 4 d.rst.bringupTime)
  else if ix = 0x1602 then some (be 4 (at_ d.rst.backup sub 0).toNat)
  else if ix = 0x1700 then some (be 4 d.boot.status)
  else if ix = 0x1701 then some d.boot.patchInfo
  else none

/-- 0x1800 to 0x19FF. -/
def Dev.ro18 (d : Dev) (r : Req) (ix sub : Nat) : Option Bytes :=
  let src : Source := ⟨sub % 128, Nat.mod_lt _ (by omega)⟩
  if ix = 0x1800 then
    match sub with
    | 0 => some (be 2 d.fc.first)
    | 1 => some (beBool d.fc.overflow)
    | _ => some (be 1 (ofBool d.fc.aliveToggling + 2 * ofBool d.faultN))
  else if ix = 0x1801 then some d.fc.last.bytes
  else if ix = 0x1811 then some (be 1 (d.fsState r src))
  else if ix = 0x1812 then some (be 4 (vget d.fc.src src).count)
  else if ix = 0x1900 then some (be 1 (at_ d.arb.bankOwner sub 0xFF))
  else if ix = 0x1901 then
    some (be 4 (if sub = 0 then d.arb.eccCorrected else if sub = 1 then d.arb.eccUncorrectable else d.arb.eccLastAddr))
  else if ix = 0x1902 && sub ≠ 0 then some (be 4 (if sub = 1 then d.arb.scrubPassMax else d.arb.scrubPasses))
  else if ix = 0x1923 then some (be 2 (at_ d.arb.quietDemand sub 0))
  else if ix = 0x1924 then some (be 4 (at_ d.arb.lateGuards sub 0))
  else if ix = 0x1925 then some (be 4 (at_ d.arb.overruns sub 0))
  else if ix = 0x1930 then some (be 2 (at_ d.arb.bankDemand sub 0))
  else if ix = 0x1931 then some (be 4 (at_ d.arb.classDemand sub 0))
  else if ix = 0x1932 then some d.arb.admitLast
  else if ix = 0x1940 then some (be 4 (at_ d.arb.breachCount sub 0))
  else if ix = 0x1941 then some d.arb.breachLast
  else none

/-- A tenant's entries 0x2tXX; `o` is the index less 0x2000 + 0x100 t. -/
def Dev.ro20 (d : Dev) (t : Tenant) (o sub : Nat) : Option Bytes :=
  let s := d.seq t
  if o = 0x00 && sub = 1 then some (be 1 (d.modeOf t))
  else if o = 0x01 then
    match sub with
    | 0 => some (be 1 (d.dict.commitState (.tenant t)))
    | 1 => some (be 4 (vget d.dict.commitCount t))
    | 2 => some (timeBE (vget d.dict.lastLanding t))
    | 3 => some (be 1 (vget d.dict.lastCommitStatus t))
    | _ => some (be 2 (vget d.dict.shadow t).length)
  else if o = 0x11 then
    match sub with
    | 0 => some (be 1 s.state.code)
    | 1 => some (be 4 s.pc)
    | 2 => some (be 1 s.error)
    | 3 => some (be 4 s.errorPc)
    | 4 => some (be 2 (s.slackMin / finePerTick))
    | 5 => some (be 8 s.vectors)
    | 6 => some (beBool s.isIdle)
    | 7 => some (be 1 (ofBool s.cond))
    | 8 => some (be 8 s.gapTicks)
    | _ => some (be 2 s.stall)
  else if o = 0x12 then some (be 4 (at_ s.counters sub 0).toNat)
  else if o = 0x13 then
    if sub = 8 then some (be 1 s.loops.length)
    else if sub = 9 then some (be 1 s.calls.length)
    else some (be 4 (match s.loops[sub]? with | some p => p.2 | none => 0))
  else if o = 0x18 && sub = 0 then some (be 2 s.tf.toNat)
  else if o = 0x21 && sub = 0 then some (be 4 d.gf.toNat)
  else if o = 0x25 then some (be 2 (at_ s.ei sub {}).count)
  else if o = 0x27 then some (be 4 (at_ s.ei sub {}).saturated)
  else none

/-- 0x3000 to 0x301C, of a channel. -/
def Dev.ro30 (d : Dev) (ix : Nat) (ch : Chan) : Option Bytes :=
  let c := vget d.chans ch
  if ix = 0x3000 then some [optByte (c.map.map (·.val))]
  else if ix = 0x3001 then some (be 1 c.st.code)
  else if ix = 0x3002 then some [optByte ((d.chOwner ch).map (·.val))]
  else if ix = 0x3007 then some (be 1 (vget d.fuses.pinState ch).toNat)
  else if ix = 0x3014 then some (be 2 c.retireCause.toNat)
  else if ix = 0x3018 then some (be 4 c.runt)
  else if ix = 0x3019 then some (be 4 c.inconsist)
  else if ix = 0x301A then some (be 4 c.drvLimit)
  else if ix = 0x301C then some (beBool (d.chIdle ch))
  else none

/-- FG_STATUS. -/
def Gallery.status (g : Gallery) : Nat :=
  ofBool g.recordsFull + 2 * ofBool g.limitReached + 4 * ofBool g.breach + 8 * ofBool g.lost + 16 * g.window

/-- A tenant's entries at 0x50t1 and 0x50t3. -/
def Dev.ro50 (d : Dev) (t : Tenant) (o sub : Nat) : Option Bytes :=
  let g := vget d.gallery t
  if o = 1 then
    match sub with
    | 0 => some (be 1 g.status)
    | 1 => some (be 4 g.recCount)
    | 2 => some (be 8 g.recDropped)
    | 3 => some (be 4 (d.recCapacity t))
    | 4 => some (be 4 g.bitmapRows)
    | 5 => some (be 8 g.totalFails)
    | 6 => some (be 4 g.tornRepairs)
    | 7 => some (be 4 g.writesDropped)
    | 8 => some (be 4 g.markers)
    | _ => some (beBool g.idle)
  else if o = 3 then some (be 4 (at_ g.invalidCompares sub 0))
  else none

/-- A tenant's entries at 0x51t4. -/
def Dev.ro51 (d : Dev) (t : Tenant) (o sub : Nat) : Option Bytes :=
  let a := vget d.acq t
  if o = 4 then
    match sub with
    | 0 => some (be 1 a.st)
    | 1 => some (be 4 a.segDone)
    | 2 => some (be 4 a.ignored)
    | 3 => some (be 4 a.segBytes)
    | 4 => some (be 4 a.segCapacity)
    | 5 => some (be 4 a.lostBlocks)
    | 6 => some (be 4 (satAdd 32 a.edgeExcess (d.segExcess t d.tb.tick)))
    | 7 => some (be 4 a.trigInExcess)
    | _ => some (beBool (!a.active))
  else none

/-- 0x6000 to 0x6130. -/
def Dev.ro60 (d : Dev) (ix sub : Nat) : Option Bytes :=
  if ix = 0x6000 then some (if sub = 0 then be 4 d.epoch else be 2 d.calStatus)
  else if ix = 0x6001 then some (be 8 (f64OfQ (milli (if sub = 0 then d.cal.tSensor else d.cal.tApplied))).toNat)
  else if ix = 0x6002 then
    some (if sub = 0 then be 1 (setCount d.fuses.gradeB)
          else if sub ≤ setCount d.fuses.gradeB then be 8 (f64OfQ (milli (setpoint d.fuses.gradeB (sub - 1)))).toNat else zeros 8)
  else if ix = 0x6021 then some (at_ d.cal.results sub {}).bytes
  else if ix = 0x6100 && sub = 0 then some (be 4 d.cal.nvStatus.toNat)
  else if ix = 0x6100 && sub = 2 then some (be 1 d.cal.cmdStatus)
  else if ix = 0x6110 && sub = 2 then some (timeBE d.cal.rtTime)
  else if ix = 0x6110 && sub = 3 then some (be 4 d.cal.rtEpoch)
  else if ix = 0x6121 then some (be 8 (at_ d.cal.uSS sub 0).toNat)
  else if ix = 0x6130 then some (be 8 (at_ d.cal.life sub {}).value)
  else none

/-- 0x7000 to 0x7FFF. -/
def Dev.ro70 (d : Dev) (ix sub : Nat) : Option Bytes :=
  let e := at_ d.micro.engines sub {}
  if ix = 0x7000 then some (be 1 d.modes.device)
  else if ix = 0x7011 then (tenantOf sub).map d.dcBytes
  else if ix = 0x7F00 then
    match sub with
    | 0 => some (be 8 d.dict.landings)
    | 1 => some (be 1 (d.dict.commitState .mgmt))
    | _ => some (be 2 d.dict.mgmtShadow.length)
  else if ix = 0x7F10 then some (be 2 e.upc)
  else if ix = 0x7F11 then some (be 1 e.stack.length)
  else if ix = 0x7F12 then some (be 1 e.gapMax)
  else if ix = 0x7F13 then some (be 1 e.pending.toNat)
  else if ix = 0x7F14 then some (be 4 e.selfResets)
  else if ix = 0x7F18 then some (be 4 (at_ d.micro.patchHits sub 0))
  else if ix = 0x7F20 then some (be 4 (d.fc.force.toNat / 2 ^ (32 * sub) % 2 ^ 32))
  else none

/-- The tenant that an index or a sub-index names, for the entries that belong to one tenant (R334). -/
def entryTenant (ix sub : Nat) : Option Tenant :=
  if 0x2000 ≤ ix && ix < 0x2800 then tenantOf ((ix - 0x2000) / 256)
  else if 0x4000 ≤ ix && ix < 0x4200 then tenantOf ((ix - 0x4000) / 64)
  else if 0x5000 ≤ ix && ix < 0x5080 then tenantOf ((ix - 0x5000) / 16)
  else if 0x5100 ≤ ix && ix < 0x5180 then tenantOf ((ix - 0x5100) / 16)
  else if (0x1310 ≤ ix && ix ≤ 0x1313) || ix == 0x1320 || (0x1440 ≤ ix && ix ≤ 0x1443) || ix == 0x1910 || ix == 0x1911
      || (0x1921 ≤ ix && ix ≤ 0x1925) || ix == 0x6020 || ix == 0x6021 || ix == 0x7010 || ix == 0x7011 then tenantOf sub
  else none

/-- A computed value; none where the entry's value is the configuration's. -/
def Dev.computed (d : Dev) (r : Req) (ix sub : Nat) : Option Bytes :=
  if ix < 0x1400 then d.ro10 ix sub
  else if ix < 0x1800 then d.ro14 ix sub
  else if ix < 0x2000 then d.ro18 r ix sub
  else if ix < 0x3000 then (tenantOf ((ix - 0x2000) / 256)).bind fun t => d.ro20 t (ix % 256) sub
  else if ix < 0x4000 then if h : sub < 52 then d.ro30 ix ⟨sub, h⟩ else none
  else if 0x5000 ≤ ix && ix < 0x5080 then (tenantOf ((ix - 0x5000) / 16)).bind fun t => d.ro50 t (ix % 16) sub
  else if 0x5100 ≤ ix && ix < 0x5180 then (tenantOf ((ix - 0x5100) / 16)).bind fun t => d.ro51 t (ix % 16) sub
  else if 0x6000 ≤ ix && ix < 0x7000 then d.ro60 ix sub
  else if 0x7000 ≤ ix then d.ro70 ix sub
  else none

/-- The value of an entry; the entries of an absent tenant read their defaults (R334), but the GF entries read the same at every
tenant's index (R173), and MODE shows the device's mode (R459). -/
def Dev.value (d : Dev) (r : Req) (ix sub : Nat) : Bytes :=
  let own := match entryTenant ix sub with | some t => d.present t | none => true
  let gf := decide (0x2000 ≤ ix ∧ ix < 0x2800) && (ix % 256 == 0x21 || (ix % 256 == 0 && sub == 1))
  if !own && !gf then entryDefault ix sub else (d.computed r ix sub).getD (d.dict.cfg.get ix sub)

/-- ARCHIVE_DIR: TYPE, KEY, the offsets of the two copies, SEQ and status. The offsets within the areas of Table CA-8 and
the status codes are the implementation's (notes/assumptions/21). -/
def Dev.archiveDir (d : Dev) (sub : Nat) : Bytes :=
  match archTypes[sub]? with
  | none => zeros 16
  | some (typ, key) =>
    let ok := fun (b : Bool) => (d.cal.copies typ key).any fun a => a.copyB == b && a.valid
    let seq := match d.cal.record typ key with | some r => r.seq | none => 0
    be 2 typ ++ be 1 key ++ be 4 (Config.archOffset typ key false % 2 ^ 32) ++ be 4 (Config.archOffset typ key true % 2 ^ 32)
      ++ be 4 seq ++ be 1 (Config.archStatus (ok false) (ok true)).toNat

/-- Bytes of ARCHIVE_IMAGE, `n` from offset `o`, as stored: those of a record's copy where one stands there. The directory, the
checkpoint ring, the counters' area and unwritten bytes have no layout in the manual and read free values (notes/assumptions/21). -/
def Dev.imageBytes (d : Dev) (parts : List (Nat × Bytes)) (o : Nat) : Nat → Dev × Bytes
  | 0 => (d, [])
  | n + 1 =>
    match parts.findSome? fun p => if p.1 ≤ o then p.2[o - p.1]? else none with
    | some b => let (d1, bs) := Dev.imageBytes d parts (o + 1) n; (d1, b :: bs)
    | none => let (v, d1) := d.free; let (d2, bs) := Dev.imageBytes d1 parts (o + 1) n; (d2, BitVec.ofNat 8 v.toNat :: bs)

/-- READ of one item (R338, R340, R370): the state, the status and the value. -/
def State.readItem (s : State) (r : Req) (ix sub : Nat) (shadow : Bool) : State × Nat × Bytes :=
  match lookupEntry ix sub with
  | none => (s, stNoObject, [])
  | some e =>
    if e.acc = .wo then (s, stNoRight, [])
    else match e.ty with
      | .domain _ => (s, stType, [])
      | _ =>
        if 0x5000 ≤ ix && ix < 0x5080 && ix % 16 = 2 then
          match tenantOf ((ix - 0x5000) / 16), (if h : sub < 48 then some (⟨sub, h⟩ : Pin) else none) with
          | some t, some p =>
            if s.dev.present t then let (s1, st, v) := s.failCount t p; (s1, st, be 8 v) else (s, stOK, zeros 8)
          | _, _ => (s, stNoObject, [])
        else if ix = 0x6101 then (s, stOK, s.dev.archiveDir sub)
        else
          let sh := if shadow && e.acc = .rwc then (s.dev.dict.shadowOf r).find (keyOf ix sub) else none
          (s, stOK, sh.getD (s.dev.value r ix sub))

/-! ### DOMAIN entries -/

/-- The generation count of a DOMAIN (R357). -/
def Dict.gen (x : Dict) (key : Nat) : Nat := ((x.gens.find? fun p => p.1 == key).map (·.2)).getD 0

/-- The size of a DOMAIN as it reads: its table's. -/
def domainSize (ix sub : Nat) : Nat :=
  match lookupEntry ix sub with
  | some e => match e.ty with | .domain n => n | _ => 0
  | none => 0

/-- Bytes of a DOMAIN as stored, `n` from offset `o`. -/
def Dev.domainBytes (d : Dev) (ix sub o n : Nat) : Dev × Bytes :=
  let k := min n (domainSize ix sub - o)
  if ix = 0x6102 then d.imageBytes (d.cal.arch.map fun a => (a.offset, a.stored)) o k
  else if ix = 0x1603 then (d, (List.range k).map fun i => Mem.read d.rst.retained (o + i))
  else if ix = 0x6010 then (d, if h : sub < 52 then slice (d.block ⟨sub, h⟩) o k else [])
  else if 0x6011 ≤ ix && ix ≤ 0x6014 then 
    (d, if d.fuses.gradeB && ix ≥ 0x6013 then zeros k else if h : sub < 52 then slice (d.setBlock (ix - 0x6011) ⟨sub, h⟩) o k else [])
  else (d, slice (d.dict.cfg.get ix sub) o k)

/-- READ_BLOCK of one item (R357, R369, R370): offset, generation and bytes. -/
def Dev.readBlockItem (d : Dev) (r : Req) (ix sub o n : Nat) : Dev × Nat × Bytes :=
  match lookupEntry ix sub with
  | none => (d, stNoObject, [])
  | some e =>
    if e.acc = .wo then (d, stNoRight, [])
    else match e.ty with
      | .domain _ =>
        if n = 0 || n > 1024 then (d, stRange, [])
        else
          let key := keyOf ix sub
          let gen := d.dict.gen key
          let mine := fun (m : GenMark) => m.req == r && m.key == key
          let d1 := if o = 0 then
              { d with dict := { d.dict with genMarks := { req := r, key := key, gen := gen } :: d.dict.genMarks.filter fun m => !mine m } }
            else d
          let fresh := match d1.dict.genMarks.find? mine with | some m => m.gen == gen | none => false
          let (d2, bs) := d1.domainBytes ix sub o n
          (d2, if fresh then stOK else stTorn, be 4 o ++ be 4 gen ++ bs)
      | _ => (d, stType, [])

end Sys2Proof.Machine
end

