-- ==== Sys2Proof/Machine/Reply.lean ====
section
/-! DEFINITION. The answers of the dictionary: ODP replies in parts with their tags (R368-R374, R380, R381), and the
replies of the management plane's messages (Table TM-5). -/
namespace Sys2Proof.Machine

/-- The opcode byte of a reply's request and the fields it copies (R368). -/
structure OdpHead where
  tenant : Nat
  opcode : Nat
  credential : Nat
  session : Nat
  sequence : Nat

/-- The 24 bytes of a reply header (Table NP-4). -/
def OdpHead.bytes (h : OdpHead) (flags count status detail : Nat) : Bytes :=
  natBE 1 1 ++ natBE 1 flags ++ natBE 1 h.tenant ++ natBE 1 h.opcode ++ natBE 8 h.credential ++ natBE 2 h.session
    ++ natBE 2 count ++ natBE 4 h.sequence ++ natBE 1 status ++ natBE 1 detail ++ zeros 2

/-- A frame leaves a port, from UDP port 44852 and with the tag in use, or is discarded with the port down (R381). -/
def Dev.sendOdp (d : Dev) (port : Fin 2) (dst : Nat) (payload : Bytes) : Dev :=
  if (vget d.odp.port port).link then d.send (.odpReply port dst (d.vlanOf port) payload) else d

/-- Pack reply items into parts of at most `room` bytes of items, in order (R371). -/
def packParts (room : Nat) : List Bytes → List Bytes → Nat → List (List Bytes)
  | [], cur, _ => [cur.reverse]
  | x :: xs, cur, n =>
    if n + x.length > room && !cur.isEmpty then cur.reverse :: packParts room xs [x] x.length
    else packParts room xs (x :: cur) (n + x.length)

/-- An authentic reply: its parts with their tags under the key of the request (R371, R374). -/
def Dev.odpReply (d : Dev) (port : Fin 2) (dst : Nat) (h : OdpHead) (held : Bool) (key : Bytes) (status : Nat) (pre : Bytes)
    (items : List Bytes) : Dev :=
  let parts := packParts (1368 - pre.length) items [] 0
  parts.zipIdx.foldl (fun (d : Dev) (p : List Bytes × Nat) =>
    let flags := 1 + 4 * ofBool held + 8 * ofBool (decide (p.2 + 1 < parts.length))
    let msg := h.bytes flags p.1.length status p.2 ++ pre ++ p.1.flatten
    d.sendOdp port dst (msg ++ (hmacSha256 key msg).take 16)) d

/-- A reply that carries no valid tag, at most once per millisecond per port (R380). -/
def Dev.unauthReply (d : Dev) (port : Fin 2) (dst : Nat) (h : OdpHead) (held : Bool) (status detail : Nat) : Dev :=
  if (vget d.odp.port port).lastUnauthMs = some d.tb.ms then
    match tenantOf h.tenant with
    | some t => { d with odp := { d.odp with sess := vmod d.odp.sess t fun x => { x with authFails := satAdd 32 x.authFails 1 } } }
    | none => d
  else
    let d1 := { d with odp := { d.odp with port := vmod d.odp.port port fun p => { p with lastUnauthMs := some d.tb.ms } } }
    d1.sendOdp port dst (h.bytes (3 + 4 * ofBool held) 0 status detail ++ zeros 16)

/-- The reply to a management message (Table TM-5). -/
def Dev.mgmtReply (d : Dev) (tag command status count detail : Nat) (body : Bytes) : Dev :=
  d.send (.mctp tag 0x7F (command + 0x80)
    (natBE 4 d.fuses.iana ++ natBE 1 (command + 0x80) ++ natBE 1 status ++ natBE 2 count ++ natBE 1 detail ++ zeros 3 ++ body))

/-- One request of a session is no longer in flight (R383). -/
def Dev.landed (d : Dev) (t : Tenant) (session : Nat) : Dev :=
  { d with odp := { d.odp with sess := vmod d.odp.sess t fun x =>
      if x.number = session then { x with inFlight := x.inFlight - 1 } else x } }

/-- Answer a request: status, prefix and reply items or the one result block (R382). -/
def Dev.answer (d : Dev) (dest : ReplyTo) (status : Nat) (pre : Bytes) (items : List Bytes) : Dev :=
  match dest with
  | .odp port src t opcode cred session seq held key =>
    (d.odpReply port src { tenant := t.val, opcode := opcode, credential := cred, session := session, sequence := seq } held key
      status pre items).landed t session
  | .smbus tag _ => d.mgmtReply tag 1 status items.length 0 (pre ++ items.flatten)
  | .direct _ => d
  | .none => d

/-- The answer of a COMMIT (Table NP-6a): frame number and epoch, or zeros unless OK. -/
def Dev.answerCommit (d : Dev) (dest : ReplyTo) (status : Nat) : Dev :=
  d.answer dest status [] [if status = stOK then natBE 8 d.frame ++ natBE 4 d.epoch ++ zeros 4 else zeros 16]

/-- A reply item (Table NP-6): the header, the value, and padding to a multiple of 4. -/
def replyItem (ix sub status : Nat) (value : Bytes) : Bytes :=
  natBE 2 ix ++ natBE 1 sub ++ natBE 1 status ++ natBE 2 value.length ++ zeros 2 ++ value ++ zeros ((4 - value.length % 4) % 4)

/-- The reply item of an item of an answer: only a read that was served carries a value. -/
def AnsItem.bytes (i : AnsItem) : Bytes := replyItem i.ix i.sub i.status (if i.status = stOK || i.status = stTorn then i.value else [])

/-- Answer a request that carries items (R382). -/
def Dev.answerItems (d : Dev) (dest : ReplyTo) (items : List AnsItem) : Dev :=
  match dest with
  | .direct r => items.foldl (fun d i => d.send (.itemStatus r i.ix i.sub i.status)) d
  | _ => d.answer dest stOK [] (items.map AnsItem.bytes)

end Sys2Proof.Machine
end

