-- ==== Sys2Proof/Machine/Clock.lean ====
section
/-! DEFINITION. The end of a tick, the passing of ticks, and the meanings of the commands of the time base (chapter 2). -/
namespace Sys2Proof.Machine

/-! ### The end of a tick -/

/-- The answers that waited for the end of the tick (R90); `served` gives each commanded channel its status. -/
def Dev.answerHeld (d : Dev) (served : List (Chan × Nat)) : Dev :=
  let settle := fun (i : AnsItem) =>
    if i.status ≠ stPending then i
    else { i with status := match served.find? fun x => x.1.val == i.sub with | some x => x.2 | none => stMode }
  d.heldAnswers.foldl (fun d h => d.answerItems h.dest (h.items.map settle)) { d with heldAnswers := [] }

/-- What is settled at the end of a tick: trigger events in their order (R242), WAITs and their clears (R157, R161), the
retirements of the tick (R90), the values of the flags that JUMPs of the next tick see (R161), and the records of the tick (R414). -/
def Dev.endTick (d : Dev) : Dev :=
  let d1 := (allTenants.foldl (fun d t => d.endTriggers t) d).endWaits
  let r := d1.serveRetires
  let d2 := r.1.answerHeld r.2
  Dev.flushTick { d2 with gf0 := d2.gf, seqs := d2.seqs.map fun s => { s with tf0 := s.tf }, flagOps := [], tickEvents := [] }

/-- A reset other than power-on has frozen the drive code until B6 (R507): the history names one (R527). -/
def Dev.codeFrozen (d : Dev) : Bool := decide (d.rst.phase < 6) && !d.rst.history.isEmpty

/-- The servo runs (R503, R507). -/
def Dev.servoRuns (d : Dev) : Bool := (d.fuses.isoBoot || d.dict.cfg.nat 0x1510 0 == 1) && !d.codeFrozen

/-- A drive-code step of the servo: the law is not stated, and a free value chooses within 16 codes (notes/assumptions/2). -/
def Dev.servoStep (d : Dev) : Dev :=
  let (v, d1) := d.free
  let k := v.toNat % 33
  { d1 with heater := { d1.heater with code := min 4095 (d.heater.code + k - 16), frozen := false } }

/-- One step of the drive code (R504): the servo's, or with the servo stopped one of the ramp to 0. -/
def Dev.driveStep (d : Dev) : Dev :=
  if d.servoRuns then d.servoStep else { d with heater := { d.heater with code := d.heater.code - 16, frozen := false } }

/-- A drive step that waits is made once one of the next `n` ticks is not withheld (R281); a frame's ticks are looked at, at most. -/
def Dev.heaterWait (d : Dev) (n : Nat) : Dev :=
  if d.heater.frozen && ((List.range (Nat.min n 1024)).any fun i => !d.withheldTick (d.tb.tick + 1 + i)) then d.driveStep else d

/-- `n` ticks pass: the present one ends, what was in force goes on record; device time, Tahr's clock and the stall counts move,
and trigger points are reached (R258). -/
def Dev.runTicks (d : Dev) (n : Nat) : Dev :=
  allTenants.foldl (fun d t => d.trigReached t) (((d.endTick.heaterWait n).note.passTicks n).passStall n)

/-- The tick ends, in the memory as well. -/
def State.endTick (s : State) : State :=
  let s1 := s.drainGalleries.ctrlReturns s.dev.tb.tick
  { s1 with dev := s1.dev.endTick }

/-- `n` ticks pass in which no effect of an engine reaches its outputs; the Gallery writes what the present one has brought
(R222), and control fetches return (R177). -/
def State.passTicks (s : State) (n : Nat) : State :=
  let s1 := s.drainGalleries.ctrlReturns (s.dev.tb.tick + n - 1)
  { s1 with dev := s1.dev.runTicks n }

/-- `n` ticks pass, and the effects that fall due in them take place at the engines' outputs (R176). -/
def State.runTicks (s : State) (n : Nat) : State :=
  let last := s.dev.tb.tick + n
  let goTo := fun (s : State) (tick : Nat) => if s.dev.tb.tick < tick then s.passTicks (tick - s.dev.tb.tick) else s
  goTo ((s.dev.micro.outs.filter fun o => decide (o.due ≤ last)).foldl (fun s o => (goTo s o.due).microOut) s) last

/-- The ticks from the present one to the end of the frame. -/
def Dev.ticksLeft (d : Dev) : Nat := ticksPerFrame - d.tb.tick % ticksPerFrame

/-- The ticks to the first tick whose start lies at or after an alarm time in the frame (R56): a slew moves that start by less
than a tick. While the handover is incomplete, on to the always-on edge (R59). -/
def Dev.alarmTicks (d : Dev) (al : Nat) : Nat :=
  let near := ceilDiv (al - d.tb.devFine) finePerTick
  let n := ([near - 1, near].find? fun k => decide (al ≤ d.fineAhead k)).getD (near + 1)
  if d.tb.handover.isSome then n + (ticksPerUs - (d.tb.usPhase + n) % ticksPerUs) % ticksPerUs else n

/-- What a fired alarm brings beside its record: a wake (R496), a trigger at `pos` in fine steps of the tick counter (R56), and
an event to the event inputs bound to it (Table PS-9, sources 4 and 5) at the alarm time. -/
def Dev.alarmEffects (d : Dev) (owner : Fin 9) (which : Fin 2) (pos : Nat) : Dev :=
  let d1 := if bit (d.dict.cfg.nat 0x1442 owner.val) (2 + which.val) then d.wake (if owner.val = 8 then 5 else 4) else d
  match tenantOf owner.val with
  | some t =>
    (if d1.alarmToTrigger owner which then d1.trigDeliver t (7 + which.val) pos else d1).deliverAt t (4 + which.val)
      (d.alarmFine owner which)
  | none => d1

/-- Time runs to a tick of the present frame, where the clocks run; a tick that is past is now. None for a tick beyond. -/
def State.reach (s : State) (tick : Nat) : Option State :=
  if tick ≤ s.dev.tb.tick then some s
  else if s.dev.tb.fast && decide (tick - s.dev.tb.tick < s.dev.ticksLeft) then some (s.runTicks (tick - s.dev.tb.tick))
  else none

/-- What happens in a tick of the present frame that a command announces: time runs to it first. A tick that is not known, or
not in this frame, brings nothing. -/
def State.atTick (s : State) (tick : Option Nat) (f : State → State) : State :=
  match tick.bind s.reach with
  | some s1 => f s1
  | none => s

/-- The present tick is over: the next begins, or, in the last tick of the frame, its end alone. -/
def State.closeTick (s : State) : State := if s.dev.tb.fast && decide (1 < s.dev.ticksLeft) then s.runTicks 1 else s.endTick

/-- ALARM_FIRED (R56, R58, R59): an armed alarm whose time lies at or before a tick of the present frame fires at the first
tick whose start is at or after it; with the fast clocks stopped, at the always-on edge at or after its time. Time runs to
that tick. -/
def State.alarmFired (s : State) (owner : Fin 9) (which : Fin 2) : State :=
  let d := s.dev
  let al := d.alarmFine owner which
  let fire := fun (s : State) (pos : Dev → Nat) =>
    let d := s.dev
    { s with dev := (d.fireAlarm owner which false).alarmEffects owner which (pos d) }
  if (vget (vget d.tb.alarms owner) which).status ≠ 1 then s
  else if !d.tb.fast then
    fire { s with dev := d.passAsleep (ceilDiv (al - d.tb.devFine) (1000 * finePerNs)) } Dev.fineNow
  else s.atTick (some (d.tb.tick + d.alarmTicks al)) fun s => fire s fun d => d.fineNow - (d.tb.devFine - al)

/-- The alarms that a forward step from `old` has passed fire at the first tick of the stepped frame, with all their effects
(R58). -/
def Dev.fireStepped (d : Dev) (old : Nat) : Dev :=
  (d.steppedAlarms.filter fun p => decide (old < d.alarmFine p.1 p.2)).foldl
    (fun d p => (d.fireAlarm p.1 p.2 true).alarmEffects p.1 p.2 d.fineNow) d

/-- A frame edge of the tick counter at which the logic does not run: in bring-up, and in Stairs 1 and 2 (Table PL-1). The time
base acts (R31, R41, R47-R49), and the faults of the ending frame close (R571). -/
def Dev.timeOnlyEdge (d : Dev) : Dev :=
  let d0 := { d with atEdge := true }
  let d1 := if d.rst.phase = 8 then d0.closeFaults else d0
  (d1.timeEdge.fireStepped d1.tb.devFine).flushEdge

/-- `n` ticks pass in which the logic does not run, with the frame edges among them: the first, which may complete a handover,
and the last; between them no command comes and only time moves. -/
def Dev.runAcross (d : Dev) (n : Nat) : Dev :=
  if n < d.ticksLeft then d.runTicks n
  else
    let d1 := (d.runTicks d.ticksLeft).timeOnlyEdge
    let rest := n - d.ticksLeft
    let whole := rest / ticksPerFrame * ticksPerFrame
    (if whole = 0 then d1 else (d1.runTicks whole).timeOnlyEdge).runTicks (rest - whole)

/-! ### Meanings -/

/-- REFIN_COUNT (R28). -/
def execRefinCount (edges : Nat) (lock : Bool) (s : State) : Host.Outcome State Fault Refusal :=
  .next { s with dev := s.dev.refinCount edges lock }

/-- REFIN_LOSS (R32). -/
def execRefinLoss (s : State) : Host.Outcome State Fault Refusal := .next { s with dev := s.dev.refinLoss }

/-- CORE_PLL_UNLOCK (R33): the tick in which it falls is the last. -/
def execCorePllUnlock (s : State) : Host.Outcome State Fault Refusal :=
  let s1 := s.endTick
  .next { s1 with dev := s1.dev.corePllUnlock }

/-- ESMC_MESSAGE (R46). -/
def execEsmcMessage (port : Fin 2) (ql : Nat) (s : State) : Host.Outcome State Fault Refusal :=
  .next { s with dev := s.dev.esmc port ql }

/-- SYNCE_QUALIFY (Table TB-1). -/
def execSynceQualify (s : State) : Host.Outcome State Fault Refusal := .next { s with dev := s.dev.synceQualify }

/-- SYNCE_LOSS (R50). -/
def execSynceLoss (s : State) : Host.Outcome State Fault Refusal := .next { s with dev := s.dev.synceLoss }

/-- PPS_PULSE (R29, R37). -/
def execPpsPulse (fine : Fin 8192) (widthNs : Nat) (s : State) : Host.Outcome State Fault Refusal :=
  .next { s with dev := s.dev.ppsPulse fine widthNs }

/-- PPS_LOSS (R50). -/
def execPpsLoss (s : State) : Host.Outcome State Fault Refusal := .next { s with dev := s.dev.ppsLoss }

/-- PTP_MESSAGE (R36, R45). -/
def execPtpMessage (port : Fin 2) (transport : Fin 3) (domain : Nat) (m : PtpMsg) (s : State) :
    Host.Outcome State Fault Refusal :=
  .next { s with dev := s.dev.ptpMessage port transport.val domain m }

/-- PTP_MESSAGE_TRANSMIT (R45, Table TB-4). -/
def execPtpMessageTransmit (kind : PtpTx) (s : State) : Host.Outcome State Fault Refusal :=
  .next { s with dev := s.dev.ptpTransmit kind }

/-- PTP_LOSS (R50). -/
def execPtpLoss (s : State) : Host.Outcome State Fault Refusal := .next { s with dev := s.dev.ptpLoss }

/-- HOLDOVER_EXPIRED (R49, R50). -/
def execHoldoverExpired (s : State) : Host.Outcome State Fault Refusal := .next { s with dev := s.dev.holdoverExpired }

/-- UNCERTAINTY_RECOMPUTE (R54). -/
def execUncertaintyRecompute (s : State) : Host.Outcome State Fault Refusal := .next { s with dev := s.dev.recompute }

/-- HANDOVER_SEED (R41): while an exit from Stair 3 or deeper, or bring-up, brings the fast domain up (R40). -/
def execHandoverSeed (s : State) : Host.Outcome State Fault Refusal :=
  let d := s.dev
  .next { s with dev := if d.rst.phase = 8 && d.stairs.waking.isNone then d else d.handoverSeed }

/-- HANDOVER_CORRECTION (R41-R43). -/
def execHandoverCorrection (first second : Int) (s : State) : Host.Outcome State Fault Refusal :=
  .next { s with dev := s.dev.handoverCorrection first second }

/-- ALARM_FIRED (R56). -/
def execAlarmFired (owner : Fin 9) (which : Fin 2) (s : State) : Host.Outcome State Fault Refusal :=
  .next (s.alarmFired owner which)

end Sys2Proof.Machine
end

