-- ==== Sys2Proof/Machine/Checks.lean ====
section
/-! DEFINITION. The checks that a write of one value meets (R335, R336, R339, R341): the type, the range of its entry and
the rights, those that depend on the value included. -/
namespace Sys2Proof.Machine

/-! ### Types (Table OD-1) -/

/-- The value has a length of the type (TYPE otherwise). -/
def DType.sizeOk (ty : DType) (v : Bytes) : Bool :=
  match ty with
  | .bool => v.length == 1
  | .u n => v.length == n
  | .i n => v.length == n
  | .f64 => v.length == 8
  | .time96 => v.length == 12
  | .dur64 => v.length == 8
  | .str _ => true
  | .record n => v.length == n
  | .domain _ => false

/-- The type can hold the value (RANGE otherwise). -/
def DType.holdsValue (ty : DType) (v : Bytes) : Bool :=
  match ty with
  | .bool => decide (beNat v ≤ 1)
  | .f64 => !f64NotFinite (BitVec.ofNat 64 (beNat v))
  | .time96 => decide ((timeOfBE v).ns < 1000000000)
  | .str m => decide (v.length ≤ m) && v.all fun b => decide (0x20 ≤ b.toNat ∧ b.toNat ≤ 0x7E)
  | _ => true

/-- F64 entries that hold an uncertainty, a tolerance, a limit or a temperature coefficient (R336). -/
def refusesNegative (ix sub : Nat) : Bool :=
  (ix == 0x1410 && (sub == 8 || sub == 9)) || ix == 0x1420 || (ix == 0x6003 && (sub == 2 || sub == 3))
    || (ix == 0x6004 && decide (sub ≤ 2)) || ix == 0x6032 || ix == 0x6033 || (ix == 0x6034 && sub == 1) || (ix == 0x6035 && sub == 1)

/-! ### Ranges of the entries -/

/-- EVQn_CFG (R416). -/
def evqCfgOk (v : Bytes) : Bool :=
  v == zeros 16 ||
    (fieldBE v 0 8 % 4096 == 0 && decide (6 ≤ fieldBE v 8 1 ∧ fieldBE v 8 1 ≤ 20) && decide (fieldBE v 9 1 ≤ 63)
      && decide (fieldBE v 10 1 ≤ 1) && fieldBE v 11 1 == 0 && !bit (fieldBE v 12 4) 0 && decide (fieldBE v 12 4 < 2 ^ 19))

/-- STREAM_RING (Table HQ-3). -/
def streamRingOk (v : Bytes) : Bool :=
  decide (fieldBE v 4 1 ≤ 63) && decide (fieldBE v 5 1 ≤ 1) && allZero (slice v 6 10)

/-- IP_CFG (Table NP-3); the value of all zeros is the default. -/
def ipCfgOk (v : Bytes) : Bool :=
  v == zeros 48 ||
    (!bit (fieldBE v 0 1) 0
      && (!bit (fieldBE v 6 2) 15 || decide (1 ≤ bits (fieldBE v 6 2) 11 0 ∧ bits (fieldBE v 6 2) 11 0 ≤ 4094))
      && (!bit (fieldBE v 13 1) 0 || decide (8 ≤ fieldBE v 12 1 ∧ fieldBE v 12 1 ≤ 30))
      && (!bit (fieldBE v 13 1) 1 || decide (16 ≤ fieldBE v 32 1 ∧ fieldBE v 32 1 ≤ 127))
      && decide (fieldBE v 13 1 < 8) && fieldBE v 14 2 == 0 && allZero (slice v 33 15))

/-- STAIR_POLICY (Table PL-2). -/
def stairPolicyOk (v : Bytes) : Bool :=
  decide (fieldBE v 0 1 ≤ 6) && decide (fieldBE v 1 1 ≤ 3) && decide (fieldBE v 2 1 ≤ 7) && fieldBE v 3 1 == 0
    && allZero (slice v 8 8)

/-- QUOTA: byte k lies in the region's range (R436). -/
def quotaOk (v : Bytes) : Bool :=
  decide (fieldBE v 0 1 ≤ 32) && decide (fieldBE v 1 1 ≤ 16) && decide (fieldBE v 2 1 ≤ 12) && decide (fieldBE v 3 1 ≤ 16)

/-- DC_CFG (R469). -/
def dcCfgOk (v : Bytes) : Bool :=
  let src := fieldBE v 1 1
  decide (fieldBE v 0 1 ≤ 2) && (decide (src ≤ 0x33) || decide (0x80 ≤ src ∧ src ≤ 0x85) || src == 0x8F)
      && decide (fieldBE v 2 1 ≤ 2) && (decide (src ≤ 0x33) || fieldBE v 2 1 == 0) && fieldBE v 3 1 == 0
      && decide (16 ≤ fieldBE v 4 4 ∧ fieldBE v 4 4 ≤ 2097152) && allZero (slice v 12 4)

/-- FS_REACTION of a source (R565). -/
def reactionOk (src v : Nat) : Bool :=
  match faultRow src with
  | some r => r.allowed.contains (v % 16) && bits v 6 4 == 0
  | none => v == 0

/-- FAULT_FORCE: no bit names a reserved source (R575). -/
def forceOk (k v : Nat) : Bool := (List.range 32).all fun n => !bit v n || (faultRow (32 * k + n)).isSome

/-- The event sources of Table PS-9 that EI_BIND may name. -/
def eiSourceOk (c : Cfg) (t : Tenant) (src : Nat) : Bool :=
  decide (src ≤ 6) || decide (16 ≤ src ∧ src ≤ 31)
    || (decide (32 ≤ src ∧ src ≤ 63) && bit (c.nat (0x2020 + 0x100 * t.val) 0) (src - 32)) || src == 0xFF

/-- EI_BIND (R163): defined sources, not the same twice, a GF with its grant. -/
def eiBindOk (c : Cfg) (t : Tenant) (v : Nat) : Bool :=
  eiSourceOk c t (v % 256) && eiSourceOk c t (v / 256) && (v % 256 == 0xFF || v % 256 != v / 256)

/-- ACQ_REDUCE_SEL as written (R254): codes to 6, none repeated, low bytes first. -/
def reduceSelOk (v : Nat) : Bool :=
  let b := (natLE 4 v).map (·.toNat)
  let used := b.takeWhile fun k => k != 0
  b.all (fun k => decide (k ≤ 6)) && (b.drop used.length).all (fun k => k == 0) && decide used.Nodup

/-- A TSET_PIN record has no reserved bit set (R4). -/
def tsPinOk (v : Bytes) : Bool := decide (fieldBE v 25 1 ≤ 3) && fieldBE v 26 2 == 0

/-- The block codes of Table RB-4. -/
def blockCode (c : Nat) : Bool :=
  decide (c ≤ 0x08) || decide (0x10 ≤ c ∧ c ≤ 0x53) || decide (0x60 ≤ c ∧ c ≤ 0x65)

/-- CAL_REQ (R302): no reserved bit, a defined procedure, a channel and an item named. -/
def calReqOk (v : Bytes) : Bool :=
  let code := fieldBE v 0 1
  let items := fieldBE v 2 2
  let chans := fieldBE v 4 7
  decide (fieldBE v 1 1 < 4) && decide (items < 128) && decide (chans < 2 ^ 52) && fieldBE v 11 5 == 0
    && (code == 0xFF || (chans != 0 && (items != 0 || code == 2) && (code == 1 || code == 2)))

/-- Ranges at 0x1100 to 0x17FF. -/
def rangeLow (d : Dev) (ix sub : Nat) (v : Bytes) : Bool :=
  let n := beNat v
  if ix = 0x1100 then decide (n ≤ 1)
  else if ix = 0x1101 then decide (fieldBE v 8 1 ≤ 1) && allZero (slice v 9 7)
  else if ix = 0x1102 then decide (n ≤ 7) || n == 0xFF
  else if ix = 0x1103 then quotaOk v
  else if ix = 0x1109 then n != 0
  else if ix = 0x1200 then n % 4 != 3 && decide (n < 16)
  else if ix = 0x1202 then ipCfgOk v
  else if ix = 0x1280 then
    if sub = 2 then decide (n ≤ 1) else if sub = 4 then decide (n ≤ 2) else if sub = 5 then decide (n ≤ 1)
    else if sub = 8 || sub = 9 then decide (-7 ≤ toSigned 8 n) && decide (toSigned 8 n ≤ 1) else true
  else if ix = 0x1290 then sub != 1 || decide (n ≤ 1)
  else if 0x1310 ≤ ix && ix ≤ 0x1313 then evqCfgOk v
  else if ix = 0x1320 then streamRingOk v
  else if ix = 0x1403 then
    let t := timeOfBE v
    !(decide (d.dict.cfg.nat 0x1410 3 ≤ 2) && d.tb.todActive != 2) || (t.ns == 0 && t.sub == 0)
  else if ix = 0x1410 then
    if sub = 1 then decide (n ≤ 3) else if sub = 2 then decide (n ≤ 3) else if sub = 3 then decide (n ≤ 4)
    else if sub = 4 then decide (n ≤ 1) else true
  else if ix = 0x1442 then decide (n ≤ 0x3F)
  else if ix = 0x1500 then decide (n ≤ 6)
  else if ix = 0x1501 then stairPolicyOk v
  else if ix = 0x1502 then decide (n ≤ 0x7F)
  else if ix = 0x1510 && sub ≠ 0 then
    let q := f64ToQ (BitVec.ofNat 64 n)
    (Q.ofInt 40).le q && q.le (Q.ofInt 85)
  else true

/-- Ranges at 0x1800 to 0x3FFF. -/
def rangeMid (d : Dev) (ix sub : Nat) (v : Bytes) : Bool :=
  let n := beNat v
  let o := ix % 256
  if ix = 0x1802 then n == 0xFF || (faultRow n).isSome
  else if ix = 0x1810 then reactionOk sub n
  else if ix = 0x1920 then decide (n ≤ 63)
  else if ix < 0x2000 then true
  else if ix < 0x2800 then
    if o = 0x00 then decide (n ≤ 9)
    else if o = 0x10 then (if sub = 0 then decide (n ≤ 2) else if sub = 3 then decide (n ≤ 1) else true)
    else if o = 0x24 then (match tenantOf ((ix - 0x2000) / 256) with | some t => eiBindOk d.dict.cfg t n | none => false)
    else if o = 0x2C then decide (n ≤ 0xF)
    else true
  else if ix = 0x3003 then decide (n ≤ 3)
  else if ix = 0x3004 then n % 2 == 0 && decide (200 ≤ n ∧ n ≤ 1200)
  else if ix = 0x3005 then n % 4 == 0 && decide (n ≤ 1000)
  else if ix = 0x3006 then decide (n ≤ 1)
  else if ix = 0x3008 then decide (n ≤ 2)
  else if ix = 0x3009 || ix = 0x300A then decide ((toSigned 16 n).natAbs ≤ 3200)
  else if ix = 0x300B then decide (n ≤ 16)
  else if ix = 0x300C then decide (n ≤ 127)
  else if ix = 0x300D then decide (n ≤ 3)
  else if ix = 0x3010 then n == 1
  else if ix = 0x3011 then n == 1 || n == 2
  else if ix = 0x3018 || ix = 0x3019 || ix = 0x301A then n == 0
  else true

/-- Ranges at 0x4000 and above. -/
def rangeHigh (ix sub : Nat) (v : Bytes) : Bool :=
  let n := beNat v
  let o := ix % 16
  if ix < 0x4200 then (if sub < 0x30 then tsPinOk v else if sub = 0x41 then decide (n ≤ 3) else true)
  else if ix < 0x5080 then
    if sub = 0 then decide (n ≤ 3) else if sub = 1 then decide (n ≤ 7) else if sub = 2 then decide (n ≥ 1)
    else if sub = 6 then decide (n ≤ 3) else true
  else if ix < 0x5180 then
    if o = 0 then
      match sub with
      | 0x00 => decide (n ≤ 2)
      | 0x01 => decide (1 ≤ n ∧ n ≤ 3)
      | 0x02 => decide (n ≤ 2)
      | 0x03 => reduceSelOk n
      | 0x04 => decide (n ≥ 1)
      | 0x07 => decide (n ≥ 1)
      | 0x08 => decide (n < 2 ^ 48)
      | 0x09 => decide (n ≤ 7)
      | 0x0B => decide (1 ≤ n ∧ n ≤ 32)
      | 0x0E => decide (n ≤ 3)
      | _ => true
    else if o = 1 then
      match sub with
      | 0x00 => decide (n ≤ 1)
      | 0x03 => decide (n ≥ 1)
      | 0x05 => decide (n ≤ finePerSecond)
      | 0x06 => decide (n ≤ 3)
      | 0x07 => decide (n ≤ 0xF)
      | 0x09 => decide (n ≤ 0xF)
      | 0x0A => decide (n ≥ 1)
      | _ => true
    else decide (n ≤ 5)
  else if ix = 0x6004 then
    if sub = 3 then decide (2 ≤ n ∧ n ≤ 8)
    else if sub = 4 then (List.range 9).any fun k => n == 256 * 2 ^ k
    else true
  else if ix = 0x6020 then calReqOk v
  else if ix = 0x6034 && sub = 2 then decide (n ≤ 1)
  else if ix = 0x6100 then fieldBE v 1 7 == 0 && decide (1 ≤ fieldBE v 0 1 ∧ fieldBE v 0 1 ≤ 4)
  else if ix = 0x7000 then decide (n ≤ 1)
  else if ix = 0x7010 then dcCfgOk v
  else if ix = 0x7F20 then forceOk sub n
  else true

/-- The value lies in the range of its type and of its entry (R335, R336). -/
def Dev.valueOk (d : Dev) (ix sub : Nat) (ty : DType) (v : Bytes) : Bool :=
  ty.holdsValue v && !(refusesNegative ix sub && f64Negative (BitVec.ofNat 64 (beNat v)))
    && (if ix < 0x1800 then rangeLow d ix sub v else if ix < 0x4000 then rangeMid d ix sub v else rangeHigh ix sub v)

/-! ### Rights (R339) -/

/-- A channel of a sub-index. -/
def chanOf (n : Nat) : Option Chan := if h : n < 52 then some ⟨n, h⟩ else none

/-- A pin of a sub-index. -/
def pinOf (n : Nat) : Option Pin := if h : n < 48 then some ⟨n, h⟩ else none

/-- The entry belongs to the lane settings of Table PC-8 that follow a pin, or to the Reference Transfer paths. -/
def isLane (ix : Nat) : Bool := (decide (0x3003 ≤ ix ∧ ix ≤ 0x300E) && ix != 0x3007) || decide (0x6030 ≤ ix ∧ ix ≤ 0x6033)

/-- Tenant t owns the resource of an entry under a configuration (R99, R103, R339). -/
def Dev.owns (d : Dev) (c : Cfg) (t : Tenant) (ix sub : Nat) : Bool :=
  if ix = 0x1802 then true
  else if ix = 0x3011 then (match chanOf sub with | some ch => d.readmitOwner ch == some t | none => false)
  else if isLane ix || ix == 0x3010 then (match chanOf sub with | some ch => d.chOwnerIn c ch == some t | none => false)
  else
    entryTenant ix sub == some t &&
      (!(decide (0x4000 ≤ ix ∧ ix < 0x4200) && decide (sub < 0x30)) || (match pinOf sub with | some p => c.pinOwner p == some t | none => false))

/-- The requester has the right to write an entry, the value apart (R338, R339, R99, R103). -/
def Dev.mayWrite (d : Dev) (c : Cfg) (r : Req) (ix sub : Nat) (e : EntryRow) : Bool :=
  e.acc != .ro && match r with
    | .mgmt => e.rights.mgmt || e.rights.svc || ix == 0x1500
        || (decide (0x3003 ≤ ix ∧ ix ≤ 0x300E) && (match chanOf sub with | some ch => (vget d.chans ch).map.isNone | none => false))
    | .tenant t => c.present t && ((e.rights.own && d.owns c t ix sub) || ix == 0x1500)

/-- Every flag named is locked by the writer, or the writer is management (R173). -/
def Dev.gfRight (d : Dev) (r : Req) (v : Nat) : Bool :=
  r == .mgmt || (List.range 32).all fun n => !bit v n || d.gfHolder n == some r

/-- The rights that depend on the value (R81, R94, R173, R237, R262, R302, R469). -/
def Dev.valueRight (d : Dev) (c : Cfg) (r : Req) (ix sub : Nat) (v : Bytes) : Bool :=
  let n := beNat v
  let t? : Option Tenant := match r with | .tenant t => some t | .mgmt => none
  if ix = 0x300D then
    match chanOf sub with
    | none => false
    | some ch =>
      match t? with
      | some t => n != 3 && (n != 2 || d.chOwnerIn c (neighbour ch) == some t)
      | none => if (vget d.chans ch).map.isSome then n == 0 || n == 3 else n != 2
  else if ix = 0x3011 then n == 1 || t?.isNone
  else if 0x2000 ≤ ix && ix < 0x2800 && ix % 256 = 0x21 then d.gfRight r n
  else if 0x5100 ≤ ix && ix < 0x5180 && (ix % 16 = 2 || ix % 16 = 3) then
    n == 0 || (match t?, pinOf sub with | some t, some p => c.pinOwner p == some t | _, _ => false)
  else if 0x5100 ≤ ix && ix < 0x5180 && ix % 16 = 1 && sub = 9 then
    match t? with | some t => allLines.all fun k => !bit n k.val || c.trigGrant t k | none => false
  else if ix = 0x7010 then
    match t?, chanOf (fieldBE v 1 1) with
    | some t, some ch => d.chOwnerIn c ch == some t
    | _, _ => true
  else if ix = 0x6020 then d.calRight r v
  else true

/-- The state that a write needs (MODE), where the entry's own action does not judge it: Safe Hold (R343), Service (R339)
and CH_DISABLE (R97). -/
def Dev.writeMode (d : Dev) (ix sub : Nat) (e : EntryRow) (v : Bytes) : Bool :=
  (d.modes.device ≠ 11 || (decide (0x1800 ≤ ix ∧ ix ≤ 0x18FF) || ix == 0x7F20))
    && (!e.rights.svc || d.modes.device == 10)
    && (ix ≠ 0x3013 || match chanOf sub with
        | some ch => let st := (vget d.chans ch).st
                     if beNat v = 1 then st == .spare || st == .retired else st == .disabled
        | none => false)

/-- The checks of R341 up to MODE on a WRITE item: OK, or the status that refuses it. -/
def Dev.checkWrite (d : Dev) (r : Req) (ix sub : Nat) (v : Bytes) : Nat :=
  match lookupEntry ix sub with
  | none => stNoObject
  | some e =>
    let c := d.dict.cfg
    if ix = 0x1604 && !blockCode sub then stNoObject
    else if !d.mayWrite c r ix sub e then stNoRight
    else if !e.ty.sizeOk v then stType
    else if !d.valueOk ix sub e.ty v then stRange
    else if !d.valueRight c r ix sub v then stNoRight
    else if !d.writeMode ix sub e v then stMode
    else stOK

end Sys2Proof.Machine
end

