-- ==== Sys2Proof/Machine/Commit.lean ====
section
/-! DEFINITION. The checks that a COMMIT meets (R348), and its acceptance (R349, R351). -/
namespace Sys2Proof.Machine

/-! ### The commit under judgement -/

/-- A requester's shadow under judgement: the configuration in force, that with this shadow alone, and the prospective one
of R284, with every accepted commit too. -/
structure Judged where
  req : Req
  sh : Cfg
  force : Cfg
  own : Cfg
  pro : Cfg

/-- Judge a shadow (R284). -/
def Dev.judge (d : Dev) (r : Req) (sh : Cfg) : Judged :=
  let f := d.dict.cfg
  { req := r, sh := sh, force := f, own := f.overlay sh, pro := (d.dict.commits.foldl (fun c x => c.overlay x.entries) f).overlay sh }

/-- The shadow holds an entry. -/
def Judged.has (j : Judged) (ix sub : Nat) : Bool := (j.sh.find (keyOf ix sub)).isSome

/-- The shadow changes an entry in force. -/
def Judged.changes (j : Judged) (ix sub : Nat) : Bool :=
  match j.sh.find (keyOf ix sub) with
  | some v => v != j.force.get ix sub
  | none => false

/-- The shadow carries a number in an entry. -/
def Judged.carries (j : Judged) (ix sub n : Nat) : Bool :=
  match j.sh.find (keyOf ix sub) with
  | some v => beNat v == n
  | none => false

/-- The indices of the shadow's entries satisfy a test somewhere. -/
def Judged.anyKey (j : Judged) (f : Nat → Nat → Bool) : Bool := j.sh.any fun p => f (p.1 / 256) (p.1 % 256)

/-- Some changed entry satisfies a test. -/
def Judged.anyChange (j : Judged) (f : Nat → Nat → Bool) : Bool :=
  j.anyKey fun ix sub => f ix sub && j.changes ix sub

/-- The commit changes the pin groups of a tenant. -/
def Judged.regroups (j : Judged) (t : Tenant) : Bool := j.force.ownedGroups t != j.own.ownedGroups t

/-- The commit changes byte k of a tenant's QUOTA. -/
def Judged.requotas (j : Judged) (t : Tenant) (k : Nat) : Bool := j.force.quota t k != j.own.quota t k

/-- The tenant's mode that will stand after the Landing (R464). -/
def Dev.modeAfter (d : Dev) (j : Judged) (t : Tenant) : Nat :=
  if d.modes.device ≠ 0 then 0 else j.pro.nat (0x2000 + 0x100 * t.val) 0

/-! ### COMMIT_CONFLICT (R353, R455) -/

/-- The group of a channel's pin. -/
def Dev.chGroup (d : Dev) (ch : Nat) : Option Nat :=
  match chanOf ch with
  | some c => (vget d.chans c).map.map fun p => p.val / 4
  | none => none

/-- An entry of a pending commit writes to pin group k (Table TM-9). -/
def Dev.writesGroup (d : Dev) (k ix sub : Nat) (v : Bytes) : Bool :=
  if isLane ix then d.chGroup sub == some k
  else if 0x4000 ≤ ix && ix < 0x4200 then decide (sub < 48) && sub / 4 == k
  else if 0x5100 ≤ ix && ix < 0x5180 then
    if ix % 16 = 2 || ix % 16 = 3 then sub / 4 == k
    else ix % 16 == 0 && sub == 8 && [0, 1, 2, 3].any fun i => bit (beNat v) (4 * k + i)
  else ix == 0x7010 && d.chGroup (fieldBE v 1 1) == some k

/-- An entry of tenant t's pending commit writes to its quota in region k (Table TM-9). -/
def writesQuota (t : Tenant) (k ix sub : Nat) : Bool :=
  match k with
  | 0 => ix == 0x2010 + 0x100 * t.val && decide (sub ≤ 2)
  | 1 => decide (0x5100 + 16 * t.val ≤ ix ∧ ix ≤ 0x5103 + 16 * t.val)
  | 2 => ix == 0x5000 + 16 * t.val
  | _ => ix == 0x1320 && sub == t.val

/-- A management commit removes what an accepted commit of a tenant writes to (R455). -/
def Dev.removesUnder (d : Dev) (j : Judged) : Bool :=
  d.dict.commits.any fun c =>
    match c.req with
    | .mgmt => false
    | .tenant t =>
      let hit := fun (f : Nat → Nat → Bytes → Bool) => c.entries.any fun p => f (p.1 / 256) (p.1 % 256) p.2
      ((j.force.ownedGroups t).any fun g => !(j.own.ownedGroups t).contains g && hit (d.writesGroup g.val)) ||
        [0, 1, 2, 3].any fun k => decide (j.own.quota t k < j.force.quota t k) && hit fun ix sub _ => writesQuota t k ix sub

/-- The first check of R348. -/
def Dev.commitConflict (d : Dev) (j : Judged) : Bool :=
  d.dict.commits.any (fun c => c.req == j.req && c.atIdle) || (j.req == .mgmt && d.removesUnder j)

/-! ### NO_RIGHT -/

/-- The requester has the right to every entry under the configuration after the Landing (R348). -/
def Dev.commitRight (d : Dev) (j : Judged) : Bool :=
  j.sh.all fun p =>
    let ix := p.1 / 256
    let sub := p.1 % 256
    match lookupEntry ix sub with
    | some e =>
      d.mayWrite j.pro j.req ix sub e && d.valueRight j.pro j.req ix sub p.2
        && match j.req with
          | .tenant t =>
            let acq := ix == 0x5100 + 16 * t.val && (sub == 8 || (sub == 0 && beNat p.2 == 1))
            !acq || (j.pro.acqPins t).all fun q => j.pro.pinOwner q == some t
          | .mgmt => true
    | none => false

/-! ### RANGE -/

/-- The tenants whose timing sets a commit concerns (R114). -/
def Judged.timingTenants (j : Judged) : List Tenant :=
  allTenants.filter fun t =>
    j.regroups t || j.anyKey fun ix _ => decide (0x4000 + 64 * t.val ≤ ix) && decide (ix < 0x4040 + 64 * t.val)

/-- TSET_CHECK of the failing sets (R114). -/
def Judged.tsetReports (j : Judged) : List (Nat × Nat) :=
  j.timingTenants.filterMap fun t => (j.pro.tsetFailure t).map fun f => (tsIx t f.1, f.2)

/-- The Gallery rules (R200, R203, R219). A tenant that gives up its quota, as R430 asks of one that is removed, keeps FG_REC_N
(notes/assumptions/14). -/
def Judged.galleryOk (j : Judged) (t : Tenant) : Bool :=
  let ix := 0x5000 + 16 * t.val
  let q := j.pro.quota t 2
  let touched := j.has ix 1 || j.has ix 2 || j.has ix 4
  let concerned := if q = 0 then touched else touched || j.regroups t || j.requotas t 2
  ((j.pro.ownedGroups t).isEmpty || decide (q ≥ 2))
    && (!concerned || decide (j.pro.fg t 2 ≤ j.pro.recCapacity t q))
    && (!(j.has ix 1 || j.has ix 4) || !bit (j.pro.fg t 1) 1 || j.pro.fg t 4 != 0)

/-- A pattern of a stage that selects source 0x01 cares for some pin (R237). -/
def Cfg.patternSet (c : Cfg) (t : Tenant) (stageB : Bool) : Bool :=
  c.trg t (if stageB then 2 else 1) != 1 || !(c.caredPins t stageB).isEmpty

/-- What an ARM needs (R228, R237, R241, R247, R249, R251). -/
def Cfg.armOk (c : Cfg) (t : Tenant) : Bool :=
  decide (c.quota t 1 ≥ 1) && !(c.acqPins t).isEmpty && c.patternSet t false && c.patternSet t true
    && (c.trg t 0 == 0 || (c.trg t 4 != 0 && c.trg t 1 != 0 && c.trg t 2 != 0))
    && (c.acq t 1 != 2 || (decide (128 * 2 ^ 32 ≤ c.acq t 0x0A) && bits (c.acq t 9) 2 1 != 0))
    && (c.acq t 1 != 3 || c.acq t 2 == 0)

/-- The acquisition rules (R229, R236, R254). A tenant that gives up its quota keeps ACQ_SEGMENTS (notes/assumptions/14). -/
def Judged.acqOk (j : Judged) (t : Tenant) : Bool :=
  let ix := 0x5100 + 16 * t.val
  let c := j.pro
  let q := c.quota t 1
  let concerned := j.anyKey (fun i _ => i == ix) || (decide (q ≠ 0) && j.requotas t 1)
  (!concerned || decide (c.acq t 7 ≤ q * 2 ^ 20 / c.segBytes t))
    && (!j.has (ix + 1) 1 || decide (c.trg t 1 ≤ 8)) && (!j.has (ix + 1) 2 || decide (c.trg t 2 ≤ 8))
    && (!(j.has ix 2 || j.has ix 3) || c.acq t 2 != 2 || c.acq t 3 != 0)
    && (!j.has ix 0x0D || c.acq t 0x0D != 0) && (!j.carries ix 0 1 || c.armOk t)

/-- The rules of tenancy (R430-R432, R463). -/
def Judged.tenantOk (j : Judged) (t : Tenant) : Bool :=
  let c := j.pro
  let here := c.present t
  let removed := j.has 0x1100 t.val && j.force.present t && !here
  (!removed || ((c.ownedGroups t).isEmpty && [0, 1, 2, 3].all fun k => c.quota t k == 0))
    && (here || !((allPins.any fun p => p.val % 4 == 0 && j.carries 0x1102 (p.val / 4) t.val)
          || (j.has 0x1103 t.val && c.get 0x1103 t.val != zeros 4) || (j.has 0x1101 t.val && c.get 0x1101 t.val != zeros 16)))
    && (!j.changes (0x2000 + 0x100 * t.val) 0 ||
        let m := c.nat (0x2000 + 0x100 * t.val) 0
        (m == 0 || m == 9 || !(c.ownedGroups t).isEmpty) && (m != 2 || (c.ringEnabled t && c.streamReserve t != 0)))

/-- Two present tenants share a credential (R432). -/
def Cfg.sharedCredential (c : Cfg) : Bool :=
  let cred := fun (t : Tenant) => fieldBE (c.get 0x1101 t.val) 0 8
  allTenants.any fun t => allTenants.any fun u =>
    decide (t.val < u.val) && c.present t && c.present u && cred t != 0 && cred t == cred u

/-- The quotas of the present tenants fit their regions (R436). -/
def Cfg.quotasFit (c : Cfg) : Bool :=
  [(0, 32), (1, 16), (2, 12), (3, 32)].all fun p => decide (sumTenants (fun t => if c.present t then c.quota t p.1 else 0) ≤ p.2)

/-- One TRIG_OUT line granted to two tenants (R171). -/
def Cfg.sharedLine (c : Cfg) : Bool :=
  allLines.any fun n => decide ((allTenants.filter fun t => c.trigGrant t n).length > 1)

/-- The selection items are equal in every temperature set of a channel (R294). -/
def Dev.selectionsAgree (d : Dev) (j : Judged) : Bool :=
  allChans.all fun ch =>
    let written := (List.range 4).filter fun i => j.has (0x6011 + i) ch.val
    let sets := (List.range 4).filter fun i => written.contains i || d.liveSets.contains i
    let blk := fun i => (j.pro.find (keyOf (0x6011 + i) ch.val)).getD identityBlock
    written.isEmpty || sets.all fun i => sets.all fun k => selectionOf (blk i) == selectionOf (blk k)

/-- The requester has an RWC DOMAIN half written (R359). -/
def Dict.incomplete (x : Dict) (r : Req) : Bool :=
  x.domWrites.any fun w => w.req == r && decide (0x601100 ≤ w.key ∧ w.key < 0x601500)

/-- EI_BIND entries of the shadow under the grants after the Landing (R163). -/
def Judged.bindOk (j : Judged) : Bool :=
  j.sh.all fun p =>
    let ix := p.1 / 256
    !(decide (0x2000 ≤ ix ∧ ix < 0x2800) && ix % 256 == 0x24) ||
      match tenantOf ((ix - 0x2000) / 256) with
      | some t => eiBindOk j.pro t (beNat p.2)
      | none => false

/-- The cross-entry rules (RANGE), the timing sets apart. -/
def Dev.commitRange (d : Dev) (j : Judged) : Bool :=
  allChans.all (fun ch => decide (j.pro.int 0x300A ch.val ≤ j.pro.int 0x3009 ch.val))
    && allTenants.all (fun t => j.galleryOk t && j.acqOk t && j.tenantOk t)
    && !j.pro.sharedCredential && j.pro.quotasFit && !j.pro.sharedLine
    && decide (sumTenants j.pro.quietQuota ≤ 768) && d.selectionsAgree j && !d.dict.incomplete j.req && j.bindOk

/-! ### MODE -/

/-- An ARM in a mode that permits its sample kind (Table OM-2). -/
def armMode (kind mode : Nat) : Bool :=
  match kind with
  | 1 => [1, 2, 3, 6].contains mode
  | 2 => [3, 4, 6].contains mode
  | _ => mode == 5

/-- A mode that plays vectors (Table OM-2). -/
def playsVectors (mode : Nat) : Bool := [1, 2, 4, 5, 6].contains mode

/-- A MODE_REQ that changes (R462). -/
def Dev.modeReqMay (d : Dev) (j : Judged) (t : Tenant) : Bool :=
  let to0 := j.carries (0x2000 + 0x100 * t.val) 0 0
  !j.changes (0x2000 + 0x100 * t.val) 0 ||
    (!d.activity t && (to0 || (!d.fc.tHeld t && !d.modes.serviceReq && d.modes.device != 10)))

/-- The state rules of one tenant (R128, R133, R139, R160, R204, R230, R232, R403, R430, R437, R460). -/
def Dev.tenantMode (d : Dev) (j : Judged) (t : Tenant) : Bool :=
  let busy := d.seqBusy t
  let act := (vget d.acq t).active
  let st := (d.seq t).state
  let m := d.modeAfter j t
  let tx := 0x2000 + 0x100 * t.val
  let acqIx := 0x5100 + 16 * t.val
  let ringOn := fun (c : Cfg) => c.ringEnabled t
  (!busy || (!((d.seq t).setsInForce.any fun k => j.has (tsIx t k) 0x41 && !j.own.tsEnabled t k) && !j.regroups t
      && !(List.range 32).any (fun n => j.has (tx + 0x20) 0 && bit (j.force.nat (tx + 0x20) 0) n && !bit (j.own.nat (tx + 0x20) 0) n)
      && !j.requotas t 2 && !j.requotas t 0 && !(j.has 0x1320 t.val && ringOn j.force && !ringOn j.own)))
    && (!j.carries (tx + 0x10) 0 1 || ((st == .idle || st == .halted || st == .error) && playsVectors m))
    && (!act || (!j.anyChange (fun ix sub => decide (acqIx ≤ ix ∧ ix ≤ acqIx + 3) && !(ix == acqIx && sub == 0 && j.carries acqIx 0 2))
      && !j.requotas t 1 && !j.regroups t))
    && (!j.carries acqIx 0 1 || ([0, 4, 5].contains (vget d.acq t).st && armMode (j.pro.acq t 1) m))
    && (!j.requotas t 3 || !(ringOn j.force || ringOn j.pro))
    && (!(j.has 0x1100 t.val && j.force.present t && !j.own.present t) || !(busy || act))
    && (!j.has 0x7010 t.val || j.own.dcRun t == 0 || m == 9) && d.modeReqMay j t

/-- A LOOPBACK value in the mode of the channel's owner (R81, Table PC-3). -/
def Dev.loopMode (d : Dev) (j : Judged) (ch : Chan) (v : Nat) : Bool :=
  match d.chOwnerIn j.pro ch with
  | some t =>
    let m := d.modeAfter j t
    v == 0 || (if v = 3 then m == 7 || m == 8 else m == 6 || m == 7)
  | none => v == 0 || (v == 3 && (vget d.chans ch).map.isNone)

/-- The state rules (MODE). -/
def Dev.commitMode (d : Dev) (j : Judged) : Bool :=
  (d.modes.device ≠ 11 || j.sh.all fun p => decide (0x1800 ≤ p.1 / 256 ∧ p.1 / 256 ≤ 0x18FF) || p.1 / 256 == 0x7F20)
    && (d.modes.device == 10 || !j.anyKey fun ix _ => decide (0x6011 ≤ ix ∧ ix ≤ 0x6014))
    && allTenants.all (d.tenantMode j)
    && j.sh.all fun p =>
      match p.1 / 256, chanOf (p.1 % 256) with
      | 0x300D, some ch => d.loopMode j ch (beNat p.2)
      | 0x3013, some ch =>
        let c := vget d.chans ch
        if beNat p.2 = 1 then (c.st == .spare && !c.reserved && c.retire.isNone) || (c.st == .retired && c.readmit.isNone)
        else c.st == .disabled
      | _, _ => true

/-! ### LOCKED and BUDGET -/

/-- The locks of R463. -/
def Dev.commitLocks (d : Dev) (j : Judged) : Bool :=
  allTenants.all fun t => !j.changes (0x2000 + 0x100 * t.val) 0 || d.modeLocks t (j.pro.nat (0x2000 + 0x100 * t.val) 0)

/-- The contexts that an accepted or judged commit arms. -/
def Dev.willArm (d : Dev) (j : Judged) (t : Tenant) : Bool :=
  j.carries (0x5100 + 16 * t.val) 0 1 ||
    d.dict.commits.any fun c => match c.entries.find (keyOf (0x5100 + 16 * t.val) 0) with | some v => beNat v == 1 | none => false

/-- Admission of the judged commit (R284-R286). -/
def Dev.commitBudget (d : Dev) (j : Judged) : Option Bytes :=
  d.admission j.pro j.sh (d.willArm j) (d.assignBanks j.force j.pro)

/-! ### The answer -/

/-- TSET_CHECK and ADMIT_LAST as a refused COMMIT leaves them. -/
def Dev.noteTsets (d : Dev) (l : List (Nat × Nat)) : Dev :=
  { d with dict := { d.dict with cfg := l.foldl (fun c p => c.set p.1 0x42 (natBE 4 p.2)) d.dict.cfg } }

/-- The checks of R348 in order; an AT_IDLE commit leaves MODE to its Landing (R351). -/
def Dev.commitCheck (d : Dev) (r : Req) (atIdle : Bool) : Dev × Nat :=
  let j := d.judge r (d.dict.shadowOf r)
  let reports := j.tsetReports
  if d.commitConflict j then (d, stConflict)
  else if !d.commitRight j then (d, stNoRight)
  else if !reports.isEmpty then (d.noteTsets reports, stRange)
  else if !d.commitRange j then (d, stRange)
  else if !atIdle && !d.commitMode j then (d, stMode)
  else if !d.commitLocks j then (d, stLocked)
  else match d.commitBudget j with
    | some rec => ({ d with arb := { d.arb with admitLast := rec } }, stBudget)
    | none => (d, stOK)

/-- LAST_COMMIT_STATUS. -/
def Dev.commitStatus (d : Dev) (r : Req) (st : Nat) : Dev :=
  match r with
  | .tenant t => { d with dict := { d.dict with lastCommitStatus := vmod d.dict.lastCommitStatus t fun _ => st } }
  | .mgmt => d

/-- The requester's shadow replaced. -/
def Dict.setShadow (x : Dict) (r : Req) (c : Cfg) : Dict :=
  match r with
  | .tenant t => { x with shadow := vmod x.shadow t fun _ => c }
  | .mgmt => { x with mgmtShadow := c }

/-- A COMMIT (R348, R349, R351): refused with a status, or accepted, its shadow moved into a pending commit. -/
def Dev.commit (d : Dev) (r : Req) (atIdle : Bool) (timeout : Nat) (reply : ReplyTo) : Dev × Nat :=
  let (d1, st) := d.commitCheck r atIdle
  if st ≠ stOK then (d1.commitStatus r st, st)
  else
    let c : Commit := { req := r, entries := d1.dict.shadowOf r, atIdle := atIdle, framesLeft := timeout, reply := reply }
    ({ d1 with dict := { (d1.dict.setShadow r []) with commits := d1.dict.commits ++ [c] } }, stOK)

end Sys2Proof.Machine
end

