-- ==== Sys2Proof/Machine/Locks.lean ====
section
/-! DEFINITION. Locks and leases (chapter 14): LOCK, UNLOCK, the warning, expiry and every other release. -/
namespace Sys2Proof.Machine

/-- A lock of a sub-index of `0x1108`. -/
def lockOf (n : Nat) : Option (Fin 34) := if h : n < 34 then some ⟨n, h⟩ else none

/-- HOLDER (Table TM-3): 0xFF for none. -/
def holderByte : Option Req → Nat
  | some r => reqCode r
  | none => 0xFF

/-- The payload of a LOCK_LEASE record (R446). -/
def lockPayload (action : Nat) (k : Fin 34) (after before : Option Req) (lease remaining : Nat) : Bytes :=
  natLE 1 action ++ natLE 1 k.val ++ natLE 1 (holderByte after) ++ natLE 1 (holderByte before) ++ natLE 4 lease
    ++ natLE 4 remaining

/-- A LOCK_LEASE record about a holder (R446): to a tenant that holds or held the lock, unless `quiet`, and to management. -/
def Dev.lockRecord (d : Dev) (k : Fin 34) (who : Option Req) (quiet : Bool) (payload : Bytes) : Dev :=
  match who with
  | some (.tenant t) =>
    if quiet then d.emit (d.mkRec .mgmt t.val 0x12 (0xB000 + k.val) d.now payload)
    else d.emitTenant t true 0x12 (0xB000 + k.val) d.now payload
  | _ => d.emitMgmt 0x12 (0xB000 + k.val) d.now payload

/-- Change one lock. -/
def Dev.modLock (d : Dev) (k : Fin 34) (f : Lock → Lock) : Dev := { d with mgmt := { d.mgmt with locks := vmod d.mgmt.locks k f } }

/-- The procedure running or staged needs the lock (R302, R306). -/
def Dev.procNeeds (d : Dev) (k : Fin 34) (who : Option Req) : Bool :=
  match d.cal.proc, who with
  | some p, some r => p.who == reqWho r && (k == 0 || (k == 1 && p.code == 2))
  | _, _ => false

/-- The lock is free again, with the record of the action (R442-R446); a procedure that needs it is abandoned. -/
def Dev.releaseLock (d : Dev) (k : Fin 34) (action : Nat) : Dev :=
  let l := vget d.mgmt.locks k
  let d1 := if d.procNeeds k l.holder then d.abandonProc 1 else d
  (d1.modLock k fun l => { l with holder := none, warned := false, lease := 0, remaining := 0 }).lockRecord k l.holder
    (action == 7) (lockPayload action k none l.holder l.lease l.remaining)

/-- LOCK (R441): the checks in the order of R341, and the grant or renewal. A lock number outside Table TM-3 is RANGE, the
only status of Table NP-7 for it. -/
def Dev.lock (d : Dev) (r : Req) (n lease : Nat) : Dev × Nat :=
  match lockOf n with
  | none => (d, stRange)
  | some k =>
    let l := vget d.mgmt.locks k
    let grant := match r with
      | .tenant t => decide (k.val < 2) || bit (d.dict.cfg.nat (0x2020 + 0x100 * t.val) 0) (k.val - 2)
      | .mgmt => true
    let take := { l with holder := some r, warned := false, lease := lease, remaining := lease, grants := satAdd 32 l.grants 1 }
    if !grant then (d, stNoRight)
    else if lease = 0 || lease > d.dict.cfg.nat 0x1109 0 then (d, stRange)
    else if d.modes.device = 11 then (d, stMode)
    else match l.holder with
      | none => ((d.modLock k fun _ => take).lockRecord k (some r) false (lockPayload 1 k (some r) none lease lease), stOK)
      | some h =>
        if h = r && l.remaining > 0 then
          ((d.modLock k fun _ => take).lockRecord k (some r) false (lockPayload 2 k (some r) (some r) lease lease), stOK)
        else (d, stLocked)

/-- UNLOCK (R442). -/
def Dev.unlock (d : Dev) (r : Req) (n : Nat) : Dev × Nat :=
  match lockOf n with
  | none => (d, stRange)
  | some k =>
    match (vget d.mgmt.locks k).holder with
    | none => (d, if r = .mgmt then stOK else stNoRight)
    | some h =>
      if h = r then (d.releaseLock k 3, stOK)
      else if r = .mgmt then (d.releaseLock k 6, stOK)
      else (d, stNoRight)

/-- Every lock, ascending. -/
def allLocks : List (Fin 34) := List.ofFn id

/-- LEASE_WARNING (R443). -/
def Dev.leaseWarning (d : Dev) (k : Fin 34) : Dev :=
  let l := vget d.mgmt.locks k
  if l.holder.isSome && decide (l.lease > 2000) && decide (l.remaining ≤ 1000) && decide (l.remaining > 0) && !l.warned then
    (d.modLock k fun l => { l with warned := true }).lockRecord k l.holder false
      (lockPayload 4 k l.holder l.holder l.lease l.remaining)
  else d

/-- LEASE_EXPIRY (R443): the last millisecond of the lease passes; the lock is released at the next frame edge. -/
def Dev.leaseExpiry (d : Dev) (k : Fin 34) : Dev :=
  let l := vget d.mgmt.locks k
  if l.holder.isSome && decide (l.remaining ≤ 1) then d.modLock k fun l => { l with remaining := 0 } else d

/-- The expired locks are released at step 2 (R443). -/
def Dev.expireLocks (d : Dev) : Dev :=
  allLocks.foldl (fun d k =>
    let l := vget d.mgmt.locks k
    if l.holder.isSome && l.remaining == 0 then d.releaseLock k 5 else d) d

/-- The locks that a tenant holds are released by its reset, at step 4 (R444). -/
def Dev.resetLocks (d : Dev) (t : Tenant) : Dev :=
  allLocks.foldl (fun d k => if d.holds k t then d.releaseLock k 7 else d) d

/-- The flag locks whose grant a Landing has cleared are released (R444). -/
def Dev.grantLocks (d : Dev) : Dev :=
  allLocks.foldl (fun d k =>
    match (vget d.mgmt.locks k).holder with
    | some (.tenant t) =>
      if k.val ≥ 2 && !bit (d.dict.cfg.nat (0x2020 + 0x100 * t.val) 0) (k.val - 2) then d.releaseLock k 8 else d
    | _ => d) d

/-! ### Meanings -/

/-- LEASE_WARNING (R443). -/
def execLeaseWarning (lock : Fin 34) (s : State) : Host.Outcome State Fault Refusal := .next { s with dev := s.dev.leaseWarning lock }

/-- LEASE_EXPIRY (R443). -/
def execLeaseExpiry (lock : Fin 34) (s : State) : Host.Outcome State Fault Refusal := .next { s with dev := s.dev.leaseExpiry lock }

end Sys2Proof.Machine
end

