-- ==== Sys2Proof/Machine/Landing.lean ====
section
/-! DEFINITION. The Landing at step 2 of a frame edge (R24, R349-R354): what the entries of the landing commits do, the
calibration results, the map changes, the epoch, the answers and the LANDING records. -/
namespace Sys2Proof.Machine

/-! ### Ends that a Landing brings -/

/-- A transfer ends with its DMA_DONE record (R408). -/
def Dev.dmaFinish (d : Dev) (t : Tenant) (status : Nat) : Dev :=
  let h := vget d.host t
  match h.dma with
  | none => d
  | some x =>
    let d1 := { d with host := vmod d.host t fun h => { h with dma := none, dmaDone := satAdd 32 h.dmaDone 1 } }
    d1.emitTenant t false 0x10 (0x9000 + t.val) d.now
      (natLE 4 x.tag ++ natLE 4 x.done ++ natLE 1 status ++ natLE 1 x.source ++ natLE 2 (min x.poisoned 0xFFFF))

/-- An ARM ends the uploads of what it clears (R226, R263). -/
def Dev.endUploads (d : Dev) (t : Tenant) (sources : List Nat) : Dev :=
  match (vget d.host t).dma with
  | some x => if x.upload && sources.contains x.source then d.dmaFinish t 2 else d
  | none => d

/-- A session under a new key (R375): a key of zeros closes it. -/
def Session.rekey (x : Session) (key : Bytes) : Session :=
  { x with number := if x.number = 0xFFFF then 1 else x.number + 1
           isOpen := !allZero key, key := key, inFlight := 0, seqHigh := 0, window := 0 }

/-- The session is closed as a key of zeros closes it (R430, R433). No key is written, so the number stands, and the first key
after the Landing that made a tenant present opens session 1 (Example TM-1; notes/assumptions/28). -/
def Session.close (x : Session) : Session := { x.rekey (zeros 32) with number := x.number }

/-- A tenant's session changes its key. -/
def Dev.rekey (d : Dev) (t : Tenant) (key : Bytes) : Dev :=
  { d with odp := { d.odp with sess := vmod d.odp.sess t fun x => x.rekey key } }

/-- A pending commit ends without landing (R25, R349, R352). -/
def Dev.discardCommits (d : Dev) (gone : Commit → Bool) (status : Nat) : Dev :=
  let l := d.dict.commits.filter gone
  let d1 := { d with dict := { d.dict with commits := d.dict.commits.filter fun c => !gone c } }
  l.foldl (fun (d : Dev) c => (d.commitStatus c.req status).answerCommit c.reply status) d1

/-! ### The entries that land -/

/-- The entries of the landing commits in the order of acceptance; the later prevails (R350). -/
def mergeEntries (cs : List Commit) : Cfg :=
  cs.foldl (fun (m : Cfg) c => c.entries.foldl (fun (m : Cfg) (p : Nat × Bytes) => m.insert p.1 p.2) m) []

/-- The number that the landing entries carry for an entry. -/
def Cfg.carried (m : Cfg) (ix sub : Nat) : Option Nat := (m.find (keyOf ix sub)).map beNat

/-- The landing entries change an entry among those of a test. -/
def Cfg.changesAny (m old : Cfg) (f : Nat → Nat → Bool) : Bool :=
  m.any fun p => f (p.1 / 256) (p.1 % 256) && old.get (p.1 / 256) (p.1 % 256) != p.2

/-- A tenant is removed, or its credential changes (R430, R433). -/
def Dev.landBinding (d : Dev) (old : Cfg) (t : Tenant) : Dev :=
  let c := d.dict.cfg
  let gone := old.present t && !c.present t
  let cred := fun (c : Cfg) => fieldBE (c.get 0x1101 t.val) 0 8
  let d1 := if gone || cred old != cred c then { d with odp := { d.odp with sess := vmod d.odp.sess t Session.close } } else d
  if gone then
    { d1 with rst := { d1.rst with requests := d1.rst.requests ++ [{ source := 0x13, reach := 2, target := t.val }] } }
  else if !old.present t && c.present t then { d1 with stairs := { d1.stairs with req := vmod d1.stairs.req t fun _ => 0 } }
  else d1

/-- MODE_REQ lands (R459). -/
def Dev.landMode (d : Dev) (m : Cfg) (t : Tenant) : Dev :=
  match m.carried (0x2000 + 0x100 * t.val) 0 with
  | some v => { d with modes := { d.modes with mode := vmod d.modes.mode t fun _ => v } }
  | none => d

/-- The counters and invalid counts of pins whose group leaves a tenant become zero (R204). -/
def State.landGroups (s : State) (old : Cfg) (t : Tenant) : State :=
  let gone := allPins.filter fun p => old.pinOwner p == some t && s.dev.dict.cfg.pinOwner p != some t
  gone.foldl (fun (s : State) p =>
    let s1 := (s.areaWrite 2 t (lowCell p) (zeros 8)).areaWrite 2 t (highCell p) (zeros 8)
    { s1 with dev := s1.dev.modGal t fun g => { g with
        invalidCompares := vmod g.invalidCompares p fun _ => 0, accum := vmod g.accum p fun _ => 0
        closed := vmod g.closed p fun _ => 0 } }) s

/-- FG_CTRL lands: 1 ARM, 2 CLEAR_COUNTERS, 3 both (R212, R216). -/
def State.landGallery (s : State) (m : Cfg) (t : Tenant) : State :=
  match m.carried (0x5000 + 16 * t.val) 0 with
  | some v =>
    let s1 := if v = 2 || v = 3 then s.clearCounters t else s
    if v = 1 || v = 3 then { s1 with dev := (s1.dev.endUploads t [1, 3]).galleryArm t } else s1
  | none => s

/-- ACQ_CTRL lands: 1 ARM, 2 ABORT (R232, R234). -/
def State.landAcq (s : State) (m : Cfg) (t : Tenant) : State :=
  match m.carried (0x5100 + 16 * t.val) 0 with
  | some 1 => { s with dev := (s.dev.endUploads t [0x11, 0x12]).acqArm t }
  | some 2 => s.acqAbort t
  | _ => s

/-- SEQ_CTRL lands: 1 START, 2 STOP (R133, R134). -/
def State.landSeq (s : State) (m : Cfg) (t : Tenant) : State :=
  match m.carried (0x2010 + 0x100 * t.val) 0 with
  | some 1 => { s with dev := s.dev.seqStart s.mem t }
  | some 2 => { s with dev := s.dev.seqStop t }
  | _ => s

/-- A Landing inside a SCAN gate that changes a threshold or a phase of a sampled pin (R251). -/
def Dev.landGates (d : Dev) (old m : Cfg) (t : Tenant) : Dev :=
  let a := vget d.acq t
  let c := d.dict.cfg
  if !a.active || c.acq t 1 != 3 || (d.tb.tick - a.origin) % Nat.max 1 (c.periodTicks t) = 0 then d
  else
    let hit := (c.acqPins t).filter fun p => match d.pinChan p with
      | some ch => m.changesAny old fun ix sub => decide (0x3009 ≤ ix ∧ ix ≤ 0x300C) && sub == ch.val
      | none => false
    d.modAcq t fun a => { a with thrSplit := a.thrSplit ++ hit.map fun p => (p, d.tb.tick) }

/-- The event queues and the stream ring of a tenant (R403, R416). -/
def Dev.landHost (d : Dev) (old : Cfg) (t : Tenant) : Dev :=
  let c := d.dict.cfg
  let fresh := fun (n : Nat) =>
    let a := old.get (0x1310 + n) t.val
    let b := c.get (0x1310 + n) t.val
    (fieldBE a 10 1 == 0 && fieldBE b 10 1 == 1) || slice a 0 9 != slice b 0 9
  let ring := !old.ringEnabled t && c.ringEnabled t
  { d with host := vmod d.host t fun h => { h with
      evq := Vector.ofFn fun i => if fresh i.val then {} else vget h.evq i
      ringProd := if ring then 0 else h.ringProd, ringCons := if ring then 0 else h.ringCons
      ringLanded := if ring then 0 else h.ringLanded } }

/-- What the landing entries do to one tenant, its quotas and groups first. -/
def State.landTenant (s : State) (old m : Cfg) (t : Tenant) : State :=
  let s1 := { s with dev := (s.dev.landBinding old t).landMode m t }.landGroups old t
  let c := s1.dev.dict.cfg
  let d1 := if old.quota t 2 != c.quota t 2 then s1.dev.modGal t fun _ => {} else s1.dev
  let sized := m.any fun p => p.1 / 256 == 0x5100 + 16 * t.val
  let d2 := if sized || old.quota t 1 != c.quota t 1 then d1.acqSizes t else d1
  let d3 := (d2.landHost old t).landGates old m t
  let d4 := if (m.find (keyOf 0x7010 t.val)).isSome then d3.landDc t else d3
  let d5 := if (m.find (keyOf 0x1442 t.val)).isSome then d4.armAlarms ⟨t.val, by omega⟩ else d4
  (({ s1 with dev := d5 }.landGallery m t).landAcq m t).landSeq m t

/-- A port whose rate, FEC or enable changes loses its link; new addresses are checked anew (R363, R366). -/
def Dev.landPort (d : Dev) (old : Cfg) (i : Fin 2) : Dev :=
  let c := d.dict.cfg
  let p0 := vget d.odp.port i
  let p1 : Port := if old.nat 0x1200 i.val != c.nat 0x1200 i.val then
      p0.lost else p0
  let p2 := if old.get 0x1202 i.val != c.get 0x1202 i.val then { p1 with ipv6Ready := false, dupAddr := false, v4Conflict := false } else p1
  let d1 := Dev.settleDup { d with odp := { d.odp with port := vmod d.odp.port i fun _ => p2 } }
  if p0.link && !p2.link then d1.synceLinkDown i.val else d1

/-- The lanes and channels (R68, R97, R262). -/
def Dev.landLanes (d : Dev) (old m : Cfg) : Dev :=
  let d1 := allChans.foldl (fun (d : Dev) ch =>
    let d1 := match m.carried 0x3013 ch.val with | some v => d.landDisable ch v | none => d
    let d2 := if m.changesAny old fun ix sub => ix == 0x300C && sub == ch.val then
        d1.modChan ch fun x => { x with phases := (d1.tb.tick, old.nat 0x300C ch.val) :: x.phases } else d1
    if m.changesAny old fun ix sub => decide (0x3003 ≤ ix ∧ ix ≤ 0x3006) && sub == ch.val then d2.markLevel ch else d2) d
  let c := d1.dict.cfg
  d1.releaseLines fun k => allTenants.any fun t => old.trigGrant t k.val && !c.trigGrant t k.val

/-- A set whose blocks a Landing writes exists from then on, a laboratory set (notes/assumptions/22). -/
def Dev.landSets (d : Dev) (old m : Cfg) : Dev :=
  let wrote := fun (i : Nat) => m.changesAny old fun ix _ => ix == 0x6011 + i
  let hdr := fun (h : SetHdr) => { h with valid := true, source := 1, epoch := d.epoch, time := d.now }
  { d with cal := { d.cal with
    sets := Vector.ofFn fun i => if wrote i.val then hdr (vget d.cal.sets i) else vget d.cal.sets i
    setsChanged := d.cal.setsChanged || [0, 1, 2, 3].any wrote } }

/-- TSET_CHECK of every set of the tenants whose timing a landed commit concerns reads 0 (R114). -/
def Dev.clearTsets (d : Dev) (ts : List Tenant) : Dev :=
  let cfg := ts.foldl (fun (c : Cfg) t => (List.range 64).foldl (fun (c : Cfg) s => c.set (tsIx t s) 0x42 (zeros 4)) c) d.dict.cfg
  { d with dict := { d.dict with cfg := cfg } }

/-- The landing commits' entries come into force and act (R350). -/
def State.landEntries (s : State) (cs : List Commit) : State :=
  let old := s.dev.dict.cfg
  let m := mergeEntries cs
  let ts := cs.flatMap fun c => (s.dev.judge c.req c.entries).timingTenants
  let d1 := { s.dev with dict := { s.dev.dict with cfg := old.overlay m } }
  let s1 := State.landQuotas { s with dev := d1.clearTsets ts } old d1.dict.cfg
  let s2 := allTenants.foldl (fun (s : State) t => s.landTenant old m t) s1
  let d2 := if (m.find (keyOf 0x1442 8)).isSome then s2.dev.armAlarms 8 else s2.dev
  let d2 := if (m.find (keyOf 0x6110 4)).isSome then d2.dueAnew else d2
  { s2 with dev := ((((d2.landPort old 0).landPort old 1).landLanes old m).grantLocks.landSets old m).admitted }

/-! ### The Landing as a whole -/

/-- The entries whose change advances the minor part of the epoch (R317). -/
def epochEntry (ix : Nat) : Bool :=
  ix == 0x1420 || ix == 0x6003 || ix == 0x6034 || ix == 0x6035 || ix == 0x6120 || decide (0x6011 ≤ ix ∧ ix ≤ 0x6014)

/-- A staged procedure lands at this edge (R308): with AUTO_COMMIT, or with its requester's commit. -/
def Dev.procLands (d : Dev) (cs : List Commit) : Bool :=
  match d.cal.proc with
  | some p => p.staged && (p.autoCommit || cs.any fun c => reqWho c.req == p.who)
  | none => false

/-- A retirement takes effect at this edge. -/
def Dev.anyRetire (d : Dev) : Bool := allChans.any fun c => (vget d.chans c).retire.isSome

/-- One LANDING record (R354). -/
def Dev.landingPayload (d : Dev) (cs : List Commit) (r : Req) (epochChanged cal map : Bool) : Bytes :=
  let mine := cs.filter fun c => c.req == r
  let flags := ofBool epochChanged + 2 * ofBool (!mine.isEmpty) + 4 * ofBool (mine.any fun c => c.atIdle) + 8 * ofBool cal
    + 16 * ofBool map + 32 * ofBool (cs.any fun c => c.req == .mgmt)
  natLE 4 d.epoch ++ natLE 4 d.frame ++ natLE 1 flags ++ natLE 1 (min cs.length 255) ++ zeros 2

/-- The LANDING records of an edge (R354). -/
def Dev.landingRecords (d : Dev) (cs : List Commit) (epochChanged cal map : Bool) : Dev :=
  let rec1 := fun (d : Dev) (r : Req) =>
    if (epochChanged && (match r with | .tenant t => d.present t | .mgmt => true)) || cs.any fun c => c.req == r then
      let p := d.landingPayload cs r epochChanged cal map
      match r with
      | .tenant t => d.emit (d.mkRec (.tenant t) t.val 0x11 0xA000 d.now p)
      | .mgmt => d.emitMgmt 0x11 0xA000 d.now p
    else d
  rec1 (allTenants.foldl (fun d t => rec1 d (.tenant t)) d) .mgmt

/-- A landed commit is counted (R361). -/
def Dev.countLanded (d : Dev) (c : Commit) : Dev :=
  match c.req with
  | .tenant t => { d with dict := { d.dict with
      commitCount := vmod d.dict.commitCount t fun n => satAdd 32 n 1, lastLanding := vmod d.dict.lastLanding t fun _ => d.now } }
  | .mgmt => d

/-- A commit is answered OK at its edge (R349). -/
def Dev.answerLanded (d : Dev) (c : Commit) : Dev := (d.commitStatus c.req stOK).answerCommit c.reply stOK

/-- The commits that land something: one with an empty shadow does not (R349), unless a staged procedure lands with it (R308). -/
def Dev.landsSomething (d : Dev) (cs : List Commit) : List Commit :=
  let staged := d.procLands cs
  cs.filter fun c => !c.entries.isEmpty || (staged && match d.cal.proc with | some p => p.who == reqWho c.req | none => false)

/-- Step 2 of a frame edge (R24): the commits `cs`, which are no longer pending, and everything else that lands there: a
staged procedure, a restore, a re-application and the changes of the channel map, whose joins are `joiners`. The epoch
advances once (R317). A commit with an empty shadow is only answered (R349). -/
def State.landing (s : State) (cs : List Commit) (joiners : List Chan) : State :=
  let d := s.dev
  let m := mergeEntries cs
  let full := d.landsSomething cs
  let proc := d.procLands cs
  let restore := !d.restorable.isEmpty
  let reapply := d.reapplyLands
  let any := !full.isEmpty || proc || restore || reapply || !joiners.isEmpty
  let inputs := m.changesAny d.dict.cfg fun ix _ => epochEntry ix
  let sets := m.changesAny d.dict.cfg fun ix _ => decide (0x6011 ≤ ix ∧ ix ≤ 0x6014)
  let major := restore || (proc && match d.cal.proc with | some p => p.epochKind == 2 | none => false)
  let minor := proc || reapply || !joiners.isEmpty || inputs
  let map := !joiners.isEmpty || d.anyRetire
  let d1 := if major || minor then d.advanceEpoch major else d
  let s1 := State.landEntries { s with dev := d1 } cs
  let d2 := if proc then s1.dev.landProc else s1.dev
  let d3 := d2.landRestore
  let d4 := if reapply then d3.applyBlend d3.cal.tSensor else d3
  let s2 := State.channelEdge { s1 with dev := d4 } joiners
  let d5 := s2.dev
  let due := sets || proc || restore || !joiners.isEmpty || (any && !reapply && d5.cal.tSensor != d5.cal.tApplied)
  let d6 := if sets || proc || restore then d5.reapplyAnew else if due then d5.reapplyFalls else d5
  let d7 := if any then { d6 with dict := { d6.dict with landings := satAdd 64 d6.dict.landings 1 } } else d6
  let d8 := cs.foldl (fun (d : Dev) c => d.answerLanded c) (full.foldl (fun (d : Dev) c => d.countLanded c) d7)
  { s2 with dev := if any then d8.landingRecords full (d8.epoch != d.epoch) (proc || restore || reapply) map else d8 }

/-- The commits that land at an edge, those that end there, and those that wait (R349, R351, R352). -/
structure DueCommits where
  lands : List Commit
  failed : List Commit
  expired : List Commit
  waits : List Commit

/-- Sort the pending commits of an edge; `idle` is the judgement of R351 on the ending frame. -/
def Dev.dueCommits (d : Dev) (idle : Bool) : DueCommits :=
  let may := fun (c : Commit) => !c.atIdle || (idle && d.commitMode (d.judge c.req c.entries))
  let late := fun (c : Commit) => c.atIdle && !idle && decide (c.framesLeft ≤ 1)
  { lands := d.dict.commits.filter may
    failed := d.dict.commits.filter fun c => c.atIdle && idle && !may c
    expired := d.dict.commits.filter late
    waits := (d.dict.commits.filter fun c => c.atIdle && !idle && !late c).map fun c => { c with framesLeft := c.framesLeft - 1 } }

/-- The commits at an edge: those that wait stay pending, those that end are answered, the rest land (R350-R352). -/
def State.commitEdge (s : State) (idle : Bool) (joiners : List Chan) : State :=
  let x := s.dev.dueCommits idle
  let d1 := { s.dev with dict := { s.dev.dict with commits := x.waits } }
  let fin := fun (st : Nat) (d : Dev) (c : Commit) => (d.commitStatus c.req st).answerCommit c.reply st
  let d2 := x.expired.foldl (fin stConflict) (x.failed.foldl (fin stMode) d1)
  State.landing { s with dev := d2 } x.lands joiners

/-- Every present tenant is idle (R351). -/
def Dev.allIdle (d : Dev) : Bool :=
  d.presentTenants.all fun t => Seq.isIdle (d.seq t) && !(vget d.acq t).active && Gallery.idle (vget d.gallery t) && !d.ownProc t

end Sys2Proof.Machine
end

