-- ==== Sys2Proof/Machine/Stairs.lean ====
section
/-! DEFINITION. The Stairs and isothermal hold (chapter 16): requests and their evaluation, descent, wake and exit, and the
heater servo. -/
namespace Sys2Proof.Machine

/-! ### The STAIR record -/

/-- A STAIR record (R510, Table PL-5). -/
def Dev.stairRecord (d : Dev) (action frm dest cause duration flags : Nat) : Dev :=
  d.emitAll 0x0A 0x8000 d.now
    (natLE 1 action ++ natLE 1 frm ++ natLE 1 dest ++ natLE 1 cause ++ natLE 4 (min duration (2 ^ 32 - 1)) ++ natLE 1 flags
      ++ natLE 1 d.heater.state ++ zeros 2)

/-! ### Requests and policy -/

/-- STAIR_POLICY fields (Table PL-2). -/
def Cfg.deepest (c : Cfg) : Nat := fieldBE (c.get 0x1501 0) 0 1
def Cfg.force (c : Cfg) : Bool := bit (fieldBE (c.get 0x1501 0) 1 1) 0
def Cfg.wakeClears (c : Cfg) : Bool := bit (fieldBE (c.get 0x1501 0) 1 1) 1
def Cfg.retains (c : Cfg) (region : Nat) : Bool := bit (fieldBE (c.get 0x1501 0) 2 1) region

/-- A write of STAIR_REQ (R491): the writer's standing request. -/
def Dev.stairReq (d : Dev) (r : Req) (v : Nat) : Dev :=
  match r with
  | .tenant t => { d with stairs := { d.stairs with req := vmod d.stairs.req t fun _ => v } }
  | .mgmt => { d with stairs := { d.stairs with mgmtReq := v } }

/-- The target (R493). -/
def Dev.stairTarget (d : Dev) : Nat :=
  (d.presentTenants.map fun t => vget d.stairs.req t).foldl Nat.min (Nat.min d.stairs.mgmtReq d.dict.cfg.deepest)

/-- A record of a holding buffer waits for a queue that can take it, from before the last frame edge (Table PL-3). -/
def Dev.recordsWait (d : Dev) : Bool :=
  let edge := timeOfFine (d.tb.devFine - d.tb.tick % ticksPerFrame * finePerTick)
  d.presentTenants.any fun t =>
    let h := vget d.host t
    h.busMaster && fieldBE (d.dict.cfg.get 0x1101 t.val) 8 1 == 1
      && (List.range 4).any (fun n => fieldBE (d.dict.cfg.get (0x1310 + n) t.val) 10 1 == 1)
      && h.hold.recs.any fun r => decide (Time.toSub r.time < Time.toSub edge)

/-- A condition of status 3 (Table PL-3). -/
def Dev.stairRefused (d : Dev) (tgt : Nat) : Bool :=
  d.modes.device == 11 || (decide (tgt ≥ 3) && (d.link.l0 || d.link.l1) && !d.link.aspmL1) || (decide (tgt = 6) && d.cal.setsChanged)

/-- A condition of status 2 that FORCE overrides for targets 1 to 4. -/
def Dev.stairBusy (d : Dev) : Bool :=
  allTenants.any fun t =>
    let h := vget d.host t
    d.activity t || h.dma.isSome || h.dmaProd != h.dmaCons || !h.bar2.isEmpty

/-- A condition of status 2 that nothing overrides. -/
def Dev.stairWaits (d : Dev) : Bool :=
  !d.odp.resetReplies.isEmpty || !d.odp.held.isEmpty || !d.mgmt.resetReplies.isEmpty || !d.mgmt.heldVdm.isEmpty
    || allChans.any (fun c => (vget d.chans c).st == .recal)
    || (match d.cal.proc with | some p => !p.staged | none => false) || d.cal.reapplyDue || d.cal.reapply.isSome
    || d.cal.cmd.isSome || d.cal.pulse
    || (d.modes.device == 10 && (d.boot.update.isSome || d.dict.domWrites.any fun w => decide (0x601100 ≤ w.key ∧ w.key < 0x601500)))
    || d.recordsWait

/-- FORCE overrides the conditions that it can, for a target. -/
def Dev.forces (d : Dev) (tgt : Nat) : Bool := d.dict.cfg.force && decide (1 ≤ tgt ∧ tgt ≤ 4)

/-- The status that R493 gives for a target deeper than Stair 0. -/
def Dev.stairStatus (d : Dev) (tgt : Nat) : Nat :=
  if d.stairRefused tgt then 3 else if d.stairWaits || (d.stairBusy && !d.forces tgt) then 2 else 1

/-- After step 4 of a frame edge in Stair 0, the target is formed and judged (R493). -/
def Dev.stairEvaluate (d : Dev) : Dev :=
  let tgt := d.stairTarget
  let set := fun (n : Nat) => { d with stairs := { d.stairs with status := n } }
  if d.stairs.now ≠ 0 then d
  else if tgt = 0 then set 0
  else if d.stairs.dwell ≠ 0 then d
  else
    let st := d.stairStatus tgt
    let d1 := set st
    if st = 1 then
      let forced := d.stairBusy
      { d1 with stairs := { d1.stairs with accepted := some (tgt, forced) } }.stairRecord 0x01 0 tgt 0xFF 0 (ofBool forced)
    else d1

/-! ### Descent -/

/-- A forced descent ends a tenant's activities, and the tenant keeps its mode (R495). -/
def State.stairStop (s : State) (t : Tenant) : State :=
  let s1 := { s with dev := s.dev.seqStop t }.acqAbort t
  let d1 := if s1.dev.dcBusy t then (s1.dev.dcStop t).dcRunOff t else s1.dev
  { s1 with dev := if d1.ownProc t then d1.abandonProc 3 else d1 }

/-- The fast clocks stop and Tahr keeps device time: its count of whole microseconds and the phase (chapter 2). -/
def Dev.stopFast (d : Dev) : Dev :=
  { d with tb := { d.tb with fast := false, aonUs := d.tb.devFine / (1000 * finePerNs), phi := d.tb.devFine % (1000 * finePerNs) } }

/-- The Ethernet links go down (R384, Table PL-1), and a SyncE input with them (Table TB-1). -/
def Dev.portsDown (d : Dev) : Dev :=
  let d := (d.synceLinkDown 0).synceLinkDown 1
  Dev.settleDup { d with odp := { d.odp with port := d.odp.port.map Port.lost } }

/-- An address lies in the context area, rows 512 to 16,383 of bank 60; its calibration part begins at row 8,192 (R487). -/
def inContext (a : Nat) : Bool := decide (60 * 2 ^ 20 + 512 * 64 ≤ a ∧ a < 61 * 2 ^ 20)

/-- What the context save finds (R487). -/
def Dev.contextNow (d : Dev) : Context :=
  { dict := d.dict, engines := d.micro.engines, seqs := d.seqs, sets := d.cal.sets, corr := d.cal.corr }

/-- The context save, housekeeping procedure 0x05 (R487, Table CA-3): STAIR_SAVE is latched in engine 8 (Table MS-5), and the
area is overwritten (R271). -/
def Dev.saveContext (d : Dev) : Dev :=
  let d1 := d.latchCond 8 3
  { d1 with
    stairs := { d1.stairs with context := some d.contextNow }
    arb := { d1.arb with poison := d1.arb.poison.filter fun a => !inContext a } }

/-- A reset below Stair 4 acts on the context that was saved as well (R519). -/
def Dev.keepContext (d : Dev) : Dev :=
  if d.stairs.context.isSome then { d with stairs := { d.stairs with context := some d.contextNow } } else d

/-- The restore, housekeeping procedure 0x06 (R487): what the save has written is read back, from Stair 6 without the calibration
part (R489). Scratch lies outside the area, and conditions that Tahr has latched since stay latched. Each word of the part read
that holds an uncorrectable error is FS-034 (Table MA-2). -/
def Dev.restoreContext (d : Dev) (frm : Nat) : Dev :=
  match d.stairs.context with
  | none => d
  | some x =>
    let read := fun (a : Nat) => inContext a && (decide (frm < 6) || decide (a < 60 * 2 ^ 20 + 8192 * 64))
    let d1 := { d with
      dict := x.dict
      micro := { d.micro with engines := Vector.ofFn fun e => { vget x.engines e with pending := (vget d.micro.engines e).pending } }
      seqs := Vector.ofFn fun t => { vget x.seqs t with scratch := (vget d.seqs t).scratch }
      cal := if frm = 6 then d.cal else { d.cal with sets := x.sets, corr := x.corr }
      stairs := { d.stairs with context := none } }
    (d.arb.poison.filter read).foldl (fun (d : Dev) a => d.eccHit a none 0 8 1) d1

/-- The Stair is entered (R486, R496, R423); for Stair 4 and deeper the context save runs first. -/
def Dev.enterStair (d : Dev) (tgt : Nat) (forced : Bool) : Dev :=
  let d1 := d.stairRecord 0x02 0 tgt 0xFF 0 (ofBool forced)
  let d2 := if tgt ≥ 4 then d1.saveContext else d1
  let d3 := { d2 with stairs := { d2.stairs with now := tgt, accepted := none, enteredMs := d2.tb.ms } }
  let d3 := { d3 with tb := { d3.tb with sleepLoss := [] } }
  if tgt < 3 then d3
  else { d3.portsDown.stopFast with link := { d3.link with l0 := false, l1 := d3.link.l0 || d3.link.l1 } }

/-- Step 4 of a frame edge for an accepted descent (R494, R496). -/
def State.stairEdge (s : State) : State :=
  let d := s.dev
  match d.stairs.cancelled with
  | some (tgt, cause) =>
    { s with dev := { d with stairs := { d.stairs with cancelled := none } }.stairRecord 0x04 0 tgt cause 0 0 }
  | none =>
    match d.stairs.accepted with
    | none => s
    | some (tgt, _) =>
      let cancel := fun (cause : Nat) =>
        { s with dev := { d with stairs := { d.stairs with accepted := none } }.stairRecord 0x04 0 tgt cause 0 0 }
      if d.modes.device = 11 then cancel 0x11
      else if d.stairTarget ≠ tgt then cancel 0x10
      else if d.stairStatus tgt ≠ 1 then cancel 0xFF
      else
        let forced := d.stairBusy
        let s1 := if forced then allTenants.foldl State.stairStop s else s
        { s1 with dev := s1.dev.enterStair tgt forced }

/-! ### Exit -/

/-- A bank keeps its contents across a Stair (R486, R497). -/
def Dev.bankKept (d : Dev) (frm : Nat) (b : Fin 64) : Bool :=
  if frm ≤ 2 then true
  else if b.val < 60 then decide (frm ≤ 4) && decide (vget d.arb.bankOwner b < 8) && d.dict.cfg.retains (bankRegion b)
  else frm ≤ 4

/-- Memory that was not kept reads as zero, and the Galleries show LOST (R497, R204). -/
def State.loseMemory (s : State) (frm : Nat) : State :=
  let d := s.dev
  let gone := fun (a : Nat) =>
    if h : a / 2 ^ 20 < 64 then
      !d.bankKept frm ⟨a / 2 ^ 20, h⟩ && !(a / 2 ^ 20 == 60 && decide (512 * 64 ≤ a % 2 ^ 20))
    else false
  let lost := fun (t : Tenant) => (List.ofFn (n := 60) id).any fun b =>
    let k : Fin 64 := ⟨b.val, by omega⟩
    vget d.arb.bankOwner k == t.val && decide (48 ≤ b.val) && !d.bankKept frm k
  { s with
    mem := s.mem.filter fun c => !gone c.1
    dev := { d with
      arb := { d.arb with poison := d.arb.poison.filter fun a => !gone a }
      gallery := Vector.ofFn fun t => if lost t then { vget d.gallery t with lost := true } else vget d.gallery t
      seqs := if frm ≥ 5 then d.seqs.map fun q => { q with scratch := [] } else d.seqs
      host := if frm ≥ 5 then Vector.ofFn fun t => if d.dict.cfg.ringEnabled t then
          { vget d.host t with ringProd := 0, ringCons := 0, ringLanded := 0 } else vget d.host t else d.host } }

/-- Some tenant's bank is not kept. -/
def Dev.regionLost (d : Dev) (frm : Nat) : Bool :=
  (List.ofFn (n := 64) id).any fun b => decide (vget d.arb.bankOwner b < 8) && !d.bankKept frm b

/-- The sets that B6 loads (R328): for each setpoint the laboratory record where it is valid, otherwise the factory record. -/
def Dev.loadSets (d : Dev) : Dev :=
  let n := setCount d.fuses.gradeB
  let d0 := { d with cal := { d.cal with sets := Vector.replicate 4 {}, setsChanged := false } }
  (List.range n).foldl (fun (d : Dev) i =>
    match d.cal.record 0x11 i with
    | some a => d.loadSet i a.payload
    | none => match d.cal.record 0x10 i with
      | some a => d.loadSet i a.payload
      | none => d) d0

/-- The exit completes (R487-R489, R501, R502): what the Stair did not keep is gone, the context is restored, from Stair 6 the
archive is checked and gives the sets, conditions that rose in the sleep latch (R564), STAIR_NOW is 0, and the WOKE record waits for step 5 of a frame edge. -/
def State.exitStair (s : State) : State :=
  let d := s.dev
  match d.stairs.waking with
  | none => s
  | some cause =>
    let frm := d.stairs.now
    let flags := 2 * ofBool (decide (frm ≥ 5)) + 4 * ofBool (d.regionLost frm) + 8 * ofBool (decide (frm = 6))
    let s0 := s.loseMemory frm
    let s1 := { s0 with dev := s0.dev.restoreContext frm }
    let clears := d.dict.cfg.wakeClears && [3, 4, 5, 6].contains cause
    let d1 := { s1.dev with stairs := { s1.dev.stairs with
      now := 0, waking := none, woke := some (frm, cause, d.stairs.wakeMs - d.stairs.enteredMs, flags), dwell := d.dict.cfg.dwell
      req := if clears then Vector.replicate 8 0 else s1.dev.stairs.req, mgmtReq := if clears then 0 else s1.dev.stairs.mgmtReq } }
    let d2 := if frm = 6 then ({ d1.checkArchiveAll.loadSets with tb := { d1.tb with needConfirm := true } }).reapplyFalls else d1
    { s1 with dev := d2.latchMissed }

/-- The WOKE record of an exit that has completed (R501, R510). -/
def Dev.wokeRecord (d : Dev) : Dev :=
  match d.stairs.woke with
  | some (frm, cause, ms, flags) => { d with stairs := { d.stairs with woke := none } }.stairRecord 0x03 frm 0 cause ms flags
  | none => d

/-- STAIR_EXIT_LATE (R501). -/
def Dev.exitLate (d : Dev) : Dev := if d.stairs.waking.isSome then d.raiseDev 3 else d

/-- DWELL_END (R502): the last millisecond of the period passes. -/
def Dev.dwellEnd (d : Dev) : Dev := if d.stairs.dwell ≤ 1 then { d with stairs := { d.stairs with dwell := 0 } } else d

/-- The exit time of a Stair in fine steps (Table PL-1), and that of one frame. -/
def exitFine (stair : Nat) : Nat :=
  match stair with
  | 1 => 70 * finePerTick | 2 => 788 * finePerTick | 3 => 4500 * finePerNs | 4 => 45000 * finePerNs | 5 => 450000 * finePerNs
  | _ => 4500000 * finePerNs

/-- The lead of an alarm's wake in fine steps (R59). -/
def Dev.wakeLead (d : Dev) : Nat :=
  let us := 1000 * finePerNs
  let set := d.dict.cfg.nat 0x1444 0
  if set ≠ 0 then set * us
  else ceilDiv (exitFine d.stairs.now + 2 * refinPeriod d.tb.refinFreq + ticksPerFrame * finePerTick) us * us

/-- ALARM_WAKE (R59): an armed alarm with its wake bit begins the wake the lead before its time; time runs to that
moment. -/
def Dev.alarmWake (d : Dev) (owner : Fin 9) (which : Fin 2) : Dev :=
  let al := vget (vget d.tb.alarms owner) which
  let at_ := d.alarmFine owner which - d.wakeLead
  if d.stairs.now = 0 || al.status ≠ 1 || !bit (d.dict.cfg.nat 0x1442 owner.val) (2 + which.val) then d
  else
    let left := at_ - d.tb.devFine
    let d1 := if left = 0 then d
      else if d.tb.fast then d.runAcross (ceilDiv left finePerTick) else d.passAsleep (ceilDiv left (1000 * finePerNs))
    d1.wake (if owner.val = 8 then 5 else 4)

/-! ### The heater (R503-R508) -/

/-- T_iso (R503): the storage setpoint from the entry into Stair 5 or 6 until the wake. -/
def Dev.tIso (d : Dev) : BitVec 64 :=
  BitVec.ofNat 64 (d.dict.cfg.nat 0x1510 (if d.stairs.now ≥ 5 && d.stairs.waking.isNone then 2 else 1))

/-- The drive code of one update (R504, R505, R507): frozen until B6 after a reset other than power-on, at once 0 for heat or
VHTR, frozen with SENSOR_FAULT, ramped down with the servo off. A step in a withheld tick waits. -/
def Dev.heaterCode (d : Dev) (fault : Bool) : Dev :=
  let h := d.heater
  if d.codeFrozen then d
  else if h.hot || !h.vhtrOk then { d with heater := { h with code := 0 } }
  else if d.servoRuns && fault then d
  else if d.stairs.now = 0 && d.withheldTick d.tb.tick then { d with heater := { h with frozen := true } }
  else d.driveStep

/-- The code beyond which the current limit of 25 A leaves no more power: VHTR times 25 A of 30 W (R594). -/
def heaterMax (vhtrMv : Nat) : Nat := min 4095 (vhtrMv * 25 * 4095 / 30000)

/-- HEATER_UPDATE: one millisecond of the servo (R504, R505, R508, R594). -/
def Dev.heaterUpdate (d : Dev) (milliC : Int) (diff : Nat) (hottest : Int) (vhtrMv : Nat) (power : BitVec 64) : Dev :=
  let fault := d.cal.sensorFault || decide (diff > 500)
  let h0 := d.heater
  let iso := d.tIso
  let err := ((milli milliC).sub (f64ToQ iso)).abs
  let inBand := err.le ⟨50, 1000⟩
  let run := d.servoRuns
  let fresh := run && (h0.state == 0 || h0.tIso != iso)
  let st := if !run then 0 else if h0.state = 3 then 3 else if fresh then 2 else h0.state
  let hot := decide (hottest ≥ 90000)
  let vOk := decide (1080 ≤ vhtrMv ∧ vhtrMv ≤ 1320)
  let atEnd := (h0.code == 0 || decide (heaterMax vhtrMv ≤ h0.code)) && !inBand
  let cause := fault || hot || !vOk || atEnd
  let h1 : Heater :=
    { h0 with state := st, tIso := iso, power := power, vhtrOk := vOk, hot := hot
              stateMs := if st = 2 then (if fresh then 0 else h0.stateMs + 1) else 0
              bandMs := if st = 2 && inBand && !fresh then h0.bandMs + 1 else 0
              edgeMs := if run && atEnd then min (h0.edgeMs + 1) 999 else 0
              absentMs := if st = 3 && !cause then min (h0.absentMs + 1) 999 else 0 }
  { d with heater := h1 }.heaterCode fault

/-- WARMING_DONE (R505): T has stayed in the band for t_settle. -/
def Dev.warmingDone (d : Dev) : Dev :=
  let h := d.heater
  if h.state = 2 && decide (d.cal.tSettle ≤ h.bandMs + 1) then
    { d with heater := { h with state := 1, stateMs := 0, bandMs := 0 } }.stairRecord 0x05 d.stairs.now d.stairs.now 0xFF
      ((h.stateMs + 1) / 1000) 0
  else d

/-- HEATER_LIMIT (R505): entry into state 3, with FS-001, or FS-002 for VHTR. -/
def Dev.heaterLimit (d : Dev) : Dev :=
  let h := d.heater
  if (h.state = 1 || h.state = 2) && (decide (h.edgeMs ≥ 999) || d.cal.sensorFault || h.hot || !h.vhtrOk) then
    let d1 := { d with heater := { h with state := 3, absentMs := 0, stateMs := 0, bandMs := 0 } }
    (d1.condRise (if h.vhtrOk then 1 else 2) devScope 0 []).stairRecord 0x06 d.stairs.now d.stairs.now 0xFF 0 0
  else d

/-- HEATER_CLEAR (R505): the cause has been absent for 1 s. -/
def Dev.heaterClear (d : Dev) : Dev :=
  let h := d.heater
  if h.state = 3 && decide (h.absentMs ≥ 999) then
    let d1 := { d with heater := { h with state := 2, stateMs := 0, bandMs := 0, edgeMs := 0, absentMs := 0 } }
    ((d1.condFall 1 devScope).condFall 2 devScope).stairRecord 0x07 d.stairs.now d.stairs.now 0xFF 0 0
  else d

/-! ### Meanings -/

/-- ALARM_WAKE (R59). -/
def execAlarmWake (owner : Fin 9) (which : Fin 2) (s : State) : Host.Outcome State Fault Refusal :=
  .next { s with dev := s.dev.alarmWake owner which }

/-- STAIR_WAKE (R498). -/
def execStairWake (cause : Fin 7) (s : State) : Host.Outcome State Fault Refusal := .next { s with dev := s.dev.wake cause.val }

/-- STAIR_EXIT_LATE (R501). -/
def execStairExitLate (s : State) : Host.Outcome State Fault Refusal := .next { s with dev := s.dev.exitLate }

/-- DWELL_END (R502). -/
def execDwellEnd (s : State) : Host.Outcome State Fault Refusal := .next { s with dev := s.dev.dwellEnd }

/-- HEATER_UPDATE (R504). -/
def execHeaterUpdate (milliC : Int) (diff : Nat) (hottest : Int) (vhtrMv : Nat) (power : BitVec 64) (s : State) :
    Host.Outcome State Fault Refusal :=
  .next { s with dev := s.dev.heaterUpdate milliC diff hottest vhtrMv power }

/-- WARMING_DONE (R505). -/
def execWarmingDone (s : State) : Host.Outcome State Fault Refusal := .next { s with dev := s.dev.warmingDone }

/-- HEATER_LIMIT (R505). -/
def execHeaterLimit (s : State) : Host.Outcome State Fault Refusal := .next { s with dev := s.dev.heaterLimit }

/-- HEATER_CLEAR (R505). -/
def execHeaterClear (s : State) : Host.Outcome State Fault Refusal := .next { s with dev := s.dev.heaterClear }

end Sys2Proof.Machine
end

