-- ==== Sys2Proof/Machine/Reset.lean ====
section
/-! DEFINITION. Resets (chapter 17): requests and their merging, the reach of each kind, the cause history and the
RESET_NOTICE records. -/
namespace Sys2Proof.Machine

/-! ### Records -/

/-- RESET_CAUSE FLAGS of a reset that is executed now (Table RB-2). -/
def Dev.resetFlags (d : Dev) (q : ResetReq) : Nat :=
  (if d.rst.phase = 8 then 0 else d.rst.phase + 1) + 16 * ofBool q.heldOff + 32 * ofBool q.busy
    + 64 * ofBool (decide (d.stairs.now ≠ 0)) + 128 * ofBool q.merged

/-- The history entry of an executed reset (R526). -/
def Dev.resetEntry (d : Dev) (q : ResetReq) : ResetEntry :=
  { source := q.source, reach := q.reach, target := q.target, flags := d.resetFlags q, time := d.now }

/-- The newest entry enters the history. -/
def Dev.logReset (d : Dev) (e : ResetEntry) : Dev := { d with rst := { d.rst with history := (e :: d.rst.history).take 8 } }

/-- The 12 bytes of a RESET_NOTICE record (R542); `last` is the frame number, or BRINGUP_TIME. -/
def noticePayload (e : ResetEntry) (completed last : Nat) : Bytes :=
  natLE 1 e.reach ++ natLE 1 e.source ++ natLE 1 e.target ++ natLE 1 e.flags ++ natLE 4 (min completed (2 ^ 32 - 1)) ++ natLE 4 last

/-- The tenant whose block a code of Table RB-4 names, if any. -/
def Dev.blockOwner (d : Dev) (code : Nat) : Option Tenant :=
  if code < 8 then tenantOf code
  else if 0x10 ≤ code && code < 0x18 then tenantOf (code - 0x10)
  else if 0x18 ≤ code && code < 0x20 then tenantOf (code - 0x18)
  else match chanOf (code - 0x20) with
    | some ch => if 0x20 ≤ code then d.chOwner ch else none
    | none => none

/-- The RESET_NOTICE of a tenant, block or endpoint reset (R541). -/
def Dev.resetNotice (d : Dev) (e : ResetEntry) (completed : Nat) : Dev :=
  let p := noticePayload e completed (d.frame % 2 ^ 32)
  if e.reach = 3 then
    if e.target ≥ 0x60 then d.emitAll 0x0D 0x8000 d.now p
    else match d.blockOwner e.target with
      | some t => d.emitTenant t true 0x0D 0x8000 d.now p
      | none => d.emitMgmt 0x0D 0x8000 d.now p
  else if e.reach = 2 then d.emit (d.mkRec .mgmt e.target 0x0D 0x8000 d.now p)
  else d.emitMgmt 0x0D 0x8000 d.now p

/-! ### Block resets (Tables RB-4 and RB-5) -/

/-- Requests in flight of some session. -/
def Dev.anyInFlight (d : Dev) : Bool := allTenants.any fun t => decide ((vget d.odp.sess t).inFlight ≠ 0)

/-- A function bound to a tenant (R391). -/
def Cfg.bound (c : Cfg) (t : Tenant) : Bool := fieldBE (c.get 0x1101 t.val) 8 1 == 1

/-- The block is not idle (R539, Table RB-4). -/
def Dev.blockBusy (d : Dev) (code : Nat) : Bool :=
  let ofTen := fun (k : Nat) (f : Tenant → Bool) => match tenantOf k with | some t => f t | none => false
  if code < 8 then ofTen code fun t => !(d.seq t).isIdle
  else if code = 8 then bit d.calStatus 2 || bit d.calStatus 4 || decide ((vget d.micro.engines 8).pending ≠ 0)
  else if code < 0x18 then ofTen (code - 0x10) fun t => !(vget d.gallery t).idle
  else if code < 0x20 then ofTen (code - 0x18) fun t => (vget d.acq t).active
  else if code < 0x54 then (match chanOf (code - 0x20) with | some ch => !d.chIdle ch | none => false)
  else if code = 0x60 then allTenants.any fun t => let h := vget d.host t; h.dma.isSome || !h.bar2.isEmpty
  else if code = 0x61 || code = 0x62 then d.anyInFlight
  else if code = 0x63 then d.anyInFlight || !d.dict.commits.isEmpty
  else if code = 0x64 then allTenants.any fun t => d.dict.cfg.bound t && !(vget d.host t).hold.recs.isEmpty
  else allTenants.any d.dcBusy

/-- A pattern engine: its sequencer's state is cleared, its scratch and flags kept; SAFE_GAP_MAX counts anew (R186). -/
def Dev.resetEngine (d : Dev) (t : Tenant) : Dev :=
  (((d.endIssue t).latchCond (tenantEngine t) 0).modEngine (tenantEngine t) fun m => { m with gapMax := 0 }).modSeq t fun s =>
    { scratch := s.scratch, tf := s.tf, tf0 := s.tf0 }

/-- The housekeeping engine: the procedure, the re-admissions and the archive command end, and a pending re-application
is computed again; KILL is latched (R187). -/
def Dev.resetHousekeeping (d : Dev) : Dev :=
  let d1 := allChans.foldl (fun (d : Dev) c => d.readmitFail c 2 0xFFFF) (d.abandonProc 6)
  let d2 := d1.checkArchive true
  let redo := d2.cal.reapplyDue || d2.cal.reapply.isSome
  let m := { d2.micro with
    engines := vmod d2.micro.engines 8 fun _ => {}
    procReg := []
    outs := d2.micro.outs.filter fun o => o.engine != 8 }
  let d3 := Dev.latchCond { d2 with cal := { d2.cal with reapplyDue := false, reapply := none, reapplyLate := false }, micro := m } 8 0
  if redo then d3.reapplyFalls else d3

/-- The blocks of a capture that a reset drops: a free number, at least one while the context is active (R235). -/
def Dev.dropCapture (d : Dev) (t : Tenant) : Dev :=
  if (vget d.acq t).active then
    let (v, d1) := d.free
    d1.modAcq t fun a => { a with lostBlocks := satAdd 32 a.lostBlocks (v.toNat % 2 ^ 32) }
  else d

/-- An acquisition context returns to IDLE (R235); its segment gets no header, and the completed ones stay for upload, as sized
by the last Landing (R265). -/
def Dev.resetAcq (d : Dev) (t : Tenant) : Dev :=
  let excess := d.segExcess t d.tb.tick
  (d.dropCapture t).modAcq t fun a =>
    { lostBlocks := a.lostBlocks, lineTick := a.lineTick, seg := a.segDone, segDone := a.segDone, ignored := a.ignored
      edgeExcess := satAdd 32 a.edgeExcess excess, trigInExcess := a.trigInExcess, segBytes := a.segBytes, segCapacity := a.segCapacity }

/-- A channel: its lanes in the fuse-map state until the next edge, its counters cleared, its re-admission abandoned, the
calibration measurement on it without a result and a DC conversion of it INVALID (Tables RB-4, RB-5). -/
def Dev.resetChannel (d : Dev) (ch : Chan) : Dev :=
  let d1 := (d.readmitFail ch 2 0xFFFF).modChan ch fun c =>
    { c with runt := 0, inconsist := 0, drvLimit := 0, inconsistFrame := 0, limitTicks := 0, limitInvalid := false, limitClear := false
             clamp := false, clampHiz := false, clampClear := false, resetHold := true, frameInvalid := true }
  let keep := fun (p : Proc) => if p.staged || !p.chans.getLsbD ch.val then p else
    { p with kept := setBit p.kept ch.val true, meas := p.meas.filter fun m => m.ch != ch
             accepted := p.accepted.filter fun i => i.ch != ch }
  { d1 with
    cal := { d1.cal with proc := d1.cal.proc.map keep }
    modes := { d1.modes with dc := d1.modes.dc.map fun x => if x.source = ch.val then { x with invalid := true } else x } }

/-- Buffered BAR2 writes are discarded and counted (Table HQ-11). -/
def HostIf.dropBar2 (h : HostIf) : HostIf :=
  { h with bar2 := [], ringDropped := satAdd 32 h.ringDropped h.bar2.length }

/-- The endpoint: transfers end with HOST_ERROR, buffered writes are dropped (Table HQ-11, block column). -/
def Dev.resetEndpoint (d : Dev) : Dev :=
  allTenants.foldl (fun (d : Dev) t =>
    let d1 := d.dmaFinish t 6
    { d1 with host := vmod d1.host t HostIf.dropBar2 }) d

/-- A pending commit's request came through an Ethernet port. -/
def Commit.viaPort (c : Commit) (p : Fin 2) : Bool := match c.reply with | .odp q .. => q == p | _ => false

/-- An Ethernet port: the requests in flight through it are answered RESET_PENDING, and the link trains again. -/
def Dev.resetPort (d : Dev) (p : Fin 2) : Dev :=
  let d1 := d.discardCommits (fun c => c.viaPort p) stResetPending
  (d1.linkLost p).modPort p Port.lost

/-- The dictionary service: shadows emptied, pending commits discarded. -/
def Dev.resetDictionary (d : Dev) : Dev :=
  let d1 := d.discardCommits (fun _ => true) stResetPending
  { d1 with dict := { d1.dict with shadow := Vector.replicate 8 [], mgmtShadow := [], domWrites := [], genMarks := [] } }

/-- The DC converter: a conversion in progress ends as with RUN 0 (R470); one for a housekeeping request is dropped. -/
def Dev.resetDc (d : Dev) : Dev :=
  match d.modes.dc with
  | some x => match x.tenant with
    | some t => d.dcAbandon x t
    | none => { d with modes := { d.modes with dc := none } }
  | none => d

/-- The effect of a block reset (Table RB-4). -/
def Dev.blockEffect (d : Dev) (code : Nat) : Dev :=
  let ofTen := fun (k : Nat) (f : Dev → Tenant → Dev) => match tenantOf k with | some t => f d t | none => d
  if code < 8 then ofTen code Dev.resetEngine
  else if code = 8 then d.resetHousekeeping
  else if code < 0x18 then ofTen (code - 0x10) Dev.galleryInterrupt
  else if code < 0x20 then ofTen (code - 0x18) Dev.resetAcq
  else if code < 0x54 then (match chanOf (code - 0x20) with | some ch => d.resetChannel ch | none => d)
  else if code = 0x60 then d.resetEndpoint
  else if code = 0x61 then d.resetPort 0
  else if code = 0x62 then d.resetPort 1
  else if code = 0x63 then d.resetDictionary
  else if code = 0x65 then d.resetDc
  else d

/-- Transactions that a block reset completes as Table RB-5 gives. -/
def Dev.blockCompletes (d : Dev) (code : Nat) : Nat :=
  let hosts := fun (f : HostIf → Nat) => (allTenants.map fun t => f (vget d.host t)).foldl (· + ·) 0
  if 0x10 ≤ code && code < 0x18 then
    match tenantOf (code - 0x10) with
    | some t => (vget (d.galleryInterrupt t).gallery t).writesDropped - (vget d.gallery t).writesDropped
    | none => 0
  else if code = 0x60 then hosts fun h => ofBool h.dma.isSome + h.bar2.length
  else if code = 0x61 || code = 0x62 then (d.dict.commits.filter fun c => c.viaPort (if code = 0x61 then 0 else 1)).length
  else if code = 0x63 then d.dict.commits.length
  else if code = 0x65 then ofBool d.modes.dc.isSome
  else if 0x18 ≤ code && code < 0x20 then
    match tenantOf (code - 0x18) with
    | some t => (vget (d.dropCapture t).acq t).lostBlocks - (vget d.acq t).lostBlocks
    | none => 0
  else match chanOf (code - 0x20) with
    | some ch =>
      if code < 0x20 then 0
      else (match d.cal.proc with | some p => ofBool (!p.staged && p.chans.getLsbD ch.val) | none => 0)
        + (match d.modes.dc with | some x => ofBool (x.source == ch.val) | none => 0)
    | none => 0

/-- A block reset is executed (R538, R539): FS-112 where the block was not idle. -/
def Dev.execBlock (d : Dev) (q : ResetReq) : Dev :=
  let e := d.resetEntry q
  let n := if q.busy then d.blockCompletes q.target else 0
  let d1 := (d.blockEffect q.target).logReset e
  let d2 := if q.busy then d1.raiseTrans 112 (d1.blockOwner q.target) 3 q.target 0 0 else d1
  d2.resetNotice e n

/-! ### Tenant resets -/

/-- An entry returns to its default at a reset of tenant t (R346): t's own entries and the lanes of its channels, but for
those that R171, R289 and R332 keep. -/
def Dev.tenantEntry (d : Dev) (t : Tenant) (ix sub : Nat) : Bool :=
  (entryTenant ix sub == some t && !(decide (0x1900 ≤ ix ∧ ix ≤ 0x19FF)) && !(decide (0x6000 ≤ ix ∧ ix ≤ 0x61FF))
      && ix != 0x2020 + 0x100 * t.val && ix != 0x202C + 0x100 * t.val)
    || (decide (0x3003 ≤ ix ∧ ix ≤ 0x300E) && (match chanOf sub with | some ch => d.chOwner ch == some t | none => false))

/-- The dictionary's part: entries, shadow, commits (R346, R349). -/
def Dev.tenantDict (d : Dev) (t : Tenant) : Dev :=
  let r : Req := .tenant t
  let d1 := d.discardCommits (fun c => c.req == r) stResetPending
  let x := d1.dict
  { d1 with dict := { x with
      cfg := x.cfg.filter fun p => !d1.tenantEntry t (p.1 / 256) (p.1 % 256)
      shadow := vmod x.shadow t fun _ => [], domWrites := x.domWrites.filter fun w => w.req != r
      genMarks := x.genMarks.filter fun m => m.req != r, commitCount := vmod x.commitCount t fun _ => 0
      lastLanding := vmod x.lastLanding t fun _ => {}, lastCommitStatus := vmod x.lastCommitStatus t fun _ => 0 } }

/-- The function's part (Table HQ-11, FLR column; R395): the records discarded, those of this edge included, are counted
in the LOST record of R427, the first record made after the reset (R414). An FLR clears the configuration space too;
another tenant reset leaves it (notes/assumptions/24). -/
def Dev.tenantHost (d : Dev) (t : Tenant) : Dev :=
  let mine := fun (e : EdgeRec) => match e.dest with | .tenant u => u == t | .mgmt => false
  let h := vget d.host t
  let n := h.hold.recs.length + (d.tickRecs.filter mine).length + (d.edgeRecs.filter mine).length
  let lost : EventRec := { type := 0x0C, tenant := t.val, seq := 0, time := d.now, source := 0x9000 + t.val
                           epochTrace := d.epochTrace, payload := zeros 4 ++ natLE 4 n ++ zeros 4 }
  let fresh : HostIf := { resetLost := some lost, hold := { seq := 1 } }
  let kept := if h.flr then fresh
    else { fresh with msixEnable := h.msixEnable, functionMask := h.functionMask, busMaster := h.busMaster
                      memSpace := h.memSpace, d3hot := h.d3hot, maxPayload := h.maxPayload }
  { d with host := vmod d.host t fun _ => kept, tickRecs := d.tickRecs.filter fun e => !mine e
           edgeRecs := d.edgeRecs.filter fun e => !mine e }

/-- Re-admissions to a pin of the tenant are abandoned (R96). -/
def Dev.tenantReadmits (d : Dev) (t : Tenant) : Dev :=
  allChans.foldl (fun (d : Dev) c =>
    match (vget d.chans c).readmit with
    | some a => match a.pin with
      | some p => if d.dict.cfg.pinOwner p == some t then d.readmitFail c 3 0xFFFF else d
      | none => d
    | none => d) d

/-- Transactions that a tenant reset completes as Table RB-5 gives (R540), beside the capture writes that it drops. -/
def Dev.tenantCompletes (d : Dev) (t : Tenant) : Nat :=
  let h := vget d.host t
  (d.dict.commits.filter fun c => c.req == .tenant t).length + ofBool h.dma.isSome + h.bar2.length
    + ((vget (d.galleryInterrupt t).gallery t).writesDropped - (vget d.gallery t).writesDropped)

/-- Replies to TENANT_RESET and to RESET that waited are sent (R388, R451). -/
def Dev.resetReplies (d : Dev) (t : Tenant) : Dev :=
  let mine := fun (r : ReplyTo) => match r with | .odp _ _ u .. => u == t | _ => false
  let l := d.odp.resetReplies.filter mine
  let d1 := { d with odp := { d.odp with resetReplies := d.odp.resetReplies.filter fun r => !mine r } }
  l.foldl (fun (d : Dev) r => d.answer r stOK [] []) d1

/-- The tenant's flags and scratch (R166): 0, with what the present tick has changed and what was poisoned. -/
def Dev.clearFlags (d : Dev) (t : Tenant) : Dev :=
  let base := scratchWord t 0
  { d with
    flagOps := d.flagOps.filter fun o => o.tf != some t && o.sender != some t
    arb := { d.arb with poison := d.arb.poison.filter fun a =>
      !(decide (base ≤ a ∧ a < base + 512 * 64) && (a - base) % 64 == 0) } }

/-- A tenant reset is executed (R346, R540, Table RB-3). -/
def State.execTenant (s : State) (q : ResetReq) : State :=
  match tenantOf q.target with
  | none => s
  | some t =>
    let d := s.dev
    let e := d.resetEntry q
    let lines := fun (k : Fin 4) => d.dict.cfg.trigGrant t k
    let d1 := if d.ownProc t then d.abandonProc 2 else d
    let d2 := ((((d1.tenantReadmits t).dcStop t).resetEngine t).modSeq t fun _ => {}).galleryInterrupt t
    let d3 := (((d2.resetAcq t).clearFlags t).releaseLines lines).tenantDict t
    let n := d.tenantCompletes t + ((vget d3.acq t).lostBlocks - (vget d.acq t).lostBlocks)
    let d5 := (d3.modGal t fun g => { g with stopDue := false }).resetLocks t
    let d6 := (d5.fcTenantReset t).tenantHost t
    let d7 := { d6 with
      modes := { d6.modes with mode := vmod d6.modes.mode t fun _ => 0, dcDone := vmod d6.modes.dcDone t fun _ => 0
                               dcResult := vmod d6.modes.dcResult t fun _ => {} }
      tb := { d6.tb with alarms := vmod d6.tb.alarms ⟨t.val, by omega⟩ fun _ => Vector.replicate 2 {} }
      stairs := { d6.stairs with req := vmod d6.stairs.req t fun _ => 0 } }
    { s with dev := (((d7.logReset e).resetNotice e n).resetReplies t) }

/-- The management endpoint is reset (R451): records for it made earlier at this edge are emptied with its buffer. -/
def Dev.execEndpoint (d : Dev) (q : ResetReq) : Dev :=
  let e := d.resetEntry q
  let d1 := d.discardCommits (fun c => c.req == .mgmt) stResetPending
  let d2 := { d1 with
    dict := { d1.dict with mgmtShadow := [], domWrites := d1.dict.domWrites.filter fun w => w.req != Req.mgmt
                           genMarks := d1.dict.genMarks.filter fun m => m.req != Req.mgmt }
    mgmt := { d1.mgmt with hold := {}, partialMsg := [] }
    tickRecs := d1.tickRecs.filter fun r => r.dest != Recipient.mgmt
    edgeRecs := d1.edgeRecs.filter fun r => r.dest != Recipient.mgmt }
  (d2.logReset e).resetNotice e 0

/-! ### Device and power-on resets -/

/-- The time base over a device reset: device time goes on with Tahr, in state FREE (Table RB-3). -/
def Dev.resetTime (d : Dev) : TimeBase :=
  let tb := (if d.tb.fast then d.stopFast else d).tb
  { devFine := tb.devFine, aonUs := tb.aonUs, phi := tb.phi, msPhase := tb.msPhase, ms := tb.ms, traceSince := d.now }

/-- The archive over a reset: what lies in it is kept. -/
def Cal.kept (c : Cal) : Cal :=
  { arch := c.arch, checkpoints := c.checkpoints, life := c.life, journal := c.journal, uSS := c.uSS, uConv := c.uConv
    tSettle := c.tSettle, trigInU := c.trigInU }

/-- Sources whose conditions lie outside the reset blocks: the supplies, the temperatures, the always-on clock and the TAP. -/
def physicalSource (n : Nat) : Bool := n == 0 || decide (4 ≤ n ∧ n ≤ 10) || n == 25 || n == 123

/-- The collector over a reset: latches and records go; conditions of physical origin, broken pairs and FC_LAST_RECORD
stay. ALIVE takes its fuse-map level (R530). -/
def Dev.resetCollector (d : Dev) : Collector :=
  { src := Vector.ofFn fun i =>
      let f := vget d.fc.src i
      if physicalSource i.val then { present := f.present, cond := f.cond, broken := f.broken } else { broken := f.broken }
    wires := d.fc.wires, last := d.fc.last, alive := d.fuses.outState[4] == 2 }

/-- The channels at a reset of everything; their balls show what they last showed. -/
def Dev.freshChans (d : Dev) : Vector Channel 52 :=
  Vector.ofFn fun i => { vget ({} : Dev).chans i with ball := (vget d.chans i).ball }

/-- The device at the start of bring-up after a device reset (R345, R524, R529, R536). -/
def Dev.afterDevice (d : Dev) (source : Nat) : Dev :=
  { chans := d.freshChans, discrete := d.discrete, fuses := d.fuses, tb := d.resetTime, cal := d.cal.kept, fc := d.resetCollector
    link := if source ≠ 0x06 && d.link.l0 then { l0 := true, rate := d.link.rate, width := d.link.width } else {}
    heater := { code := d.heater.code }, boot := { flash := d.boot.flash }, jtag := d.jtag, out := d.out, freeCtr := d.freeCtr
    rst := { history := d.rst.history, backup := d.rst.backup, retained := d.rst.retained, fuseLatched := d.rst.fuseLatched
             aonLow := d.rst.aonLow, resetNLow := d.rst.resetNLow, pwrgdLow := d.rst.pwrgdLow, notices := [] }
    dict := { gens := d.dict.gens.filter fun p => p.1 == 0x160300 || p.1 == 0x610200 } }

/-- Transactions that a device reset completes (Table RB-5, R540). -/
def Dev.deviceCompletes (d : Dev) : Nat :=
  d.dict.commits.length + (allTenants.map fun t => ofBool (vget d.host t).dma.isSome).foldl (· + ·) 0

/-- A device reset is executed: pending commits are answered RESET_PENDING, the pins go to their fuse-map states
from the latch (R529), and bring-up begins. -/
def Dev.execDevice (d : Dev) (q : ResetReq) : Dev :=
  let e := d.resetEntry q
  let n := d.deviceCompletes
  let d2 := ((d.discardCommits (fun _ => true) stResetPending).afterDevice q.source).logReset e
  { d2 with rst := { d2.rst with notices := [(e, n)] } }.showPins

/-- A power-on reset (R38, R513, R527): everything but the fuses, the archive and the flash is lost. The pins are
high-impedance until B1 has read the fuses (R528). -/
def Dev.powerOn (d : Dev) : Dev :=
  Dev.showPins { chans := d.freshChans, discrete := d.discrete, fuses := d.fuses, cal := d.cal.kept, boot := { flash := d.boot.flash }
                 out := d.out, freeCtr := d.freeCtr, rst := { aonLow := true } }

/-! ### Requests -/

/-- A request reaches Tahr (R521-R523): during bring-up every request but a device reset is merged into the running one. -/
def Dev.requestReset (d : Dev) (q : ResetReq) : Dev :=
  if d.rst.phase ≠ 8 && q.reach ≥ 2 then
    { d with rst := { d.rst with history := match d.rst.history with
      | e :: l => { e with flags := e.flags ||| 128 } :: l
      | [] => [] } }
  else { d with rst := { d.rst with requests := d.rst.requests ++ [q] } }

/-- The reach of one request contains that of another (R521). -/
def Dev.reachHolds (d : Dev) (a b : ResetReq) : Bool :=
  if a.reach ≤ 1 then true
  else if a.reach = 2 then
    (b.reach == 2 && a.target == b.target) || (b.reach == 3 && b.target < 0x60 && (d.blockOwner b.target).map (·.val) == some a.target)
  else a.reach == b.reach && a.target == b.target

/-- The requests that are executed: one contained in another, or equal to an earlier one, is merged into it (R521, R522). -/
def Dev.mergeRequests (d : Dev) (l : List ResetReq) : List ResetReq :=
  l.foldl (fun (acc : List ResetReq) q =>
    if acc.any fun a => d.reachHolds a q then acc.map fun a => if d.reachHolds a q then { a with merged := true } else a
    else
      let under := acc.any fun a => d.reachHolds q a
      (acc.filter fun a => !d.reachHolds q a) ++ [{ q with merged := q.merged || under, heldOff := q.heldOff }]) []

/-- The reset reaches the NV writer (R523). -/
def ResetReq.reachesNv (q : ResetReq) : Bool := decide (q.reach ≤ 1) || (q.reach == 3 && q.target == 8)

/-- One reset is executed. -/
def State.execReset (s : State) (q : ResetReq) : State :=
  match q.reach with
  | 0 => { s with dev := s.dev.powerOn }
  | 1 => { s with dev := s.dev.execDevice q }
  | 2 => s.execTenant q
  | 3 => { s with dev := s.dev.execBlock q }
  | _ => { s with dev := (s.dev.execEndpoint q) }

/-- Replies to a RESET of the management plane that waited for it (R451). -/
def Dev.mgmtResetReplies (d : Dev) : Dev :=
  let l := d.mgmt.resetReplies
  let d1 := { d with mgmt := { d.mgmt with resetReplies := [] } }
  l.foldl (fun (d : Dev) tag => d.mgmtReply tag 3 stOK 0 0 []) d1

/-- The accepted requests are executed (step 4 of R24, or at once below Stair 0, R485): what a pulse holds off waits. A
stair request accepted in the same frame is discarded (R26). DESIGN CHOICE (notes/assumptions/29): the discard makes a STAIR
record with action CANCELLED and cause 0xFF; the spec states neither that a record is made nor its cause. -/
def State.resetEdge (s : State) : State :=
  let d := s.dev
  match d.mergeRequests d.rst.requests with
  | [] => s
  | l =>
    let held := if d.cal.pulse then (l.filter ResetReq.reachesNv).map fun q => { q with heldOff := true } else []
    if held.any (fun (q : ResetReq) => decide (q.reach ≤ 1)) then
      { s with dev := { d with rst := { d.rst with requests := l.map fun q => { q with heldOff := q.heldOff || q.reachesNv } } } }
    else
      let go := if d.cal.pulse then l.filter fun q => !q.reachesNv else l
      let d1 := { d with rst := { d.rst with requests := held } }
      let d2 := match go, d1.stairs.accepted with
        | _ :: _, some (tgt, _) =>
          { d1 with stairs := { d1.stairs with accepted := none } }.stairRecord 0x04 0 tgt 0xFF 0 0
        | _, _ => d1
      let s1 := go.foldl State.execReset { s with dev := d2 }
      if held.isEmpty then { s1 with dev := s1.dev.mgmtResetReplies } else s1

/-- Below Stair 0 a reset is executed when it is received (R485), on the saved context as well (R519). -/
def State.settle (s : State) : State :=
  if s.dev.stairs.now ≠ 0 && s.dev.rst.phase = 8 && !s.dev.rst.requests.isEmpty then
    let s1 := s.resetEdge
    { s1 with dev := s1.dev.keepContext }
  else s

/-- A device reset that acts without a frame edge (Table RB-1), unless a pulse holds it off (R523). -/
def State.resetNow (s : State) (source : Nat) : State :=
  let d := { s.dev with rst := { s.dev.rst with
    requests := s.dev.rst.requests ++ [{ source := source, reach := 1, heldOff := s.dev.cal.pulse }] } }
  if d.cal.pulse then { s with dev := d } else { s with dev := d }.resetEdge

/-! ### Meanings -/

/-- POWER_ON (R513): VDD_AON below its threshold. -/
def execPowerOn (s : State) : Host.Outcome State Fault Refusal := .next { s with dev := s.dev.powerOn }

/-- RESET_N (R515): the fourth low sample. -/
def execResetN (s : State) : Host.Outcome State Fault Refusal :=
  .next (State.resetNow { s with dev := { s.dev with rst := { s.dev.rst with resetNLow := true } } } 0x01)

/-- PWRGD_LOW (R514). -/
def execPwrgdLow (s : State) : Host.Outcome State Fault Refusal :=
  .next (State.resetNow { s with dev := { s.dev with rst := { s.dev.rst with pwrgdLow := true } } } 0x07)

/-- NV_PULSE_END (R523): the pulse ends; held-off resets of sources 0x01 and 0x07, and any below Stair 0, are executed. -/
def execNvPulseEnd (s : State) : Host.Outcome State Fault Refusal :=
  let s1 := { s with dev := { s.dev with cal := { s.dev.cal with pulse := false } } }
  let now := s1.dev.rst.requests.any fun q => q.heldOff && (q.source == 0x01 || q.source == 0x07)
  .next (if now then s1.resetEdge else s1.settle)

/-- HOT_RESET (R426): a hot reset or DL_Down; the link goes down with the reset. -/
def execHotReset (s : State) : Host.Outcome State Fault Refusal :=
  let d0 := { s.dev with link := { s.dev.link with l0 := false, l1 := false } }
  let d := if s.dev.link.l0 then d0.condRise 83 devScope 0 [] else d0
  let s1 := { s with dev := d.requestReset { source := 0x06, reach := 1 } }
  .next (if d.rst.phase ≠ 8 then s1.resetEdge else s1.settle)

/-- FAULT_CONDITION (R570); a device reset that it brings below Stair 0 is executed at once (R485). -/
def execFaultCondition (src : Source) (res : Resource) (s : State) : Host.Outcome State Fault Refusal :=
  .next (State.settle { s with dev := s.dev.anyCondition src res })

/-- BROKEN_PAIR (R563). -/
def execBrokenPair (src : Source) (s : State) : Host.Outcome State Fault Refusal :=
  .next (State.settle { s with dev := s.dev.brokenPair src })

end Sys2Proof.Machine
end

