-- ==== Sys2Proof/Machine/Bringup.lean ====
section
/-! DEFINITION. Bring-up (chapter 17, Table RB-6): the phases B0 to B7, the archive check and the load of the sets. -/
namespace Sys2Proof.Machine

/-! ### B2: the archive (R328, R330) -/

/-- Stored check words differ from what was written in the bits that damage has changed (R326). -/
def Cal.damage (c : Cal) (env : BringupEnv) : Cal :=
  { c with
    arch := c.arch.map fun a => match env.nvBad.find? fun b => b.1 == a.typ && b.2.1 == a.key && b.2.2.1 == a.copyB with
      | some b => { a with check := a.check ^^^ b.2.2.2 }
      | none => a
    journal := c.journal.zipIdx.map fun p => match env.journalBad.find? fun b => b.1 == p.2 with
      | some b => { p.1 with check := p.1.check ^^^ b.2 }
      | none => p.1
    life := Vector.ofFn fun k => match env.lifeBad.find? fun b => b.1 == k with
      | some b => { vget c.life k with check := (vget c.life k).check ^^^ b.2 }
      | none => vget c.life k }

/-- B2 (R328, R330). -/
def Dev.bootB2 (d : Dev) (env : BringupEnv) : Dev := Dev.checkArchiveAll { d with cal := d.cal.damage env }

/-! ### B6: sets, traceability record and epoch -/

/-- The epoch is set from the checkpoint, and a new checkpoint with the ceiling raised is written (R318, R319). -/
def Cal.bootEpoch (c : Cal) : Cal :=
  let last := c.checkpoints.headD (0, 0, false)
  let major := last.1
  let ceiling := last.2.1
  if ceiling ≤ 0xFFFF then { c with major := major, minor := ceiling }.checkpoint major (ceiling + 4096) last.2.2
  else if major = 0xFFFF then { c with major := 0xFFFF, minor := 0xFFFF, ceiling := ceiling, continuation := last.2.2 }
  else { c with major := major + 1, minor := 0 }.checkpoint (major + 1) 4096 true

/-- RT_TIME, RT_EPOCH and the traceability record from the archive (Table CA-8, notes/assumptions/16). -/
def Dev.loadTrace (d : Dev) : Dev :=
  let d1 := match d.cal.record 0x20 0 with
    | some a =>
      { d with cal := { d.cal with
          rtTime := { sub := fieldLE a.payload 0 2, ns := fieldLE a.payload 2 4, sec := fieldLE a.payload 6 6 }
          rtEpoch := fieldLE a.payload 12 4 } }
    | none => d
  match d1.cal.record 0x21 0 with
  | some a =>
    let n := fieldLE a.payload 0 1
    let m := fieldLE a.payload (1 + n) 1
    let due := slice a.payload (2 + n + m) 12
    let c := d1.dict.cfg
    let time : Time96 := { sub := fieldLE due 0 2, ns := fieldLE due 2 4, sec := fieldLE due 6 6 }
    let c1 := ((c.set 0x6110 0 (slice a.payload 1 n)).set 0x6110 1 (slice a.payload (2 + n) m)).set 0x6110 4 (timeBE time)
    { d1 with dict := { d1.dict with cfg := c1 } }
  | none => d1

/-- Numbers of `n` bytes each, least significant byte first. -/
def wordsLE (n : Nat) : Nat → Bytes → List Nat
  | 0, _ => []
  | k + 1, b => leNat (b.take n) :: wordsLE n k (b.drop n)

/-- The characterisation record (Table CA-8): t_settle in ms, U_HOLD_F0, U_HOLD_DRIFT, the PTP latencies, TRIG_IN_DELAY and its
uncertainty by line, u_conv, and U_SS by channel (R60, R263, R320, R474, R505), eight bytes each (notes/assumptions/16). -/
def Dev.loadChar (d : Dev) : Dev :=
  match d.cal.record 0x12 0 with
  | some a =>
    let w := wordsLE 8 66 a.payload
    let at_ := fun (k : Nat) => w.getD k 0
    let put := fun (c : Cfg) (ix sub k : Nat) => c.set ix sub (natBE 8 (at_ k))
    let c1 := put (put (put (put d.dict.cfg 0x1420 3 1) 0x1420 4 2) 0x1280 0x0B 3) 0x1280 0x0C 4
    let c2 := (List.range 4).foldl (fun c k => put c 0x5180 k (5 + k)) c1
    { d with
      dict := { d.dict with cfg := c2 }
      cal := { d.cal with
        tSettle := at_ 0, trigInU := Vector.ofFn fun k => BitVec.ofNat 64 (at_ (9 + k.val)), uConv := BitVec.ofNat 64 (at_ 13)
        uSS := Vector.ofFn fun c => BitVec.ofNat 64 (at_ (14 + c.val)) } }
  | none => d

/-- B6 (R318, R328, R507): the sets, the epoch, the isothermal wait where it is fused on, and the blend at the reading. -/
def Dev.bootB6 (d : Dev) (env : BringupEnv) : Dev :=
  let d1 := d.loadSets.loadTrace.loadChar
  let d2 := { d1 with cal := d1.cal.bootEpoch }
  let d3 := if d2.fuses.isoBoot then
      let h := { d2 with heater := { d2.heater with state := if env.isoWaitOk then 1 else 2, tIso := d2.tIso } }
      if env.isoWaitOk then h else h.condRise 1 devScope 0 []
    else d2
  (d3.sensorRead env.sensorMilliC env.sensorDiff).applyBlend env.sensorMilliC

/-! ### The phases -/

/-- A phase ends after `us` microseconds, and the next begins. -/
def Dev.endPhase (d : Dev) (us : Nat) : Dev :=
  let d1 := if d.tb.fast then d.runAcross (us * ticksPerUs) else d.passAsleep us
  { d1 with rst := { d1.rst with phase := d.rst.phase + 1, bringupTime := d.rst.bringupTime + us } }

/-- Bring-up halts in its phase (R534). -/
def Dev.haltBoot (d : Dev) : Dev := { d with rst := { d.rst with halted := true } }

/-- B5 (Table RB-6): memory to zero; a failed self-test is FS-114. -/
def State.bootB5 (s : State) (bistOk : Bool) (us : Nat) : State :=
  let d := if bistOk then s.dev else s.dev.raiseTrans 114 none 4 0 0 0
  { s with mem := [], dev := { d with arb := { d.arb with poison := [], writeBack := [] } }.endPhase us }

/-- B7 ends in Ready (R537): ALIVE toggles unless a class D occurrence has latched, and FS-114 enters M11. -/
def Dev.ready (d : Dev) (us : Nat) : Dev :=
  let d1 := d.endPhase us
  let bist := (vget d1.fc.src 114).latched != 0
  { d1 with fc := { d1.fc with aliveToggling := !d1.fc.classDSeen, aliveCycles := 0 }
            modes := { d1.modes with device := if bist then 11 else d1.modes.device } }

/-- The work of one phase of bring-up, in `us` microseconds (R531, Table RB-6). -/
def State.phaseWork (s : State) (env : BringupEnv) (us : Nat) : State :=
  let d := s.dev
  if d.rst.halted then s
  else match d.rst.phase with
    | 0 => { s with dev := { d with rst := { d.rst with bringupTime := 0 } }.endPhase us }
    | 1 =>
      { s with dev := if env.fusesOk then { d with rst := { d.rst with fuseLatched := true } }.endPhase us
                      else (d.raiseTrans 115 none 4 0 0 0).haltBoot }
    | 2 => { s with dev := (d.bootB2 env).endPhase us }
    | 3 => { s with dev := (d.bootB3 (sfdpUsable env.sfdp) env.fusesBlow).endPhase us }
    | 4 => { s with dev := if env.pllOk then (d.endPhase us).handoverSeed else (d.condRise 21 devScope 0 []).haltBoot }
    | 5 => s.bootB5 env.bistOk us
    | 6 => { s with dev := (d.bootB6 env).endPhase us }
    | 7 => { s with dev := d.ready us }
    | _ => s

/-- One phase of bring-up; the balls show what it has set (R528, R529). -/
def State.bootPhase (s : State) (env : BringupEnv) (us : Nat) : State :=
  let s1 := s.phaseWork env us
  { s1 with dev := s1.dev.showPins }

/-- BRINGUP (R513, R531): the holding conditions have ended, and the phases run from the present one on. -/
def execBringup (env : BringupEnv) (s : State) : Host.Outcome State Fault Refusal :=
  let d := s.dev
  if d.rst.phase = 8 || d.rst.halted then .next s
  else
    let d1 := { d with rst := { d.rst with aonLow := false, resetNLow := false, pwrgdLow := false } }
    .next (env.us.foldl (fun (s : State) us => s.bootPhase env us) { s with dev := d1 })

end Sys2Proof.Machine
end

