-- ==== Sys2Proof/Machine/Service.lean ====
section
/-! DEFINITION. The dictionary service: one written item and its effect (R338, R341, R347), and one written block of a
DOMAIN (R358, R359). -/
namespace Sys2Proof.Machine

/-! ### Shadows -/

/-- The size of a shadow (R347): 4 bytes beside each value. -/
def shadowSize (c : Cfg) : Nat := c.foldl (fun n p => n + p.2.length + 4) 0

/-- The largest shadow of a requester (R347). -/
def shadowLimit : Req → Nat
  | .tenant _ => 4096
  | .mgmt => 65536

/-- A value enters the requester's shadow. -/
def Dev.shadowPut (d : Dev) (r : Req) (key : Nat) (v : Bytes) : Dev × Nat :=
  let sh := (d.dict.shadowOf r).insert key v
  if shadowSize sh > shadowLimit r then (d, stTooMany) else ({ d with dict := d.dict.setShadow r sh }, stOK)

/-! ### Effects of single entries -/

/-- SERVICE_REQ (R477, R479). -/
def Dev.serviceWrite (d : Dev) (n : Nat) : Dev × Nat :=
  let m := d.modes
  let changes := fun (c : Commit) => allTenants.any fun t =>
    match c.entries.find (keyOf (0x2000 + 0x100 * t.val) 0) with
    | some v => beNat v != 0 && v != d.dict.cfg.get (0x2000 + 0x100 * t.val) 0
    | none => false
  if n = 1 then
    if m.device ≠ 0 || d.presentTenants.any (fun t => vget m.mode t != 0) || d.dict.commits.any (fun c => c.req != .mgmt && changes c)
    then (d, stMode)
    else ({ d with modes := { m with serviceReq := true } }, stOK)
  else if m.device = 10 then
    if d.boot.update.isSome || d.dict.incomplete .mgmt then (d, stMode)
    else ({ d with modes := { m with serviceLeave := true } }, stOK)
  else ({ d with modes := { m with serviceReq := false } }, stOK)

/-- A block reset is requested (R538, R539): the block's idle indicator is sampled now. -/
def Dev.blockRequest (d : Dev) (code : Nat) : Dev :=
  d.requestReset { source := 0x20, reach := 3, target := code, busy := d.blockBusy code }

/-- The flags of a mask set or cleared, ascending (R161). -/
def Dev.writeTF (d : Dev) (t : Tenant) (mask : Nat) (v : Bool) : Dev :=
  (setBits (BitVec.ofNat 16 mask) 16).foldl (fun (d : Dev) n => d.writeFlag (some t) n v) d

/-- The device-wide flags of a mask set or cleared, ascending (R161, R173). -/
def Dev.writeGF (d : Dev) (mask : Nat) (v : Bool) : Dev :=
  (setBits (BitVec.ofNat 32 mask) 32).foldl (fun (d : Dev) n => d.writeFlag none n v) d

/-- A value of an RW entry in force at once. -/
def Dev.setNow (d : Dev) (ix sub : Nat) (v : Bytes) : Dev := { d with dict := { d.dict with cfg := d.dict.cfg.set ix sub v } }

/-- The watchdog's count restarts (R516). -/
def Dev.kick (d : Dev) : Dev := { d with rst := { d.rst with wdt := 0 } }

/-- The effect of a checked write at 0x1000 to 0x1FFF. A write of 0 to a BOOL that asks for a write of 1 changes nothing, as
R516 says of WATCHDOG_KICK (notes/assumptions/27). -/
def Dev.act1 (d : Dev) (r : Req) (ix sub : Nat) (v : Bytes) : Dev × Nat :=
  let n := beNat v
  if ix = 0x1403 then d.todSet (timeOfBE v)
  else if ix = 0x1500 then (d.stairReq r n, stOK)
  else if ix = 0x1602 then
    if h : sub < 32 then
      ({ d with rst := { d.rst with backup := vmod d.rst.backup ⟨sub, h⟩ fun _ => BitVec.ofNat 32 n } }, stOK)
    else (d, stNoObject)
  else if ix = 0x1604 then (if n = 1 then d.blockRequest sub else d, stOK)
  else if ix = 0x1605 && sub = 0 then ((d.setNow ix sub v).kick, stOK)
  else if ix = 0x1605 then (if n = 1 then d.kick else d, stOK)
  else if ix = 0x1802 then
    if h : n < 128 then d.fcClear r ⟨n, h⟩ else (d.fcClearAll r, stOK)
  else (d.setNow ix sub v, stOK)

/-- The effect of a checked write to a channel's entry. -/
def Dev.act3 (d : Dev) (r : Req) (ix : Nat) (ch : Chan) (v : Bytes) : Dev × Nat :=
  let n := beNat v
  if ix = 0x3010 then d.writeRetire r ch n
  else if ix = 0x3011 then d.writeReadmit r ch n
  else if ix = 0x3018 then (d.modChan ch fun c => { c with runt := 0 }, stOK)
  else if ix = 0x3019 then (d.modChan ch fun c => { c with inconsist := 0 }, stOK)
  else if ix = 0x301A then (d.modChan ch fun c => { c with drvLimit := 0 }, stOK)
  else (d.setNow ix ch.val v, stOK)

/-- The effect of a checked write to a tenant's sequencer, flag or event-input entry. -/
def Dev.act2 (d : Dev) (t : Tenant) (ix sub : Nat) (v : Bytes) : Dev × Nat :=
  let n := beNat v
  let o := ix % 256
  if o = 0x18 then (d.writeTF t n (sub == 1), stOK)
  else if o = 0x21 then (d.writeGF n (sub == 1), stOK)
  else if o = 0x26 then
    if h : sub < 8 then (if n = 1 then d.inject t ⟨sub, h⟩ else d, stOK) else (d, stNoObject)
  else (d.setNow ix sub v, stOK)

/-- The effect of a checked write at 0x6000 and above. -/
def Dev.act6 (d : Dev) (r : Req) (ix sub : Nat) (v : Bytes) : Dev × Nat :=
  let n := beNat v
  if ix = 0x6020 then d.calReq r v
  else if ix = 0x6100 then d.archiveCmd v
  else if ix = 0x7000 then d.serviceWrite n
  else if ix = 0x7F15 then if h : sub < 9 then d.writeEngineReset ⟨sub, h⟩ n else (d, stNoObject)
  else if ix = 0x7F20 then if h : sub < 4 then (d.writeForce ⟨sub, h⟩ n, stOK) else (d, stNoObject)
  else (d.setNow ix sub v, stOK)

/-- What a checked write of an RW or WO entry does, and its status. -/
def Dev.act (d : Dev) (r : Req) (ix sub : Nat) (v : Bytes) : Dev × Nat :=
  if ix < 0x2000 then d.act1 r ix sub v
  else if ix < 0x3000 then (match tenantOf ((ix - 0x2000) / 256) with | some t => d.act2 t ix sub v | none => (d, stNoObject))
  else if ix < 0x4000 then (match chanOf sub with | some ch => d.act3 r ix ch v | none => (d, stNoObject))
  else if 0x5100 ≤ ix && ix < 0x5180 then
    match tenantOf ((ix - 0x5100) / 16) with
    | some t => (if ix % 16 = 1 && sub = 0x0B then d.modAcq t fun a => { a with forceDue := a.forceDue || beNat v == 1 }
        else d.setNow ix sub v, stOK)
    | none => (d, stNoObject)
  else d.act6 r ix sub v

/-- One WRITE item (R338, R341): the checks, then the shadow or the effect. -/
def Dev.writeItem (d : Dev) (r : Req) (ix sub : Nat) (v : Bytes) : Dev × Nat :=
  let st := d.checkWrite r ix sub v
  if st ≠ stOK then (d, st)
  else match lookupEntry ix sub with
    | some e => if e.acc = .rwc then d.shadowPut r (keyOf ix sub) v else d.act r ix sub v
    | none => (d, stNoObject)

/-! ### DOMAIN writes -/

/-- The writes in progress without one. -/
def Dict.endWrite (x : Dict) (r : Req) (key : Nat) : Dict :=
  { x with domWrites := x.domWrites.filter fun w => !(w.req == r && w.key == key) }

/-- A write in progress is given up, with the value it has put into a shadow (R358). -/
def Dev.dropWrite (d : Dev) (r : Req) (key : Nat) : Dev :=
  if d.dict.domWrites.any fun w => w.req == r && w.key == key then
    let x := d.dict.endWrite r key
    let rwc := decide (0x601100 ≤ key ∧ key < 0x601500)
    { d with dict := if rwc then x.setShadow r ((x.shadowOf r).erase key) else x }
  else d

/-- The data of a write so far takes effect as its access class gives (R358): an RW DOMAIN block by block, a WO DOMAIN and
the check of a channel block (R291, R293) at the last byte. -/
def Dev.domainEffect (d : Dev) (r : Req) (ix sub offset : Nat) (data all : Bytes) (last : Bool) : Dev × Nat :=
  let key := keyOf ix sub
  if ix = 0x1603 then
    ({ d with rst := { d.rst with retained := Mem.writeBytes d.rst.retained offset data }, dict := d.dict.bumpGen key }, stOK)
  else if ix = 0x1211 then
    match last, tenantOf sub with
    | true, some t => (d.rekey t all, stOK)
    | _, _ => (d, stOK)
  else if ix = 0x1605 then (if last then { d with rst := { d.rst with key := if allZero all then [] else all } } else d, stOK)
  else if last && !blockOk all then (d.dropWrite r key, stRange)
  else d.shadowPut r key all

/-- One block of a fixed-size DOMAIN in order (R358). -/
def Dev.domainBlock (d : Dev) (r : Req) (ix sub size offset total : Nat) (data : Bytes) : Dev × Nat :=
  let key := keyOf ix sub
  let old := if offset = 0 then some [] else (d.dict.domWrites.find? fun w => w.req == r && w.key == key).map (·.data)
  let d0 := if offset = 0 then d.dropWrite r key else d
  match old with
  | none => (d0, stRange)
  | some sofar =>
    if total ≠ size || sofar.length ≠ offset || offset + data.length > total then (d.dropWrite r key, stRange)
    else
      let all := sofar ++ data
      let last := decide (all.length = total)
      let w : DomWrite := { req := r, key := key, total := total, data := all }
      let x := d0.dict.endWrite r key
      let d1 := { d0 with dict := if last then x else { x with domWrites := w :: x.domWrites } }
      let (d2, st) := d1.domainEffect r ix sub offset data all last
      if st = stTooMany then (d0, st) else (d2, st)

/-- One WRITE_BLOCK item (R341, R358, R369, R370); the sets that an LZ-4852-B lacks take none (R312). -/
def Dev.writeBlockItem (d : Dev) (r : Req) (ix sub offset total : Nat) (data : Bytes) : Dev × Nat :=
  match lookupEntry ix sub with
  | none => (d, stNoObject)
  | some e =>
    if !d.mayWrite d.dict.cfg r ix sub e then (d, stNoRight)
    else match e.ty with
      | .domain n =>
        let key := keyOf ix sub
        if data.isEmpty || data.length > 1024 then (d.dropWrite r key, stRange)
        else if d.fuses.gradeB && (ix = 0x6013 || ix = 0x6014) then (d, stRange)
        else if !d.writeMode ix sub e [] then (d, stMode)
        else if ix = 0x1702 then d.flashBlock offset total data
        else d.domainBlock r ix sub n offset total data
      | _ => (d, stType)

/-! ### A direct request to the dictionary -/

/-- What a request meets before its items are checked: bring-up, a Stair below 0, a pending reset of the requester (R379,
R452, R535); OK where it is served. -/
def Dev.served (d : Dev) (r : Req) : Nat :=
  let mine := fun (q : ResetReq) => match r with
    | .tenant t => decide (q.reach ≤ 1) || (q.reach == 2 && q.target == t.val)
    | .mgmt => false
  if d.rst.phase ≠ 8 then stBringup
  else if d.stairs.now ≠ 0 then stWaking
  else if d.rst.requests.any mine then stResetPending
  else stOK

/-- An answer is given, or waits for the end of the tick (R90). -/
def Dev.answerOrHold (d : Dev) (dest : ReplyTo) (items : List AnsItem) : Dev :=
  if items.any fun i => i.status == stPending then { d with heldAnswers := d.heldAnswers ++ [{ dest := dest, items := items }] }
  else d.answerItems dest items

/-- One entry written on its own, answered with its status. -/
def State.writeEntry (s : State) (r : Req) (ix sub : Nat) (v : Bytes) : State :=
  let st := s.dev.served r
  let (d, st) := if st ≠ stOK then (s.dev, st) else s.dev.writeItem r ix sub v
  { s with dev := d.answerOrHold (.direct r) [{ ix := ix, sub := sub, status := st }] }

/-- One block of a DOMAIN written on its own. -/
def State.writeDomain (s : State) (r : Req) (ix sub offset total : Nat) (data : Bytes) : State :=
  let st := s.dev.served r
  let (d, st) := if st ≠ stOK then (s.dev, st) else s.dev.writeBlockItem r ix sub offset total data
  { s with dev := d.send (.itemStatus r ix sub st) }

end Sys2Proof.Machine
end

