-- ==== Sys2Proof/Machine/Odp.lean ====
section
/-! DEFINITION. The Object Dictionary Protocol (chapter 12): items and blocks, the order of frame checks, the served
opcodes, and the Ethernet ports. -/
namespace Sys2Proof.Machine

/-! ### Items -/

/-- A request item (Table NP-6). -/
structure ReqItem where
  ix : Nat
  sub : Nat
  flags : Nat
  value : Bytes
  deriving DecidableEq, Repr

/-- `n` items that fill an area exactly, padding included (R369, Table NP-8 row 7). -/
def parseItems : Nat → Bytes → Option (List ReqItem)
  | 0, b => if b.isEmpty then some [] else none
  | n + 1, b =>
    let len := fieldBE b 4 2
    let whole := 8 + ceilDiv len 4 * 4
    if b.length < whole || fieldBE b 6 2 ≠ 0 then none
    else (parseItems n (b.drop whole)).map fun l =>
      { ix := fieldBE b 0 2, sub := fieldBE b 2 1, flags := fieldBE b 3 1, value := slice b 8 len } :: l

/-- A served request: its state, its status, what stands before the items, and the reply items or the one block. A COMMIT
that has been accepted is answered later. -/
structure Served where
  s : State
  status : Nat := stOK
  pre : Bytes := []
  items : List Bytes := []
  /-- The items of an answer that is built from them; `later` where it is given later. -/
  answers : List AnsItem := []
  later : Bool := false

/-- The status of an item with IFLAGS out of range, once the checks before RANGE pass (R341, R370). -/
def badFlags (e : Option EntryRow) (right : EntryRow → Bool) (typed : EntryRow → Bool) : Nat :=
  match e with
  | none => stNoObject
  | some e => if !right e then stNoRight else if !typed e then stType else stRange

/-- The entry is a DOMAIN. -/
def EntryRow.isDomain (e : EntryRow) : Bool := match e.ty with | .domain _ => true | _ => false

/-- Serve the items of a list one by one (R382). -/
def serveItems (f : State → ReqItem → State × Nat × Bytes) (s : State) (l : List ReqItem) : State × List AnsItem :=
  l.foldl (fun (acc : State × List AnsItem) i =>
    let (s1, st, v) := f acc.1 i
    (s1, acc.2 ++ [{ ix := i.ix, sub := i.sub, status := st, value := v }])) (s, [])

/-- A READ item (R369, R370). -/
def State.readOne (s : State) (r : Req) (i : ReqItem) : State × Nat × Bytes :=
  if i.flags > 1 then (s, badFlags (lookupEntry i.ix i.sub) (fun e => e.acc != .wo) (fun e => !e.isDomain), [])
  else if !i.value.isEmpty then (s, badFlags (lookupEntry i.ix i.sub) (fun e => e.acc != .wo) (fun _ => false), [])
  else s.readItem r i.ix i.sub (i.flags == 1)

/-- A WRITE item. -/
def State.writeOne (s : State) (r : Req) (i : ReqItem) : State × Nat × Bytes :=
  if i.flags ≠ 0 then
    (s, badFlags (lookupEntry i.ix i.sub) (fun e => s.dev.mayWrite s.dev.dict.cfg r i.ix i.sub e) (fun e => e.ty.sizeOk i.value), [])
  else let (d, st) := s.dev.writeItem r i.ix i.sub i.value; ({ s with dev := d }, st, [])

/-- A READ_BLOCK item. -/
def State.readBlockOne (s : State) (r : Req) (i : ReqItem) : State × Nat × Bytes :=
  let form := i.value.length == 8
  if i.flags ≠ 0 || !form then
    (s, badFlags (lookupEntry i.ix i.sub) (fun e => e.acc != .wo) (fun e => e.isDomain && form), [])
  else
    let (d, st, v) := s.dev.readBlockItem r i.ix i.sub (fieldBE i.value 0 4) (fieldBE i.value 4 4)
    ({ s with dev := d }, st, v)

/-- A WRITE_BLOCK item. -/
def State.writeBlockOne (s : State) (r : Req) (i : ReqItem) : State × Nat × Bytes :=
  let form := decide (8 ≤ i.value.length)
  if i.flags ≠ 0 || !form then
    (s, badFlags (lookupEntry i.ix i.sub) (fun e => s.dev.mayWrite s.dev.dict.cfg r i.ix i.sub e) (fun e => e.isDomain && form), [])
  else
    let (d, st) := s.dev.writeBlockItem r i.ix i.sub (fieldBE i.value 0 4) (fieldBE i.value 4 4) (i.value.drop 8)
    ({ s with dev := d }, st, [])

/-- A SNAPSHOT item (R356). -/
def State.snapOne (s : State) (r : Req) (i : ReqItem) : State × Nat × Bytes :=
  if i.flags = 1 then (s, badFlags (lookupEntry i.ix i.sub) (fun e => e.acc != .wo) (fun _ => false), []) else s.readOne r i

/-- The bytes of values that reply items carry. -/
def valueBytes (l : List Bytes) : Nat := l.foldl (fun n b => n + fieldBE b 4 2) 0

/-! ### The dictionary's opcodes (Table NP-5) -/

/-- A frame or message refused as a whole. -/
def State.refuse (s : State) (st : Nat) (items : List Bytes) : Served := { s := s, status := st, items := items }

/-- An opcode that carries items: READ 1, WRITE 2, READ_BLOCK 3, WRITE_BLOCK 4, SNAPSHOT 5. -/
def State.serveList (s : State) (r : Req) (op count : Nat) (area : Bytes) : Served :=
  if op = 5 && count > 64 then s.refuse stTooMany []
  else if count = 0 || count > 128 then s.refuse stType []
  else match parseItems count area with
    | none => s.refuse stType []
    | some l =>
      if op = 5 then
        let (s1, ans) := serveItems (fun s i => s.snapOne r i) s l
        let out := ans.map AnsItem.bytes
        if valueBytes out > 2048 then s.refuse stTooMany []
        else { s := s1, pre := natBE 8 s.dev.tb.tick ++ timeBE s.dev.now ++ zeros 4, items := out }
      else
        let f := fun (s : State) (i : ReqItem) => match op with
          | 1 => s.readOne r i
          | 2 => s.writeOne r i
          | 3 => s.readBlockOne r i
          | _ => s.writeBlockOne r i
        let (s1, ans) := serveItems f s l
        { s := s1, items := ans.map AnsItem.bytes, answers := ans }

/-- COMMIT (R373): KIND and TIMEOUT, then the checks of R348. -/
def State.serveCommit (s : State) (r : Req) (b : Bytes) (dest : ReplyTo) : Served :=
  let kind := fieldBE b 0 1
  let timeout := fieldBE b 4 4
  if fieldBE b 1 3 ≠ 0 then s.refuse stType [zeros 16]
  else if kind > 1 || (kind = 0 && timeout ≠ 0) || (kind = 1 && timeout = 0) then s.refuse stRange [zeros 16]
  else
    let (d, st) := s.dev.commit r (kind == 1) timeout dest
    { s := { s with dev := d }, status := st, items := [zeros 16], later := st == stOK }

/-- LOCK and UNLOCK (R373, R441, R442). -/
def State.serveLock (s : State) (r : Req) (unlock : Bool) (b : Bytes) : Served :=
  let n := fieldBE b 0 1
  if fieldBE b 1 3 ≠ 0 || (unlock && fieldBE b 4 4 ≠ 0) then s.refuse stType [zeros 16]
  else
    let (d, st) := if unlock then s.dev.unlock r n else s.dev.lock r n (fieldBE b 4 4)
    { s := { s with dev := d }, status := st, items := [match lockOf n with | some k => (vget d.mgmt.locks k).bytes | none => zeros 16] }

/-- An answer with a retirement in it waits for the end of the tick (R90). -/
def Served.hold (x : Served) (dest : ReplyTo) : Served :=
  if x.answers.any fun i => i.status == stPending then
    { x with s := { x.s with dev := x.s.dev.answerOrHold dest x.answers }, later := true }
  else x

/-- The opcodes READ to UNLOCK, as both planes use them (R382, R449). -/
def State.serveOp (s : State) (r : Req) (op count : Nat) (area : Bytes) (dest : ReplyTo) : Served :=
  if 1 ≤ op && op ≤ 5 then (s.serveList r op count area).hold dest
  else if count ≠ 1 || area.length ≠ 8 then s.refuse stType []
  else match op with
    | 6 => s.serveCommit r area dest
    | 7 => s.serveLock r false area
    | 8 => s.serveLock r true area
    | _ => s.refuse stType []

/-! ### Frames -/

/-- The header fields that a reply copies. -/
def frameHead (f : Frame) (op : Nat) : OdpHead :=
  { tenant := f.tenant, opcode := op, credential := f.credential, session := f.session, sequence := f.sequence }

/-- The bytes that the tag of a request covers (R374). -/
def frameSigned (f : Frame) (op : Nat) : Bytes :=
  natBE 1 f.version ++ natBE 1 f.flags ++ natBE 1 f.tenant ++ natBE 1 op ++ natBE 8 f.credential ++ natBE 2 f.session
    ++ natBE 2 f.itemCount ++ natBE 4 f.sequence ++ natBE 1 f.status ++ natBE 1 f.detail ++ natBE 2 f.reserved ++ f.area

/-- Row 1 of Table NP-8, a datagram that R362 and R366 discard, and a port that receives nothing. -/
def Dev.discards (d : Dev) (f : Frame) : Bool :=
  !(vget d.odp.port f.port).link || f.tag.length != 16 || decide (f.area.length > 1368) || f.version != 1 || bit f.flags 0 || !f.unicast
    || !f.intact

/-- R376. -/
def Dev.authentic (d : Dev) (op : Nat) (f : Frame) (t : Tenant) : Bool :=
  let x := vget d.odp.sess t
  d.present t && fieldBE (d.dict.cfg.get 0x1101 t.val) 0 8 == f.credential && x.isOpen && x.number == f.session
    && (hmacSha256 x.key (frameSigned f op)).take 16 == f.tag

/-- The sequence window (R377): none where the request is a replay. -/
def Session.accept (x : Session) (n : Nat) : Option Session :=
  if n = 0 || x.seqHigh = 0xFFFFFFFF then none
  else if n > x.seqHigh then
    some { x with seqHigh := n, window := (if n - x.seqHigh < 64 then x.window <<< (n - x.seqHigh) else 0) ||| 1 }
  else if x.seqHigh - n < 64 && !x.window.getLsbD (x.seqHigh - n) then
    some { x with window := setBit x.window (x.seqHigh - n) true }
  else none

/-- Change a session. -/
def Dev.modSess (d : Dev) (t : Tenant) (f : Session → Session) : Dev :=
  { d with odp := { d.odp with sess := vmod d.odp.sess t f } }

/-- The AUTH answer of row 4 (R376, R380). -/
def Dev.authFail (d : Dev) (op : Nat) (f : Frame) (held : Bool) : Dev :=
  let sent := (vget d.odp.port f.port).lastUnauthMs != some d.tb.ms
  let d1 := match tenantOf f.tenant with
    | some t => if sent then d.modSess t fun x => { x with authFails := satAdd 32 x.authFails 1 } else d
    | none => d
  d1.unauthReply f.port f.src (frameHead f op) held stAuth 0

/-- The status that row 7 of Table NP-8 gives a request: reserved fields, the count and the item area of its opcode (Tables
NP-5, NP-6a), and the count of a SNAPSHOT (R356). -/
def frameForm (f : Frame) (op : Nat) : Nat :=
  let n := f.itemCount
  let k := f.area.length
  let plain := f.flags / 16 == 0 && f.status == 0 && f.detail == 0 && f.reserved == 0
  let zeroAt := fun (o w : Nat) => fieldBE f.area o w == 0
  let ok := plain && match op with
    | 6 => n == 1 && k == 8 && zeroAt 1 3
    | 7 => n == 1 && k == 8 && zeroAt 1 3
    | 8 => n == 1 && k == 8 && zeroAt 1 7
    | 9 => n == 0 && k == 0
    | 10 => n == 1 && k == 16
    | 11 => n == 0 && k == 0
    | _ => decide (1 ≤ op ∧ op ≤ 5) && ((op == 5 && decide (64 < n)) || (decide (1 ≤ n ∧ n ≤ 128) && (parseItems n f.area).isSome))
  if !ok then stType else if op = 5 && n > 64 then stTooMany else stOK

/-- The block of a PING (Table NP-6a). -/
def Dev.pingBlock (d : Dev) (t : Tenant) : Bytes :=
  natBE 1 d.stairs.now ++ natBE 1 d.modes.device ++ natBE 1 d.traceShown ++ natBE 1 (d.modeOf t) ++ natBE 4 d.epoch ++ timeBE d.now
    ++ natBE 8 d.tb.tick ++ zeros 4

/-- Row 9: an authentic request of tenant t is served and answered; its answer is tagged with the key it was verified under. -/
def State.serveFrame (s : State) (op : Nat) (f : Frame) (t : Tenant) (dest : ReplyTo) : State :=
  let d := s.dev
  if op = 9 then
    let d1 := d.requestReset { source := 0x11, reach := 2, target := t.val }
    { s with dev := { d1 with odp := { d1.odp with resetReplies := d1.odp.resetReplies ++ [dest] } } }
  else if op = 10 then
    if d.rst.key.isEmpty || d.rst.key ≠ f.area then { s with dev := d.answer dest stNoRight [] [] }
    else { s with dev := (d.answer dest stOK [] []).requestReset { source := 0x04, reach := 1 } }
  else if op = 11 then { s with dev := d.answer dest stOK [] [d.pingBlock t] }
  else
    let x := s.serveOp (.tenant t) op f.itemCount f.area dest
    if x.later then x.s else { x.s with dev := x.s.dev.answer dest x.status x.pre x.items }

/-- Rows 4 to 9 of Table NP-8. -/
def State.checkFrame (s : State) (op : Nat) (f : Frame) (held : Bool) : State :=
  let d := s.dev
  match tenantOf f.tenant with
  | none => { s with dev := d.authFail op f held }
  | some t =>
    let x := vget d.odp.sess t
    let say := fun (d : Dev) (st : Nat) => d.odpReply f.port f.src (frameHead f op) held x.key st [] []
    if !d.authentic op f t then { s with dev := d.authFail op f held }
    else match x.accept f.sequence with
      | none => { s with dev := say (d.modSess t fun x => { x with replays := satAdd 32 x.replays 1 }) stReplay }
      | some x1 =>
        let d1 := d.modSess t fun _ => x1
        let all := (allTenants.map fun u => (vget d.odp.sess u).inFlight).foldl (· + ·) 0
        if x.inFlight ≥ 64 || all ≥ 512 then { s with dev := say d1 stTooMany }
        else if frameForm f op ≠ stOK then { s with dev := say d1 (frameForm f op) }
        else if d.served (.tenant t) = stResetPending then { s with dev := say d1 stResetPending }
        else
          State.serveFrame { s with dev := d1.modSess t fun x => { x with inFlight := x.inFlight + 1 } } op f t
            (.odp f.port f.src t op f.credential f.session f.sequence held x.key)

/-- A frame in Stair 1 or 2 (R384). -/
def Dev.holdFrame (d : Dev) (op : Nat) (f : Frame) : Dev :=
  let mine := (d.odp.held.filter fun h => h.frame.port == f.port).length
  if bit (d.dict.cfg.nat 0x1502 0) 0 && mine < 32 then
    { d with odp := { d.odp with held := d.odp.held ++ [({ opcode := op, frame := f } : HeldFrame)] } }.wake 0
  else d.unauthReply f.port f.src (frameHead f op) false stWaking 0

/-- A frame arrives (Table NP-8). As a wake source it cancels an accepted descent (R496). -/
def State.odpFrame (s : State) (op : Nat) (f : Frame) : State :=
  let d := s.dev
  if d.discards f then s
  else if d.rst.phase ≠ 8 then { s with dev := d.unauthReply f.port f.src (frameHead f op) false stBringup d.rst.phase }
  else if d.stairs.now ≠ 0 then { s with dev := d.holdFrame op f }
  else State.checkFrame { s with dev := d.wake 0 } op f false

/-- The oldest held frame is checked once the exit has completed (R384). -/
def State.heldFrame (s : State) : State :=
  match s.dev.odp.held with
  | [] => s
  | h :: rest =>
    if s.dev.stairs.now ≠ 0 then s
    else State.checkFrame { s with dev := { s.dev with odp := { s.dev.odp with held := rest } } } h.opcode h.frame true

/-! ### Ports and the neighbouring protocols -/

/-- LINK_UP (R363, R386): a rate that the port is trying; not while the Ethernet PLL is out of lock (FS-022). -/
def Dev.linkUp (d : Dev) (p : Fin 2) (rate : Nat) : Dev :=
  let set := d.dict.cfg.nat 0x1200 p.val % 4
  let tries := if set = 0 then (vget d.odp.port p).trying else set
  if !d.dict.cfg.portOn p || rate ≠ tries || d.rst.phase < 4 || d.stairs.now ≥ 3 || (vget d.odp.port p).link
    || (vget d.fc.src 22).cond != 0 then d
  else
    (d.modPort p fun x => { x with link := true, rate := rate, fec := rate == 1 && bit (d.dict.cfg.nat 0x1200 p.val) 2 }).condFall
      (portSource p) devScope

/-- RATE_TRY_TIMEOUT (R363): 500 ms without block lock. -/
def Dev.rateTry (d : Dev) (p : Fin 2) : Dev :=
  let x := vget d.odp.port p
  if d.dict.cfg.portOn p && d.dict.cfg.nat 0x1200 p.val % 4 == 0 && !x.link then
    d.modPort p fun x => { x with trying := if x.trying = 1 then 2 else 1 }
  else d

/-- IP_CFG of a port. -/
def Cfg.ip (c : Cfg) (p : Fin 2) : Bytes := c.get 0x1202 p.val

/-- The MAC address in use (R365). -/
def Dev.macOf (d : Dev) (p : Fin 2) : Nat :=
  let m := fieldBE (d.dict.cfg.ip p) 0 6
  if m ≠ 0 then m else (d.fuses.mac.toNat + p.val) % 2 ^ 48

/-- The IPv6 link-local address: fe80::/64 and the modified EUI-64 of the MAC address (R365). -/
def linkLocal (mac : Nat) : Nat :=
  let hi := (mac / 2 ^ 24) ^^^ (2 ^ 17)
  0xFE80 * 2 ^ 112 + hi * 2 ^ 40 + 0xFFFE * 2 ^ 24 + mac % 2 ^ 24

/-- An IPv6 address of the port. -/
def Dev.ownsV6 (d : Dev) (p : Fin 2) (a : Nat) : Bool :=
  let ip := d.dict.cfg.ip p
  a == linkLocal (d.macOf p) || (bit (fieldBE ip 13 1) 1 && a == fieldBE ip 16 16 && !(vget d.odp.port p).dupAddr)

/-- The IPv4 address of the port. -/
def Dev.ownsV4 (d : Dev) (p : Fin 2) (a : Nat) : Bool :=
  let ip := d.dict.cfg.ip p
  bit (fieldBE ip 13 1) 0 && a == fieldBE ip 8 4 && !(vget d.odp.port p).v4Conflict

/-- DUP_ADDR is set (Table NP-2), with FS-082, for the IPv6 global address or the IPv4 address. -/
def Dev.dupAddress (d : Dev) (p : Fin 2) (v4 : Bool) : Dev :=
  (d.modPort p fun x => if v4 then { x with v4Conflict := true } else { x with dupAddr := true }).condRise 82 devScope 0 []

/-- ARP (R366): a request for the device's IPv4 address is answered; a reply that claims it is a conflict. -/
def Dev.arp (d : Dev) (p : Fin 2) (target sender : Nat) (isReply : Bool) : Dev :=
  if !(vget d.odp.port p).link then d
  else if isReply then (if d.ownsV4 p sender then d.dupAddress p true else d)
  else if d.ownsV4 p target then d.send (.netFrame p 0x0806 sender (d.vlanOf p) (natBE 4 target ++ natBE 6 (d.macOf p)))
  else d

/-- Neighbor Discovery (R366). -/
def Dev.neighbor (d : Dev) (p : Fin 2) (target : Nat) : Dev :=
  if (vget d.odp.port p).link && d.ownsV6 p target then
    d.send (.netFrame p 0x86DD target (d.vlanOf p) (natBE 1 136 ++ natBE 16 target ++ natBE 6 (d.macOf p)))
  else d

/-- Echo requests (R366), with bit 2 of FLAGS. -/
def Dev.echo (d : Dev) (p : Fin 2) (v6 : Bool) (dest : Nat) (data : Bytes) : Dev :=
  if (vget d.odp.port p).link && bit (fieldBE (d.dict.cfg.ip p) 13 1) 2 && (if v6 then d.ownsV6 p dest else d.ownsV4 p dest) then
    d.send (.netFrame p (if v6 then 58 else 1) dest (d.vlanOf p) (natBE 1 (if v6 then 129 else 0) ++ data))
  else d

/-- Duplicate address detection ends (R364, R366). -/
def Dev.dad (d : Dev) (p : Fin 2) (duplicate : Bool) : Dev :=
  if !(vget d.odp.port p).link then d
  else if duplicate then d.dupAddress p false
  else d.modPort p fun x => { x with ipv6Ready := true }

/-! ### Meanings -/

/-- TENANT_RESET (R388). -/
def execTenantReset (f : Frame) (s : State) : Host.Outcome State Fault Refusal := .next (s.odpFrame 0x09 f)

/-- DEVICE_RESET (R389). -/
def execDeviceReset (f : Frame) (s : State) : Host.Outcome State Fault Refusal := .next (s.odpFrame 0x0A f)

/-- PING (R373). -/
def execPing (f : Frame) (s : State) : Host.Outcome State Fault Refusal := .next (s.odpFrame 0x0B f)

/-- UNKNOWN_OPCODE (R379): a frame with any opcode byte. -/
def execUnknownOpcode (opcode : Nat) (f : Frame) (s : State) : Host.Outcome State Fault Refusal := .next (s.odpFrame opcode f)

/-- HELD_FRAME (R384). -/
def execHeldFrame (s : State) : Host.Outcome State Fault Refusal := .next s.heldFrame

/-- LINK_UP (R363). -/
def execLinkUp (port : Fin 2) (rate : Nat) (s : State) : Host.Outcome State Fault Refusal := .next { s with dev := s.dev.linkUp port rate }

/-- LINK_DOWN (R363). -/
def execLinkDown (port : Fin 2) (s : State) : Host.Outcome State Fault Refusal := .next { s with dev := s.dev.linkDown port }

/-- RATE_TRY_TIMEOUT (R363). -/
def execRateTryTimeout (port : Fin 2) (s : State) : Host.Outcome State Fault Refusal := .next { s with dev := s.dev.rateTry port }

/-- ARP_REQUEST (R366). -/
def execArpRequest (port : Fin 2) (target sender : Nat) (isReply : Bool) (s : State) : Host.Outcome State Fault Refusal :=
  .next { s with dev := s.dev.arp port target sender isReply }

/-- NEIGHBOR_DISCOVERY (R366). -/
def execNeighborDiscovery (port : Fin 2) (target : Nat) (s : State) : Host.Outcome State Fault Refusal :=
  .next { s with dev := s.dev.neighbor port target }

/-- ECHO_REQUEST (R366). -/
def execEchoRequest (port : Fin 2) (v6 : Bool) (dest : Nat) (data : Bytes) (s : State) : Host.Outcome State Fault Refusal :=
  .next { s with dev := s.dev.echo port v6 dest data }

/-- DAD_COMPLETE (R366). -/
def execDadComplete (port : Fin 2) (duplicate : Bool) (s : State) : Host.Outcome State Fault Refusal :=
  .next { s with dev := s.dev.dad port duplicate }

end Sys2Proof.Machine
end

