-- ==== Sys2Proof/Machine/Mgmt.lean ====
section
/-! DEFINITION. The management plane's endpoint (chapter 14): DICT, GET_EVENTS and RESET messages, MCTP control and PLDM. -/
namespace Sys2Proof.Machine

/-! ### Records as bytes -/

/-- The 32 bytes of a record (Table HQ-6). -/
def EventRec.bytes (r : EventRec) (phase : Bool) : Bytes :=
  natLE 1 r.type ++ natLE 1 (r.tenant + 16 * ofBool phase + 32 * ofBool r.pointer) ++ natLE 2 r.seq ++ timeLE r.time
    ++ natLE 2 r.source ++ natLE 2 r.epochTrace.toNat ++ r.payload

/-- The 12 payload bytes of a LOST record (R421); the counts saturate. -/
def lostPayload (lost drops first last : Nat) : Bytes :=
  natLE 4 (satAdd 32 lost 0) ++ natLE 4 (satAdd 32 drops 0) ++ natLE 2 first ++ natLE 2 last

/-- A LOST record made now for a receiver (R415, R421, R450). -/
def Dev.lostRec (d : Dev) (tenant source : Nat) (payload : Bytes) (seq : Nat) : EventRec :=
  { type := 0x0C, tenant := tenant, seq := seq, time := d.now, source := source, epochTrace := d.epochTrace, payload := payload }

/-! ### Vendor-defined messages (Table TM-5) -/

/-- A DICT message (R449): a reply beyond 1,024 bytes is refused before any item is performed. -/
def State.mgmtDict (s : State) (op : Nat) (m : Vdm) : State :=
  let x := s.serveOp .mgmt op m.count m.area (.smbus m.tag op)
  if 12 + x.pre.length + x.items.flatten.length > 1024 then { s with dev := s.dev.mgmtReply m.tag 1 stTooMany 0 0 [] }
  else if x.later then x.s
  else { x.s with dev := x.s.dev.answer (.smbus m.tag op) x.status x.pre x.items }

/-- Records at or before ACK_SEQ leave the buffer (R450). -/
def Hold.acked (h : Hold) (ack : Nat) : Hold :=
  { h with recs := h.recs.filter fun r => decide (2 ^ 15 ≤ (ack + 2 ^ 16 - r.seq) % 2 ^ 16) }

/-- The LOST record of R415 in the management buffer. -/
def Dev.mgmtLost (d : Dev) : Dev :=
  let h := d.mgmt.hold
  if h.dropsUnreported = 0 || h.recs.length ≥ 256 then d
  else
    let h1 := ({ h with dropsUnreported := 0 }).put (d.lostRec 8 0x9008 (lostPayload 0 h.dropsUnreported h.dropFirst h.dropLast))
    { d with mgmt := { d.mgmt with hold := h1 } }

/-- GET_EVENTS (R450). -/
def Dev.getEvents (d : Dev) (m : Vdm) (ackValid : Bool) : Dev :=
  let h := d.mgmt.hold
  let d1 := Dev.mgmtLost { d with mgmt := { d.mgmt with hold := if ackValid then h.acked (m.count % 2 ^ 16) else h } }
  let out := d1.mgmt.hold.recs.take 31
  d1.mgmtReply m.tag 2 stOK out.length 0 (out.flatMap fun r => r.bytes false)

/-- RESET (R451, R538): 0 device, 1 tenant, 2 block, 3 management endpoint. -/
def Dev.mgmtReset (d : Dev) (scope : Nat) (m : Vdm) : Dev :=
  let later := fun (d : Dev) => { d with mgmt := { d.mgmt with resetReplies := d.mgmt.resetReplies ++ [m.tag] } }
  let no := d.mgmtReply m.tag 3 stRange 0 0 []
  if scope = 0 then (d.mgmtReply m.tag 3 stOK 0 0 []).requestReset { source := 0x05, reach := 1 }
  else if scope = 1 then
    if m.count > 7 then no else later (d.requestReset { source := 0x12, reach := 2, target := m.count })
  else if scope = 2 then
    if blockCode m.count then later (d.blockRequest m.count) else no
  else later (d.requestReset { source := 0x21, reach := 4 })

/-- A vendor-defined message is served (R448): what it asks is coded as in `Mgmt.heldVdm`. -/
def State.serveVdm (s : State) (code : Nat) (m : Vdm) : State :=
  let d := s.dev
  let command := if code < 0x100 then 1 else if code < 0x200 then 2 else if code < 0x300 then 3 else code - 0x300
  if m.iana ≠ d.fuses.iana || m.reserved ≠ 0 || code ≥ 0x300 then { s with dev := d.mgmtReply m.tag (command % 128) stType 0 0 [] }
  else if code < 0x100 then s.mgmtDict code m
  else if code < 0x200 then { s with dev := d.getEvents m (code == 0x101) }
  else { s with dev := d.mgmtReset (code - 0x200) m }

/-- A vendor-defined message arrives (R447, R452): it wakes the device and is held, or is answered WAKING. A message
beyond 1,024 bytes is none. -/
def State.mgmtVdm (s : State) (code : Nat) (m : Vdm) : State :=
  let d := s.dev
  if d.rst.phase ≠ 8 || 12 + m.area.length > 1024 then s
  else if d.stairs.now = 0 then State.serveVdm { s with dev := d.wake 2 } code m
  else if bit (d.dict.cfg.nat 0x1502 0) 2 then
    { s with dev := Dev.wake { d with mgmt := { d.mgmt with heldVdm := d.mgmt.heldVdm ++ [(code, m)] } } 2 }
  else
    let command := if code < 0x100 then 1 else if code < 0x200 then 2 else if code < 0x300 then 3 else code - 0x300
    { s with dev := d.mgmtReply m.tag (command % 128) stWaking 0 0 [] }

/-- The messages held for a wake are served in order after the exit. -/
def State.serveHeldVdms (s : State) : State :=
  let l := s.dev.mgmt.heldVdm
  l.foldl (fun (s : State) p => s.serveVdm p.1 p.2) { s with dev := { s.dev with mgmt := { s.dev.mgmt with heldVdm := [] } } }

/-- A dictionary request by its way in (R342). -/
def State.via (s : State) (op : Nat) : Via → State
  | .odp f => s.odpFrame op f
  | .smbus m => s.mgmtVdm op m

/-! ### MCTP control and PLDM (R447, R452) -/

/-- The answer of Tahr, in every Stair; during bring-up the address is not acknowledged (R452). -/
def Dev.mctp (d : Dev) (tag msgType command : Nat) (body : Bytes) : Dev :=
  if d.rst.phase ≠ 8 then d else d.send (.mctp tag msgType command body)

/-- Free bytes: what DSP0236, DSP0240 or DSP0248 asks for and the manual does not state. -/
def Dev.openBytes (d : Dev) (k : Nat) : Bytes × Dev := let (v, d1) := d.free; (natLE k v.toNat, d1)

/-- Set Endpoint ID (DSP0236): operations 0 and 1 assign an identifier from 8 to 0xFE; the endpoint holds no static one.
The device is never the bus owner and allocates no pool. -/
def Dev.setEid (d : Dev) (tag op eid : Nat) : Dev :=
  if d.rst.phase ≠ 8 then d
  else if op ≤ 1 && decide (8 ≤ eid ∧ eid ≤ 0xFE) then
    let d1 := { d with mgmt := { d.mgmt with eid := eid } }
    d1.mctp tag 0 0x01 ([0, 0] ++ natLE 1 eid ++ [0])
  else d.mctp tag 0 0x01 [2]

/-- Present reading of a numeric sensor of Table TM-6, in its unit: none for another identifier. Sensors 2 and 3 have no
value that another entry shows. -/
def Dev.numericSensor (d : Dev) (id : Nat) : Option (Int × Dev) :=
  if id = 1 then some (roundDiv d.cal.tSensor 10, d)
  else if id = 2 || id = 3 then let (v, d1) := d.free; some (toSigned 32 (v.toNat % 2 ^ 32), d1)
  else if id = 4 then
    let q := f64ToQ d.heater.power
    some (roundDiv (q.num * 100) q.den, d)
  else none

/-- GetSensorReading (DSP0248): a sint32 reading, enabled, without events; another sensor is INVALID_SENSOR_ID. -/
def Dev.sensorReading (d : Dev) (tag id : Nat) : Dev :=
  if d.rst.phase ≠ 8 then d
  else match d.numericSensor id with
    | some (z, d1) => d1.mctp tag 1 0x11 ([0, 5, 0, 0, 0, 0, 0] ++ natLE 4 (ofSigned 32 z))
    | none => d.mctp tag 1 0x11 [0x80]

/-- GetStateSensorReadings (DSP0248). -/
def Dev.stateSensor (d : Dev) (tag id : Nat) : Dev :=
  let say := fun (n : Nat) => d.mctp tag 1 0x21 ([0, 1, 0] ++ natLE 1 n ++ natLE 1 n ++ [0])
  if id = 5 then say d.stairs.now else if id = 6 then say d.traceShown else d.mctp tag 1 0x21 [0x80]

/-- Base unit (2 degrees C, 7 W) and unit modifier (powers of ten) of a numeric sensor of Table TM-6. -/
def pdrUnit (id : Nat) : Nat × Nat := if id = 1 then (2, 0xFE) else if id = 2 then (2, 0xFF) else (7, 0xFE)

/-- GetPDR: record `handle` of the fixed repository, one for each sensor of Table TM-6; handle 0 asks for the first. The
record shows handle, kind, sensor, unit and modifier; its other fields are free. -/
def Dev.pdr (d : Dev) (tag handle : Nat) : Dev :=
  let id := if handle = 0 then 1 else handle
  if d.rst.phase ≠ 8 then d
  else if id > 6 then d.mctp tag 1 0x51 [0x82]
  else
    let (a, d1) := d.openBytes 4
    let (b, d2) := d1.openBytes 8
    let body := natLE 2 id ++ b ++ (if id ≤ 4 then natLE 1 (pdrUnit id).1 ++ natLE 1 (pdrUnit id).2 else [])
    let rec_ := natLE 4 id ++ [1] ++ natLE 1 (if id ≤ 4 then 2 else 4) ++ a.take 2 ++ natLE 2 (2 + body.length) ++ a.drop 2 ++ body
    d2.mctp tag 1 0x51 ([0] ++ natLE 4 (if id < 6 then id + 1 else 0) ++ zeros 4 ++ [5] ++ natLE 2 rec_.length ++ rec_)

/-- The command of a message type is supported (Table TM-4). -/
def mctpSupported (msgType command : Nat) : Bool :=
  if msgType = 0 then [1, 2, 4, 5, 6].contains command
  else if msgType = 1 then [2, 3, 4, 5, 0x11, 0x21, 0x51].contains command
  else [1, 2, 3].contains command || decide (0x101 ≤ command ∧ command ≤ 0x108)

/-- MCTP_UNSUPPORTED_COMMAND: control and PLDM answer ERROR_UNSUPPORTED_CMD, vendor-defined messages TYPE (R447-R449). -/
def State.mctpUnsupported (s : State) (tag msgType command : Nat) : State :=
  if mctpSupported msgType command then s
  else if msgType = 0x7F then
    s.mgmtVdm (if command < 0x100 then 0x300 + command else command - 0x100) { tag := tag, iana := s.dev.fuses.iana }
  else if msgType ≤ 1 then { s with dev := s.dev.mctp tag msgType command [5] }
  else s

/-- SMBUS_PEC_FAIL (R447): the transaction is discarded, with FS-087. -/
def Dev.pecFail (d : Dev) : Dev :=
  if d.rst.phase ≠ 8 then d else d.raiseTrans 87 none 2 2 0 0

/-! ### Meanings -/

/-- READ (R382, R449). -/
def execRead (via : Via) (s : State) : Host.Outcome State Fault Refusal := .next (s.via 1 via)

/-- WRITE (R382, R449). -/
def execWrite (via : Via) (s : State) : Host.Outcome State Fault Refusal := .next (s.via 2 via)

/-- READ_BLOCK (R357). -/
def execReadBlock (via : Via) (s : State) : Host.Outcome State Fault Refusal := .next (s.via 3 via)

/-- WRITE_BLOCK (R358). -/
def execWriteBlock (via : Via) (s : State) : Host.Outcome State Fault Refusal := .next (s.via 4 via)

/-- SNAPSHOT (R356). -/
def execSnapshot (via : Via) (s : State) : Host.Outcome State Fault Refusal := .next (s.via 5 via)

/-- COMMIT NEXT (R348). -/
def execCommitNext (via : Via) (s : State) : Host.Outcome State Fault Refusal := .next (s.via 6 via)

/-- COMMIT AT_IDLE (R351). -/
def execCommitAtIdle (via : Via) (s : State) : Host.Outcome State Fault Refusal := .next (s.via 6 via)

/-- LOCK (R441). -/
def execLock (via : Via) (s : State) : Host.Outcome State Fault Refusal := .next (s.via 7 via)

/-- UNLOCK (R442). -/
def execUnlock (via : Via) (s : State) : Host.Outcome State Fault Refusal := .next (s.via 8 via)

/-- GET_EVENTS (R450). -/
def execGetEvents (m : Vdm) (ackValid : Bool) (s : State) : Host.Outcome State Fault Refusal :=
  .next (s.mgmtVdm (0x100 + ofBool ackValid) m)

/-- MCTP_RESET_DEVICE (R451). -/
def execMctpResetDevice (m : Vdm) (s : State) : Host.Outcome State Fault Refusal := .next (s.mgmtVdm 0x200 m)

/-- MCTP_RESET_TENANT (R451). -/
def execMctpResetTenant (m : Vdm) (s : State) : Host.Outcome State Fault Refusal := .next (s.mgmtVdm 0x201 m)

/-- MCTP_RESET_BLOCK (R538). -/
def execMctpResetBlock (m : Vdm) (s : State) : Host.Outcome State Fault Refusal := .next (s.mgmtVdm 0x202 m)

/-- MCTP_RESET_ENDPOINT (R451). -/
def execMctpResetEndpoint (m : Vdm) (s : State) : Host.Outcome State Fault Refusal := .next (s.mgmtVdm 0x203 m)

/-- SET_ENDPOINT_ID (R447). -/
def execSetEndpointId (tag op eid : Nat) (s : State) : Host.Outcome State Fault Refusal :=
  .next { s with dev := s.dev.setEid tag op eid }

/-- GET_ENDPOINT_ID (R447): the identifier of a simple endpoint. -/
def execGetEndpointId (tag : Nat) (s : State) : Host.Outcome State Fault Refusal :=
  .next { s with dev := s.dev.mctp tag 0 0x02 ([0] ++ natLE 1 s.dev.mgmt.eid ++ [0, 0]) }

/-- GET_MCTP_VERSION_SUPPORT (R447): one version of a supported message type, which the manual does not state. -/
def execGetMctpVersionSupport (tag msgType : Nat) (s : State) : Host.Outcome State Fault Refusal :=
  if msgType = 0 || msgType = 1 || msgType = 0x7F || msgType = 0xFF then
    let (v, d) := s.dev.openBytes 4
    .next { s with dev := d.mctp tag 0 0x04 ([0, 1] ++ v) }
  else .next { s with dev := s.dev.mctp tag 0 0x04 [0x80] }

/-- GET_MESSAGE_TYPE_SUPPORT (R447): the types beside control, PLDM and vendor defined by IANA number. -/
def execGetMessageTypeSupport (tag : Nat) (s : State) : Host.Outcome State Fault Refusal :=
  .next { s with dev := s.dev.mctp tag 0 0x05 [0, 2, 0x01, 0x7F] }

/-- GET_VENDOR_DEFINED_MESSAGE_SUPPORT (R447): one set, of the fused enterprise number. -/
def execGetVendorDefinedMessageSupport (tag selector : Nat) (s : State) : Host.Outcome State Fault Refusal :=
  if selector = 0 then
    let (v, d) := s.dev.openBytes 2
    .next { s with dev := d.mctp tag 0 0x06 ([0, 0xFF, 1] ++ natBE 4 d.fuses.iana ++ v) }
  else .next { s with dev := s.dev.mctp tag 0 0x06 [2] }

/-- GET_TID (R447): a terminus identifier, which the manual does not state. -/
def execGetTid (tag : Nat) (s : State) : Host.Outcome State Fault Refusal :=
  let (v, d) := s.dev.openBytes 1
  .next { s with dev := d.mctp tag 1 0x02 ([0] ++ v) }

/-- GET_PLDM_VERSION (R447): types 0 and 2 are supported; their versions the manual does not state. -/
def execGetPldmVersion (tag pldmType : Nat) (s : State) : Host.Outcome State Fault Refusal :=
  if pldmType = 0 || pldmType = 2 then
    let (v, d) := s.dev.openBytes 8
    .next { s with dev := d.mctp tag 1 0x03 ([0] ++ zeros 4 ++ [5] ++ v) }
  else .next { s with dev := s.dev.mctp tag 1 0x03 [0x83] }

/-- GET_PLDM_TYPES (R447): types 0 (base) and 2 (platform monitoring). -/
def execGetPldmTypes (tag : Nat) (s : State) : Host.Outcome State Fault Refusal :=
  .next { s with dev := s.dev.mctp tag 1 0x04 ([0, 5] ++ zeros 7) }

/-- GET_PLDM_COMMANDS (R447): the commands of Table TM-4 as a bit map of 32 bytes. -/
def execGetPldmCommands (tag pldmType : Nat) (s : State) : Host.Outcome State Fault Refusal :=
  let body := if pldmType = 0 then [0] ++ natLE 32 0x3C
    else if pldmType = 2 then [0] ++ natLE 32 (2 ^ 0x11 + 2 ^ 0x21 + 2 ^ 0x51) else [0x83]
  .next { s with dev := s.dev.mctp tag 1 0x05 body }

/-- GET_SENSOR_READING (R452). -/
def execGetSensorReading (tag sensor : Nat) (s : State) : Host.Outcome State Fault Refusal :=
  .next { s with dev := s.dev.sensorReading tag sensor }

/-- GET_STATE_SENSOR_READINGS (R452). -/
def execGetStateSensorReadings (tag sensor : Nat) (s : State) : Host.Outcome State Fault Refusal :=
  .next { s with dev := s.dev.stateSensor tag sensor }

/-- GET_PDR (R447). -/
def execGetPdr (tag handle : Nat) (s : State) : Host.Outcome State Fault Refusal := .next { s with dev := s.dev.pdr tag handle }

/-- MCTP_UNSUPPORTED_COMMAND (R447). -/
def execMctpUnsupportedCommand (tag msgType command : Nat) (s : State) : Host.Outcome State Fault Refusal :=
  .next (s.mctpUnsupported tag msgType command)

/-- SMBUS_PEC_FAIL (R447). -/
def execSmbusPecFail (s : State) : Host.Outcome State Fault Refusal := .next { s with dev := s.dev.pecFail }

end Sys2Proof.Machine
end

