-- ==== Sys2Proof/Machine/Host.lean ====
section
/-! DEFINITION. The host interface (chapter 13): BAR0 registers, stream staging, DMA, event queues, configuration requests
and the link. -/
namespace Sys2Proof.Machine

/-- Change a function. -/
def Dev.modHost (d : Dev) (t : Tenant) (f : HostIf → HostIf) : Dev := { d with host := vmod d.host t f }

/-- The function carries its tenant's traffic (R393). -/
def Dev.bound (d : Dev) (t : Tenant) : Bool := d.present t && d.dict.cfg.bound t

/-- The function may issue requests (R393, R409, R423, R495). -/
def Dev.mayIssue (d : Dev) (t : Tenant) : Bool :=
  let h := vget d.host t
  d.rst.phase == 8 && d.stairs.now == 0 && d.bound t && h.busMaster && d.link.l0 && !h.flr && !h.d3hot

/-! ### How a memory request is met (Tables HQ-10, HQ-11, RB-7; R393) -/

/-- The treatment of a memory request. -/
inductive Gate where
  | serve
  | hold
  /-- Completed with this status; a posted one is dropped, and counted where the flag says so. -/
  | refuse (status : Nat) (counted : Bool)
  deriving DecidableEq, Repr

/-- The treatment of a memory request to PFt. -/
def Dev.gate (d : Dev) (t : Tenant) : Gate :=
  let h := vget d.host t
  if d.rst.phase ≠ 8 then .refuse 1 false
  else if h.flr then .refuse 1 true
  else if d.rst.requests.any fun q => q.reach == 3 && q.target == 0x60 then .refuse 2 true
  else if !d.bound t || !h.memSpace || h.d3hot then .refuse 1 false
  else if d.stairs.now ≠ 0 then .hold
  else .serve

/-- A BAR2 or BAR0 write that is dropped. -/
def Dev.dropPosted (d : Dev) (t : Tenant) : Dev := d.modHost t fun h => { h with ringDropped := satAdd 32 h.ringDropped 1 }

/-- A refused access or index write (R395). -/
def Dev.badAccess (d : Dev) (t : Tenant) : Dev := d.modHost t fun h => { h with badAccess := satAdd 32 h.badAccess 1 }

/-! ### MSI-X (R398) -/

/-- A vector's pending message is sent, where it is no longer masked. -/
def Dev.sendPending (d : Dev) (t : Tenant) (v : Fin 64) : Dev :=
  let h := vget d.host t
  if h.msixPba.getLsbD v.val && !h.functionMask && !bit (vget h.msixTable v).toNat 96 && h.msixEnable && h.busMaster then
    (d.modHost t fun h => { h with msixPba := setBit h.msixPba v.val false }).msixSend t v.val
  else d

/-- Every vector, ascending. -/
def allVectors : List (Fin 64) := List.ofFn id

/-- MSIX_UNMASK: a vector's mask bit or Function Mask is cleared. -/
def Dev.unmask (d : Dev) (t : Tenant) : Option (Fin 64) → Dev
  | some v =>
    (d.modHost t fun h => { h with msixTable := vmod h.msixTable v fun e => setBit e 96 false }).sendPending t v
  | none => allVectors.foldl (fun d v => d.sendPending t v) (d.modHost t fun h => { h with functionMask := false })

/-! ### BAR0 registers (Table HQ-2) -/

/-- EVQn_CFG: BASE, n, VECTOR, ENABLE and TYPE_MASK (Table HQ-9). -/
def Cfg.evqCfg (c : Cfg) (t : Tenant) (n : Nat) : Bytes := c.get (0x1310 + n) t.val

/-- Queue n of a tenant is enabled. -/
def Cfg.evqOn (c : Cfg) (t : Tenant) (n : Nat) : Bool := fieldBE (c.evqCfg t n) 10 1 == 1

/-- Records that the ring holds. -/
def Cfg.evqSize (c : Cfg) (t : Tenant) (n : Nat) : Nat := 2 ^ fieldBE (c.evqCfg t n) 8 1

/-- Queue n has room (R419). -/
def Dev.evqRoom (d : Dev) (t : Tenant) (n : Fin 4) : Bool :=
  let q := vget (vget d.host t).evq n
  decide (sub32 q.tail q.head < d.dict.cfg.evqSize t n.val)

/-- The tenant waits for a reset (HQ_STATUS bit 12). -/
def Dev.resetPending (d : Dev) (t : Tenant) : Bool :=
  d.rst.requests.any fun q => decide (q.reach ≤ 1) || (q.reach == 2 && q.target == t.val)

/-- The dword at an offset; offsets not listed read as zero (R395). -/
def Dev.bar0Dword (d : Dev) (t : Tenant) (o : Nat) : Nat :=
  let h := vget d.host t
  let q := fun (i : Nat) => at_ h.evq i {}
  if o = 0 then 0x48520100 + t.val
  else if o = 4 then ofBool (d.present t) + 2 * ofBool (d.bound t) + 256 * d.stairs.now + 4096 * ofBool (d.resetPending t)
  else if 0x10 ≤ o && o < 0x1C then fieldLE (timeLE h.timeSnap) (o - 0x10) 4
  else if o = 0x1C then h.snapTrace.toNat
  else if o = 0x20 then h.badAccess
  else if 0x100 ≤ o && o < 0x180 then
    let n := (o - 0x100) / 0x20
    let r := o % 0x20
    let e := q n
    if r = 0 then e.head else if r = 4 then e.tail else if r = 8 then e.lost
    else if r = 0xC then
      let on := d.dict.cfg.evqOn t n
      ofBool on + 2 * ofBool (on && decide (d.dict.cfg.evqSize t n ≤ sub32 e.tail e.head)) + 4 * ofBool e.lostPending
    else 0
  else if o = 0x180 then h.hold.recs.length
  else if o = 0x184 then h.hold.drops
  else if o = 0x188 then h.unrouted
  else if o = 0x300 then h.ringProd
  else if o = 0x304 then h.ringCons
  else if o = 0x308 then d.ringSize t
  else if o = 0x30C then
    ofBool (d.dict.cfg.ringEnabled t) + 2 * ofBool (h.ringProd == h.ringCons) + 4 * ofBool (decide (d.ringLevel t < d.dict.cfg.lowWater t))
  else if o = 0x310 then h.ringLanded
  else if o = 0x314 then h.ringDropped
  else if o = 0x400 then h.dmaProd
  else if o = 0x404 then h.dmaCons
  else if o = 0x408 then h.dmaDone
  else if o = 0x40C then match h.dma with | some x => 1 + 0x10000 * x.slot | none => 0
  else if 0x800 ≤ o && o < 0x1000 then
    bits (at_ h.dmaSlots ((o - 0x800) / 32) 0).toNat (8 * (o % 32) + 31) (8 * (o % 32))
  else if 0x1000 ≤ o && o < 0x1400 then bits (at_ h.msixTable ((o - 0x1000) / 16) 0).toNat (8 * (o % 16) + 31) (8 * (o % 16))
  else if o = 0x1800 then h.msixPba.toNat % 2 ^ 32
  else if o = 0x1804 then h.msixPba.toNat / 2 ^ 32
  else 0

/-- One dword of a wider word replaced. -/
def putDword {w : Nat} (x : BitVec w) (k v : Nat) : BitVec w :=
  BitVec.ofNat w (x.toNat - bits x.toNat (32 * k + 31) (32 * k) * 2 ^ (32 * k) + v % 2 ^ 32 * 2 ^ (32 * k))

/-- EVQ_HEAD (R419). -/
def Dev.evqHead (d : Dev) (t : Tenant) (n : Fin 4) (v : Nat) : Dev :=
  let q := vget (vget d.host t).evq n
  if sub32 v q.head ≤ sub32 q.tail q.head then
    d.modHost t fun h => { h with evq := vmod h.evq n fun q => { q with head := v % 2 ^ 32 } }
  else d.badAccess t

/-- RING_PROD (R401), with the message of R404. -/
def Dev.ringProd (d : Dev) (t : Tenant) (v : Nat) : Dev :=
  let h := vget d.host t
  if sub32 v h.ringCons ≤ d.ringSize t && decide (sub32 h.ringProd h.ringCons ≤ sub32 v h.ringCons) then
    (d.modHost t fun h => { h with ringProd := v % 2 ^ 32 }).ringWater t
  else d.badAccess t

/-- DMA_PROD (R405): not past 64 waiting descriptors, and not backwards. -/
def Dev.dmaProd (d : Dev) (t : Tenant) (v : Nat) : Dev :=
  let h := vget d.host t
  if sub32 v h.dmaCons ≤ 64 && decide (sub32 h.dmaProd h.dmaCons ≤ sub32 v h.dmaCons) then
    d.modHost t fun h => { h with dmaProd := v % 2 ^ 32 }
  else d.badAccess t

/-- A dword of a DMA slot, whose word in memory is overwritten (Table MA-1, R271), or of the MSI-X table is written; a vector
unmasked so sends its message. -/
def Dev.bar0Table (d : Dev) (t : Tenant) (o v : Nat) : Dev :=
  if h : 0x800 ≤ o ∧ o < 0x1000 then
    let word := systemAddr (0x10000 + 0x2000 * t.val + (o - 0x800) / 8 * 8)
    { d with arb := { d.arb with poison := d.arb.poison.filter (· != word) } }.modHost t fun x =>
      { x with dmaSlots := vmod x.dmaSlots ⟨(o - 0x800) / 32, by omega⟩ fun e => putDword e (o % 32 / 4) v }
  else if h : 0x1000 ≤ o ∧ o < 0x1400 then
    let k : Fin 64 := ⟨(o - 0x1000) / 16, by omega⟩
    (d.modHost t fun x => { x with msixTable := vmod x.msixTable k fun e => putDword e (o % 16 / 4) v }).sendPending t k
  else d

/-- One dword written. A register that is read-only, and an offset not listed, ignore it (R395). -/
def Dev.bar0Put (d : Dev) (t : Tenant) (o v : Nat) : Dev :=
  if o = 0x100 then d.evqHead t 0 v
  else if o = 0x120 then d.evqHead t 1 v
  else if o = 0x140 then d.evqHead t 2 v
  else if o = 0x160 then d.evqHead t 3 v
  else if o = 0x200 then d.deliver t 6 0
  else if o = 0x300 then d.ringProd t v
  else if o = 0x400 then d.dmaProd t v
  else d.bar0Table t o v

/-- TIME_SNAP latches the device time at the end of the tick (R397). -/
def Dev.timeSnap (d : Dev) (t : Tenant) : Dev :=
  d.modHost t fun h => { h with timeSnap := d.timeAt finePerTick, snapTrace := BitVec.ofNat 2 d.traceShown }

/-- An access that BAR0 takes: aligned, of 4 or 8 bytes (R395). -/
def bar0Form (o size : Nat) : Bool := (size == 4 || size == 8) && o % size == 0 && decide (o + size ≤ 65536)

/-- A read of BAR0. -/
def Dev.bar0Read (d : Dev) (t : Tenant) (o size : Nat) : Dev :=
  if !bar0Form o size then (d.badAccess t).send (.completion t 0 (zeros size))
  else
    let d1 := if o = 0x10 then d.timeSnap t else d
    d1.send (.completion t 0 (natLE 4 (d1.bar0Dword t o) ++ (if size = 8 then natLE 4 (d1.bar0Dword t (o + 4)) else [])))

/-- A write of BAR0, the lower dword first. -/
def Dev.bar0Write (d : Dev) (t : Tenant) (o size v : Nat) : Dev :=
  if !bar0Form o size then d.badAccess t
  else
    let d1 := d.bar0Put t o (v % 2 ^ 32)
    if size = 8 then d1.bar0Put t (o + 4) (v / 2 ^ 32 % 2 ^ 32) else d1

/-! ### Stream staging (R399-R402) -/

/-- A BAR2 write touches a word that the device owns (R401). -/
def Dev.touchesOwned (d : Dev) (t : Tenant) (o n : Nat) : Bool :=
  let size := Nat.max 1 (d.ringSize t)
  let level := d.ringLevel t
  let cons := (vget d.host t).ringCons % size
  (List.range (ceilDiv (o % 8 + n) 8)).any fun i => decide ((o / 8 + i + size - cons) % size < level)

/-- Bytes of BAR2 writes buffered. -/
def HostIf.buffered (h : HostIf) : Nat := h.bar2.foldl (fun n p => n + p.2.length) 0

/-- A BAR2 write (R399, R401-R403). -/
def Dev.bar2Write (d : Dev) (t : Tenant) (o : Nat) (data : Bytes) : Dev :=
  if data.isEmpty then d
  else if !d.dict.cfg.ringEnabled t || o + data.length > min (8 * d.ringSize t) (2 ^ 20) || d.touchesOwned t o data.length then
    d.dropPosted t
  else if (vget d.host t).buffered + data.length > 65536 then (d.dropPosted t).raiseTrans 90 (some t) 1 t.val 0 0
  else d.modHost t fun h => { h with bar2 := h.bar2 ++ [(o, data)] }

/-- The buffered writes at the head that lie in one 64-byte block, and what stays. -/
def takeBlock (blk : Nat) : List (Nat × Bytes) → List (Nat × Bytes) × List (Nat × Bytes)
  | [] => ([], [])
  | (o, b) :: l =>
    if o / 64 ≠ blk then ([], (o, b) :: l)
    else
      let n := 64 - o % 64
      if b.length ≤ n then let (x, y) := takeBlock blk l; ((o, b) :: x, y) else ([(o, b.take n)], (o + n, b.drop n) :: l)

/-- Uncorrectable words that the host interface reads for a tenant (R271). -/
def Dev.hostPoison (d : Dev) (t : Tenant) (words : List Nat) : Dev :=
  words.foldl (fun (d : Dev) w => d.eccHit w (some t) 3 0x60 1) d

/-- STAGING_WRITE (R402): one block, one bank-cycle of the tenant's reserve, held in a withheld tick (R281). With the ring disabled or smaller than the
offset, the bytes are dropped and counted. -/
def State.stagingWrite (s : State) (t : Tenant) : State :=
  let d := s.dev
  let h := vget d.host t
  match h.bar2 with
  | [] => s
  | (o, _) :: _ =>
    if d.rst.phase ≠ 8 || d.stairs.now ≠ 0 || h.stagedCycles ≥ d.dict.cfg.nat 0x1910 t.val || d.withheldTick d.tb.tick then s
    else
      let (run, rest) := takeBlock (o / 64) h.bar2
      let d1 := d.modHost t fun h => { h with bar2 := rest }
      if !d.dict.cfg.ringEnabled t || 8 * d.ringSize t < (o / 64 + 1) * 64 then { s with dev := d1.dropPosted t }
      else
        let n := run.foldl (fun n p => n + p.2.length) 0
        let d2 := d1.modHost t fun h => { h with stagedCycles := h.stagedCycles + 1, ringLanded := satAdd 32 h.ringLanded n }
        { s with mem := run.foldl (fun m (p : Nat × Bytes) => Mem.writeMapped m (d.ringAddr t) p.1 p.2) s.mem
                 dev := { d2 with arb := run.foldl (fun a (p : Nat × Bytes) => a.unpoison (d.ringAddr t) p.1 p.2.length) d2.arb } }

/-! ### DMA (R405-R409) -/

/-- The transfer that a descriptor asks for; `total` is not yet set. -/
def parseDescriptor (x : BitVec 256) (slot unit : Nat) : DmaRun :=
  let f := fun (o k : Nat) => bits x.toNat (8 * (o + k) - 1) (8 * o)
  { slot := slot, upload := f 0 1 == 1, source := f 1 1, tag := f 4 4, hostAddr := f 8 8, hostLen := f 16 4, first := f 24 4
    count := f 28 4, total := 0, unit := unit }

/-- OP, SOURCE, the reserved bytes, HOST_ADDR and HOST_LEN are as Table HQ-4 gives. -/
def descriptorForm (x : BitVec 256) : Bool :=
  let f := fun (o k : Nat) => bits x.toNat (8 * (o + k) - 1) (8 * o)
  let up := f 0 1 == 1 && [1, 2, 3, 4, 0x11, 0x12, 0x13].contains (f 1 1)
  let down := f 0 1 == 2 && f 1 1 == 0x21
  (up || down) && f 2 2 == 0 && f 20 4 == 0 && f 8 8 % 64 == 0 && decide (64 ≤ f 16 4)

/-- A segment can be delivered (R263): it is complete, or an abort has written its header. -/
def Dev.segReady (d : Dev) (t : Tenant) (k : Nat) : Bool :=
  let a := vget d.acq t
  decide (k < a.segDone) || (a.st == 5 && k == a.seg)

/-- Body bytes of segment k that lie before the last sample, by its header (R255). -/
def State.segLength (s : State) (t : Tenant) (k : Nat) : Nat :=
  let hdr := s.dev.areaBytes s.mem 1 t (k * (vget s.dev.acq t).segBytes) 128
  let n := fieldLE hdr 40 4
  if fieldLE hdr 0 1 = 2 && fieldLE hdr 1 1 == 0 then 16 * n else n * s.dev.dict.cfg.periodBytes t

/-- Bytes of the ring of a segment. -/
def Cfg.segRing (c : Cfg) (t : Tenant) : Nat := c.segPeriods t * c.periodBytes t

/-- The bytes that a transfer delivers, or the status with which it ends at once (Table HQ-5, R407, R408). -/
def State.dmaSize (s : State) (t : Tenant) (x : DmaRun) : Except Nat Nat :=
  let d := s.dev
  let g := vget d.gallery t
  let gal := (d.areaSize 2 t) ≠ 0
  let groups := (d.dict.cfg.ownedGroups t).length
  if !x.upload then
    if x.first % 64 ≠ 0 || x.count % 64 ≠ 0 || x.count = 0 || x.first + x.count > d.areaSize 0 t then .error 4
    else if d.seqBusy t || d.modes.device = 11 then .error 5
    else .ok x.count
  else if x.source = 1 then
    if !gal || x.count = 0 || x.first ≥ d.recCapacity t then .error 4 else .ok (64 * min x.count (g.recCount - x.first))
  else if x.source = 2 then (if !gal || x.first ≠ 0 || x.count ≠ 0 then .error 4 else .ok 384)
  else if x.source = 3 then
    if !gal || x.count = 0 || x.first ≥ d.dict.cfg.fg t 4 then .error 4 else .ok (groups * min x.count (g.bitmapRows - x.first))
  else if x.source = 4 then (if !gal || x.first ≠ 0 || x.count ≠ 0 then .error 4 else .ok 1024)
  else if x.source = 0x13 then
    if x.count = 0 || x.first + x.count > d.areaSize 1 t then .error 4 else .ok x.count
  else if x.count ≠ 0 || x.first ≥ (vget d.acq t).segCapacity then .error 4
  else if !d.segReady t x.first then .error 3
  else .ok (128 + (if x.source = 0x11 then s.segLength t x.first else d.dict.cfg.segRing t))

/-- The next piece of a transfer: at most Max_Payload_Size, not across 4 KiB (R406). -/
def DmaRun.piece (x : DmaRun) (pos : Nat) : Nat :=
  min (min x.unit (4096 - (x.hostAddr + pos) % 4096)) (x.total - pos)

/-- Reads issued while at most 64 are outstanding (R407). -/
def issueReads (t : Tenant) : Nat → Dev × DmaRun → Dev × DmaRun
  | 0, p => p
  | n + 1, (d, x) =>
    if x.outstanding ≥ 64 || x.issued ≥ x.total then (d, x)
    else
      let k := x.piece x.issued
      issueReads t n (d.send (.hostRead t (x.hostAddr + x.issued) k),
        { x with issued := x.issued + k, outstanding := x.outstanding + 1 })

/-- A download goes on where the function may issue requests. -/
def Dev.dmaResume (d : Dev) (t : Tenant) : Dev :=
  match (vget d.host t).dma with
  | some x =>
    if x.upload || !d.mayIssue t then d
    else let (d1, x1) := issueReads t 64 (d, x); d1.modHost t fun h => { h with dma := some x1 }
  | none => d

/-- DMA_DESCRIPTOR (R405): the device takes the tenant's next descriptor; one that cannot run ends at once (R408), and so
does one read with an uncorrectable error (Table MA-2). -/
def State.dmaTake (s : State) (t : Tenant) : State :=
  let d := s.dev
  let h := vget d.host t
  if h.dma.isSome || h.dmaProd = h.dmaCons || !d.mayIssue t then s
  else
    let slot := h.dmaCons % 64
    let raw := at_ h.dmaSlots slot 0
    let x := parseDescriptor raw slot h.maxPayload
    let take := fun (x : DmaRun) => d.modHost t fun h => { h with dma := some x, dmaCons := add32 h.dmaCons 1 }
    let bad := (slotWords t slot).filter fun w => d.arb.poison.contains w
    if !bad.isEmpty then { s with dev := ((take x).hostPoison t bad).dmaFinish t 6 }
    else if !descriptorForm raw then { s with dev := (take x).dmaFinish t 4 }
    else match s.dmaSize t x with
      | .error st => { s with dev := (take x).dmaFinish t st }
      | .ok n =>
        let x1 := { x with total := min n x.hostLen, truncated := decide (n > x.hostLen) }
        if n = 0 then { s with dev := (take x1).dmaFinish t 0 } else { s with dev := (take x1).dmaResume t }

/-- The transfer ends with all its bytes. -/
def Dev.dmaComplete (d : Dev) (t : Tenant) (x : DmaRun) : Dev :=
  (d.modHost t fun h => { h with dma := some x }).dmaFinish t (if x.truncated then 1 else 0)

/-- FS-089 (R407): the transfer ends with HOST_ERROR. -/
def Dev.dmaError (d : Dev) (t : Tenant) (x : DmaRun) (code : Nat) : Dev :=
  (d.raiseTrans 89 (some t) 1 t.val (x.hostAddr + x.done) code).dmaFinish t 6

/-- DOWNLOAD_COMPLETION (R407): the completion of the oldest outstanding read. -/
def State.downloadCompletion (s : State) (t : Tenant) (status : CplStatus) (data : Bytes) : State :=
  match (vget s.dev.host t).dma with
  | none => s
  | some x =>
    if x.upload || x.outstanding = 0 then s
    else match status with
      | .unsupported => { s with dev := s.dev.dmaError t x 1 }
      | .abort => { s with dev := s.dev.dmaError t x 2 }
      | .poisoned => { s with dev := s.dev.dmaError t x 3 }
      | .success =>
        if data.length ≠ x.piece x.done then s
        else
          let s1 := s.areaWrite 0 t (x.first + x.done) data
          let x1 := { x with done := x.done + data.length, outstanding := x.outstanding - 1 }
          if x1.done = x1.total then { s1 with dev := s1.dev.dmaComplete t x1 }
          else { s1 with dev := (s1.dev.modHost t fun h => { h with dma := some x1 }).dmaResume t }

/-- COMPLETION_TIMEOUT (R407). -/
def Dev.completionTimeout (d : Dev) (t : Tenant) : Dev :=
  match (vget d.host t).dma with
  | some x => if !x.upload && x.outstanding != 0 then d.dmaError t x 4 else d
  | none => d

/-- The counters of a tenant, each as FAIL_COUNT reads, torn cells repaired (Table FG-6, R210). -/
def State.counterBytes (s : State) (t : Tenant) : State × Bytes :=
  allPins.foldl (fun (acc : State × Bytes) p =>
    let (s1, _, v) := acc.1.failCount t p
    (s1, acc.2 ++ natLE 8 v)) (s, [])

/-- The region and the runs of bytes that an upload reads, in the order of delivery (Tables FG-6, TA-9). -/
def State.uploadRuns (s : State) (t : Tenant) (x : DmaRun) : Nat × List (Nat × Nat) :=
  let d := s.dev
  let seg := x.first * (vget d.acq t).segBytes
  let ring := d.dict.cfg.segRing t
  let wrap := fieldLE (d.areaBytes s.mem 1 t seg 128) 48 4
  if x.source = 1 then (2, [(0x1000 + 64 * x.first, x.total)])
  else if x.source = 2 then (2, [(0, 768)])
  else if x.source = 3 then
    (2, [(d.areaSize 2 t - d.dict.cfg.bitmapBytes t + x.first * (d.dict.cfg.ownedGroups t).length, x.total)])
  else if x.source = 4 then (2, [(0x400, 1024)])
  else if x.source = 0x11 then (1, [(seg, 128), (seg + 128 + wrap, ring - wrap), (seg + 128, wrap)])
  else if x.source = 0x12 then (1, [(seg, 128 + ring)])
  else (1, [(x.first, x.total)])

/-- Words of a run that hold an uncorrectable error: every one is accounted (R271); the count of 64-byte blocks with one. -/
def Dev.uploadPoison (d : Dev) (t : Tenant) (region : Nat) (runs : List (Nat × Nat)) : Dev × Nat :=
  let words := runs.flatMap fun r => (List.range (ceilDiv (r.1 % 8 + r.2) 8)).map fun i => wordOf (d.areaAddr region t (r.1 / 8 * 8 + 8 * i))
  let bad := words.filter fun w => d.arb.poison.contains w
  (d.hostPoison t bad, ((bad.map (· / 64)).eraseDups).length)

/-- Data written to the host in pieces (R406). -/
def Dev.hostWrites (d : Dev) (t : Tenant) (x : DmaRun) : Nat → Nat → Bytes → Dev
  | 0, _, _ => d
  | n + 1, pos, data =>
    let k := x.piece pos
    if data.isEmpty || k = 0 then d
    else Dev.hostWrites (d.send (.hostWrite t (x.hostAddr + pos) (data.take k))) t x n (pos + k) (data.drop k)

/-- DMA_DONE of an upload (R406, R408): its data is written and its record made. The counters wait for a completed flush
(Table FG-6); nothing is sent in a withheld tick (R281). A download ends with its last completion. -/
def State.dmaDone (s : State) (t : Tenant) : State :=
  match (vget s.dev.host t).dma with
  | none => s
  | some x =>
    if !x.upload || !s.dev.mayIssue t || s.dev.withheldTick s.dev.tb.tick || (x.source = 2 && !(vget s.dev.gallery t).idle) then s
    else
      let (region, runs) := s.uploadRuns t x
      let (d1, bad) := s.dev.uploadPoison t region runs
      let s1 := { s with dev := d1 }
      let (s2, all) := if x.source = 2 then s1.counterBytes t
        else (s1, runs.flatMap fun r => d1.areaBytes s.mem region t r.1 r.2)
      let data := all.take x.total
      let d3 := s2.dev.hostWrites t x (data.length + 1) 0 data
      { s2 with dev := d3.dmaComplete t { x with done := data.length, poisoned := bad } }

/-! ### Event queues (R417-R422, R427) -/

/-- A record is written at the tail of queue n (R418). -/
def Dev.queueWrite (d : Dev) (t : Tenant) (n : Fin 4) (r : EventRec) : Dev :=
  let q := vget (vget d.host t).evq n
  let size := d.dict.cfg.evqSize t n.val
  let phase := (q.tail / size) % 2 == 0
  (d.send (.hostWrite t (fieldBE (d.dict.cfg.evqCfg t n.val) 0 8 + 32 * (q.tail % size)) (r.bytes phase))).modHost t fun h =>
    { h with evq := vmod h.evq n fun q => { q with tail := add32 q.tail 1, wrote := true } }

/-- The enabled queues of a tenant, ascending. -/
def Dev.liveQueues (d : Dev) (t : Tenant) : List (Fin 4) := (List.ofFn (n := 4) id).filter fun n => d.dict.cfg.evqOn t n.val

/-- The LOST record of a queue, made as it is written (R421, R422). -/
def Dev.queueLost (d : Dev) (t : Tenant) (n : Fin 4) : Dev :=
  let h := vget d.host t
  let q := vget h.evq n
  let r := d.lostRec t.val (0x9000 + t.val) (lostPayload q.lostSince h.hold.dropsUnreported q.lostFirst q.lostLast) h.hold.seq
  (d.modHost t fun h => { h with
    hold := { h.hold with seq := (h.hold.seq + 1) % 2 ^ 16, dropsUnreported := 0, dropsTried := 0 }
    evq := vmod h.evq n fun q => { q with lostPending := false, lostSince := 0 } }).queueWrite t n r

/-- A record that a full queue would have taken is lost to it (R421); a LOST record is not counted (R422). -/
def Dev.queueMiss (d : Dev) (t : Tenant) (n : Fin 4) (r : EventRec) : Dev :=
  if r.type = 0x0C then d
  else d.modHost t fun h => { h with evq := vmod h.evq n fun q => { q with
    lost := satAdd 32 q.lost 1, lostPending := true, lostSince := q.lostSince + 1
    lostFirst := if q.lostPending then q.lostFirst else r.seq, lostLast := r.seq } }

/-- A record is written into every enabled queue that accepts its type, or counted in UNROUTED (R417). -/
def Dev.route (d : Dev) (t : Tenant) (r : EventRec) : Dev :=
  let qs := (d.liveQueues t).filter fun n => bit (fieldBE (d.dict.cfg.evqCfg t n.val) 12 4) r.type
  if qs.isEmpty then d.modHost t fun h => { h with unrouted := satAdd 32 h.unrouted 1 }
  else qs.foldl (fun (d : Dev) n => if d.evqRoom t n then d.queueWrite t n r else d.queueMiss t n r) d

/-- The LOST record of R415 takes its contents as it is written, and reports the drops only where a queue took it (R422). -/
def Dev.routeLost (d : Dev) (t : Tenant) (r : EventRec) : Dev :=
  let h := (vget d.host t).hold
  let took := (d.liveQueues t).any fun n => bit (fieldBE (d.dict.cfg.evqCfg t n.val) 12 4) 0x0C && d.evqRoom t n
  let d1 := d.route t { r with payload := lostPayload 0 h.dropsUnreported h.dropFirst h.dropLast }
  d1.modHost t fun x => { x with hold := { x.hold with
    dropsUnreported := if took then 0 else h.dropsUnreported, dropsTried := if took then 0 else h.dropsUnreported } }

/-- Once the holding buffer has space again, a LOST record reports its drops, unless a queue's own will (R415, R422). -/
def Dev.holdLost (d : Dev) (t : Tenant) : Dev :=
  let h := vget d.host t
  let x := h.hold
  if x.dropsUnreported ≤ x.dropsTried || decide (x.recs.length ≥ 256) || x.recs.any (fun r => r.type == 0x0C) ||
      (d.liveQueues t).any (fun n => (vget h.evq n).lostPending) then d
  else d.modHost t fun h => { h with hold := h.hold.put (d.lostRec t.val (0x9000 + t.val) (zeros 12)) }

/-- EVENT_WRITE (R417-R422, R427): the writer handles one record of tenant t. One read with an uncorrectable error is not
delivered, and counts as a holding-buffer drop (Table MA-2). -/
def Dev.eventWrite (d : Dev) (t : Tenant) : Dev :=
  let h := vget d.host t
  let qs := d.liveQueues t
  if !d.mayIssue t || d.link.written ≥ 128 then d
  else
    let d0 := { d with link := { d.link with written := d.link.written + 1 } }
    match h.resetLost, qs with
    | some r, n :: _ => (d0.modHost t fun h => { h with resetLost := none }).queueWrite t n r
    | _, _ =>
      match qs.find? fun n => (vget h.evq n).lostPending && d.evqRoom t n with
      | some n => d0.queueLost t n
      | none =>
        match h.hold.recs with
        | [] => d
        | r :: rest =>
          let d1 := d0.modHost t fun h => { h with hold := { h.hold with recs := rest } }
          let bad := (holdWords t r.seq).filter fun w => d.arb.poison.contains w
          if !bad.isEmpty then ((d1.hostPoison t bad).modHost t fun h => { h with hold := h.hold.lose r.seq }).holdLost t
          else (if r.type = 0x0C then d1.routeLost t r else d1.route t r).holdLost t

/-- The messages of the queues that received a record in the frame (R420). -/
def Dev.queueMessages (d : Dev) : Dev :=
  allTenants.foldl (fun (d : Dev) t =>
    (List.ofFn (n := 4) id).foldl (fun (d : Dev) n =>
      if (vget (vget d.host t).evq n).wrote then
        (d.modHost t fun h => { h with evq := vmod h.evq n fun q => { q with wrote := false } }).msixSend t
          (fieldBE (d.dict.cfg.evqCfg t n.val) 9 1)
      else d) d) { d with link := { d.link with written := 0 } }

/-! ### Configuration requests and the link -/

/-- BUS_MASTER_ENABLE (R409). -/
def Dev.busMaster (d : Dev) (t : Tenant) (on : Bool) : Dev := (d.modHost t fun h => { h with busMaster := on }).dmaResume t

/-- A dword of the configuration space: the identifiers of Table HQ-1 and the Command register; the layout that PCI
Express gives the rest is not stated. -/
def Dev.cfgRead (d : Dev) (t : Tenant) (o : Nat) : Nat × Dev :=
  let h := vget d.host t
  if o = 0 then (d.fuses.vendorId.toNat + 0x4852 * 65536, d)
  else if o = 4 then (2 * ofBool h.memSpace + 4 * ofBool h.busMaster + 16 * 65536, d)
  else if o = 8 then (d.fuses.stepping.toNat % 256 + 0x118000 * 256, d)
  else let (v, d1) := d.free; (v.toNat % 2 ^ 32, d1)

/-- CONFIG_REQUEST (R393, R424): served at every Stair; Configuration Request Retry Status during bring-up and an FLR. -/
def Dev.configRequest (d : Dev) (t : Tenant) (q : CfgReq) : Dev :=
  let ok := fun (d : Dev) => d.send (.completion t 0 [])
  if d.rst.phase ≠ 8 || (vget d.host t).flr then d.send (.completion t 5 [])
  else match q with
    | .read o => let (v, d1) := d.cfgRead t o; d1.send (.completion t 0 (natLE 4 v))
    | .command mem bus => ok ((d.modHost t fun h => { h with memSpace := mem }).busMaster t bus)
    | .maxPayload n => ok (if [128, 256, 512].contains n then d.modHost t fun h => { h with maxPayload := n } else d)
    | .msix on mask =>
      let d1 := d.modHost t fun h => { h with msixEnable := on, functionMask := mask }
      ok (if mask then d1 else allVectors.foldl (fun d v => d.sendPending t v) d1)
    | .power p => ok ((d.modHost t fun h => { h with d3hot := p }).dmaResume t)
    | .aspm l1 => ok (if t = 0 then { d with link := { d.link with aspmL1 := l1 } } else d)
    | .other _ _ => ok d

/-- FLR (R426): the transfer in progress ends without a record, and the tenant's reset is accepted. -/
def Dev.flr (d : Dev) (t : Tenant) : Dev :=
  if d.rst.phase ≠ 8 || (vget d.host t).flr then d.send (.completion t 5 [])
  else (d.modHost t fun h => { h with flr := true, dma := none, bar2 := [] }).requestReset { source := 0x10, reach := 2, target := t.val }

/-- PCIE_LINK_REACHES_L0 (R425, R429): WAKE_N is released; FS-083 ends, and FS-086 follows the rate and the width. -/
def Dev.linkL0 (d : Dev) (rate width : Nat) : Dev :=
  if d.rst.phase = 0 || !(decide (1 ≤ rate ∧ rate ≤ 5) && [1, 2, 4, 8, 16].contains width) then d
  else
    let d1 := { d with link := { d.link with l0 := true, l1 := false, rate := rate, width := width, wakeN := false } }
    let d2 := d1.condFall 83 devScope
    let d3 := if rate < 5 || width < 16 then d2.condRise 86 devScope 0 [] else d2.condFall 86 devScope
    allTenants.foldl Dev.dmaResume d3

/-! ### Requests held for a wake (R423, R424) -/

/-- A host request served. -/
def State.hostServe (s : State) : Instr → State
  | .bar0Write t o size v isRead => { s with dev := if isRead then s.dev.bar0Read t o size else s.dev.bar0Write t o size v }
  | .timeSnap t => { s with dev := s.dev.bar0Read t 0x10 4 }
  | .ringProd t v => { s with dev := s.dev.ringProd t v }
  | .evqHead t n v => { s with dev := s.dev.evqHead t n v }
  | .dmaProd t v => { s with dev := s.dev.dmaProd t v }
  | .eventDoorbell t => { s with dev := s.dev.deliver t 6 0 }
  | .bar2Write t o data isRead => { s with dev := if isRead then s.dev.send (.completion t 0 (zeros data.length)) else s.dev.bar2Write t o data }
  | _ => s

/-- A host request met as the gate of its function says: a posted one is dropped, a read gets its status. -/
def State.hostMeet (s : State) (t : Tenant) (read : Bool) (c : Instr) : State :=
  match s.dev.gate t with
  | .serve => State.hostServe { s with dev := s.dev.wake 1 } c
  | .hold => { s with dev := Dev.wake { s.dev with link := { s.dev.link with held := s.dev.link.held ++ [c] } } 1 }
  | .refuse st counted =>
    { s with dev := if read then s.dev.send (.completion t st []) else if counted then s.dev.dropPosted t else s.dev }

/-- A held request comes up again after the exit. -/
def State.hostAgain (s : State) (c : Instr) : State :=
  match c with
  | .bar0Write t _ _ _ isRead => s.hostMeet t isRead c
  | .timeSnap t => s.hostMeet t true c
  | .ringProd t _ => s.hostMeet t false c
  | .evqHead t _ _ => s.hostMeet t false c
  | .dmaProd t _ => s.hostMeet t false c
  | .eventDoorbell t => s.hostMeet t false c
  | .bar2Write t _ _ isRead => s.hostMeet t isRead c
  | _ => s

/-- The requests held for a wake are met in order after the exit. -/
def State.hostHeld (s : State) : State :=
  let l := s.dev.link.held
  l.foldl State.hostAgain { s with dev := { s.dev with link := { s.dev.link with held := [] } } }

/-! ### Meanings -/

/-- BAR2_WRITE (R402): any access to BAR2. A read of as many bytes as `data` has completes with zeros (R399). -/
def execBar2Write (t : Tenant) (offset : Nat) (data : Bytes) (isRead : Bool) (s : State) : Host.Outcome State Fault Refusal :=
  .next (s.hostMeet t isRead (.bar2Write t offset data isRead))

/-- STAGING_WRITE (R402). -/
def execStagingWrite (t : Tenant) (s : State) : Host.Outcome State Fault Refusal := .next (s.stagingWrite t)

/-- RING_PROD (R401). -/
def execRingProd (t : Tenant) (v : Nat) (s : State) : Host.Outcome State Fault Refusal := .next (s.hostMeet t false (.ringProd t v))

/-- EVENT_DOORBELL (R396). -/
def execEventDoorbell (t : Tenant) (s : State) : Host.Outcome State Fault Refusal := .next (s.hostMeet t false (.eventDoorbell t))

/-- EVQ_HEAD (R419). -/
def execEvqHead (t : Tenant) (n : Fin 4) (v : Nat) (s : State) : Host.Outcome State Fault Refusal :=
  .next (s.hostMeet t false (.evqHead t n v))

/-- DMA_PROD (R405). -/
def execDmaProd (t : Tenant) (v : Nat) (s : State) : Host.Outcome State Fault Refusal := .next (s.hostMeet t false (.dmaProd t v))

/-- TIME_SNAP (R397): a read of the dword at 0x0010. -/
def execTimeSnap (t : Tenant) (s : State) : Host.Outcome State Fault Refusal := .next (s.hostMeet t true (.timeSnap t))

/-- BAR0_WRITE (R395): any access to BAR0. -/
def execBar0Write (t : Tenant) (offset size v : Nat) (isRead : Bool) (s : State) : Host.Outcome State Fault Refusal :=
  .next (s.hostMeet t isRead (.bar0Write t offset size v isRead))

/-- DMA_DESCRIPTOR (R405). -/
def execDmaDescriptor (t : Tenant) (s : State) : Host.Outcome State Fault Refusal := .next (s.dmaTake t)

/-- DOWNLOAD_COMPLETION (R407). -/
def execDownloadCompletion (t : Tenant) (status : CplStatus) (data : Bytes) (s : State) : Host.Outcome State Fault Refusal :=
  .next (s.downloadCompletion t status data)

/-- COMPLETION_TIMEOUT (R407). -/
def execCompletionTimeout (t : Tenant) (s : State) : Host.Outcome State Fault Refusal :=
  .next { s with dev := s.dev.completionTimeout t }

/-- DMA_DONE (R408). -/
def execDmaDone (t : Tenant) (s : State) : Host.Outcome State Fault Refusal := .next (s.dmaDone t)

/-- EVENT_WRITE (R418). -/
def execEventWrite (t : Tenant) (s : State) : Host.Outcome State Fault Refusal := .next { s with dev := s.dev.eventWrite t }

/-- MSIX_UNMASK (R398). -/
def execMsixUnmask (t : Tenant) (vector : Option (Fin 64)) (s : State) : Host.Outcome State Fault Refusal :=
  .next { s with dev := s.dev.unmask t vector }

/-- BUS_MASTER_ENABLE (R409). -/
def execBusMasterEnable (t : Tenant) (on : Bool) (s : State) : Host.Outcome State Fault Refusal :=
  .next { s with dev := s.dev.configRequest t (.command (vget s.dev.host t).memSpace on) }

/-- CONFIG_REQUEST (R393). -/
def execConfigRequest (t : Tenant) (q : CfgReq) (s : State) : Host.Outcome State Fault Refusal :=
  .next { s with dev := s.dev.configRequest t q }

/-- FLR (R426); below Stair 0 the reset is executed when it is received (R485). -/
def execFlr (t : Tenant) (s : State) : Host.Outcome State Fault Refusal := .next (State.settle { s with dev := s.dev.flr t })

/-- L1_EXIT (R423). -/
def execL1Exit (s : State) : Host.Outcome State Fault Refusal :=
  .next { s with dev := if s.dev.link.l1 then s.dev.wake 1 else s.dev }

/-- PCIE_LINK_REACHES_L0 (R425). -/
def execPcieLinkReachesL0 (rate width : Nat) (s : State) : Host.Outcome State Fault Refusal :=
  .next { s with dev := s.dev.linkL0 rate width }

/-- WAKE_N_TIMEOUT (R425). -/
def execWakeNTimeout (s : State) : Host.Outcome State Fault Refusal :=
  .next { s with dev := { s.dev with link := { s.dev.link with wakeN := false } } }

end Sys2Proof.Machine
end

