-- ==== Sys2Proof/Machine/Singles.lean ====
section
/-! DEFINITION. The commands that are one write to the dictionary: an entry, or a block of a DOMAIN, written on its own by a
requester whose request has been verified (R342), and answered with its status. -/
namespace Sys2Proof.Machine

/-- A write of one entry; what it makes of a reset below Stair 0 follows (R485). -/
def State.single (s : State) (r : Req) (ix sub : Nat) (v : Bytes) : Host.Outcome State Fault Refusal :=
  .next (s.writeEntry r ix sub v).settle

/-- A write of one block of a DOMAIN. -/
def State.singleBlock (s : State) (r : Req) (ix sub offset total : Nat) (data : Bytes) : Host.Outcome State Fault Refusal :=
  .next (s.writeDomain r ix sub offset total data).settle

/-- TOD_SET (R37). -/
def execTodSet (r : Req) (v : Bytes) (s : State) : Host.Outcome State Fault Refusal := s.single r 0x1403 0 v

/-- CH_RETIRE (R90). -/
def execChRetire (r : Req) (ch : Chan) (v : Bytes) (s : State) : Host.Outcome State Fault Refusal := s.single r 0x3010 ch.val v

/-- CH_READMIT (R94). -/
def execChReadmit (r : Req) (ch : Chan) (v : Bytes) (s : State) : Host.Outcome State Fault Refusal := s.single r 0x3011 ch.val v

/-- TF_SET (R161). -/
def execTfSet (r : Req) (t : Tenant) (v : Bytes) (s : State) : Host.Outcome State Fault Refusal := s.single r (0x2018 + 0x100 * t.val) 1 v

/-- TF_CLEAR (R161). -/
def execTfClear (r : Req) (t : Tenant) (v : Bytes) (s : State) : Host.Outcome State Fault Refusal := s.single r (0x2018 + 0x100 * t.val) 2 v

/-- GF_SET (R161, R173). -/
def execGfSet (r : Req) (t : Tenant) (v : Bytes) (s : State) : Host.Outcome State Fault Refusal := s.single r (0x2021 + 0x100 * t.val) 1 v

/-- GF_CLEAR (R161, R173). -/
def execGfClear (r : Req) (t : Tenant) (v : Bytes) (s : State) : Host.Outcome State Fault Refusal := s.single r (0x2021 + 0x100 * t.val) 2 v

/-- EI_INJECT (R170). -/
def execEiInject (r : Req) (t : Tenant) (input : Fin 8) (v : Bytes) (s : State) : Host.Outcome State Fault Refusal := s.single r (0x2026 + 0x100 * t.val) input.val v

/-- ENGINE_RESET (R199). -/
def execEngineReset (r : Req) (e : Engine) (v : Bytes) (s : State) : Host.Outcome State Fault Refusal := s.single r 0x7F15 e.val v

/-- ACQ_FORCE (R240). -/
def execAcqForce (r : Req) (t : Tenant) (v : Bytes) (s : State) : Host.Outcome State Fault Refusal := s.single r (0x5101 + 0x10 * t.val) 0x0B v

/-- CAL_REQ_SELF_CAL (R304): CAL_REQ of the writer; the record's code names the procedure. -/
def execCalReqSelfCal (r : Req) (v : Bytes) (s : State) : Host.Outcome State Fault Refusal := s.single r 0x6020 (reqCode r) v

/-- CAL_REQ_REF_TRANSFER (R306), as CAL_REQ_SELF_CAL. -/
def execCalReqRefTransfer (r : Req) (v : Bytes) (s : State) : Host.Outcome State Fault Refusal := s.single r 0x6020 (reqCode r) v

/-- CAL_REQ_ABORT (R301), as CAL_REQ_SELF_CAL. -/
def execCalReqAbort (r : Req) (v : Bytes) (s : State) : Host.Outcome State Fault Refusal := s.single r 0x6020 (reqCode r) v

/-- SAVE_SETS (R329): ARCHIVE_CMD; the record's code names the command. -/
def execSaveSets (r : Req) (v : Bytes) (s : State) : Host.Outcome State Fault Refusal := s.single r 0x6100 1 v

/-- RESTORE_LAB (R329), as SAVE_SETS. -/
def execRestoreLab (r : Req) (v : Bytes) (s : State) : Host.Outcome State Fault Refusal := s.single r 0x6100 1 v

/-- RESTORE_FACTORY (R329), as SAVE_SETS. -/
def execRestoreFactory (r : Req) (v : Bytes) (s : State) : Host.Outcome State Fault Refusal := s.single r 0x6100 1 v

/-- WRITE_TRACE (R329), as SAVE_SETS. -/
def execWriteTrace (r : Req) (v : Bytes) (s : State) : Host.Outcome State Fault Refusal := s.single r 0x6100 1 v

/-- SERVICE_REQ, to enter M10 (R477). -/
def execServiceReqEnter (r : Req) (v : Bytes) (s : State) : Host.Outcome State Fault Refusal := s.single r 0x7000 1 v

/-- SERVICE_REQ, to leave M10 (R479). -/
def execServiceReqLeave (r : Req) (v : Bytes) (s : State) : Host.Outcome State Fault Refusal := s.single r 0x7000 1 v

/-- STAIR_REQ (R491). -/
def execStairReq (r : Req) (v : Bytes) (s : State) : Host.Outcome State Fault Refusal := s.single r 0x1500 1 v

/-- WATCHDOG_KICK (R516). -/
def execWatchdogKick (r : Req) (v : Bytes) (s : State) : Host.Outcome State Fault Refusal := s.single r 0x1605 1 v

/-- WATCHDOG_TIMEOUT (R516). -/
def execWatchdogTimeout (r : Req) (v : Bytes) (s : State) : Host.Outcome State Fault Refusal := s.single r 0x1605 0 v

/-- BLOCK_RESET (R538). -/
def execBlockReset (r : Req) (code : Nat) (v : Bytes) (s : State) : Host.Outcome State Fault Refusal := s.single r 0x1604 code v

/-- FAULT_FORCE (R575). -/
def execFaultForce (r : Req) (k : Fin 4) (v : Bytes) (s : State) : Host.Outcome State Fault Refusal := s.single r 0x7F20 k.val v

/-- FC_CLEAR (R577). -/
def execFcClear (r : Req) (v : Byte) (s : State) : Host.Outcome State Fault Refusal := s.single r 0x1802 0 [v]

/-- FC_CLEAR of every source (R577). -/
def execFcClearAll (r : Req) (s : State) : Host.Outcome State Fault Refusal := s.single r 0x1802 0 [0xFF]

/-- ODP_KEY (R375). -/
def execOdpKey (t : Tenant) (offset total : Nat) (data : Bytes) (s : State) : Host.Outcome State Fault Refusal :=
  s.singleBlock .mgmt 0x1211 t.val offset total data

/-- FLASH_UPDATE (R557). -/
def execFlashUpdate (r : Req) (offset total : Nat) (data : Bytes) (s : State) : Host.Outcome State Fault Refusal :=
  s.singleBlock r 0x1702 0 offset total data

end Sys2Proof.Machine
end

