-- ==== Sys2Proof/Machine/Edge.lean ====
section
/-! DEFINITION. The frame edge (R24), time that passes with no command waiting, and the ends of exits and timeouts that an
edge or a count brings. -/
namespace Sys2Proof.Machine

/-! ### Before the edge -/

/-- The oldest instant, in fine steps of the tick counter, that a compare, an acquisition or the previous slot may still ask
for, or a conversion in progress. -/
def Dev.horizon (d : Dev) : Nat :=
  let cmps := allTenants.flatMap fun t => (d.seq t).compares.map (·.start)
  let segs := allTenants.filterMap fun t => let a := vget d.acq t; if a.active then some ((a.origin - 2) * finePerTick) else none
  let dc := (d.modes.dc.map fun x => x.tick * finePerTick).toList
  (cmps ++ segs ++ dc).foldl Nat.min (d.fineNow - 2 * finePerTick)

/-- What no result asks for any more is forgotten: crossings, phases, moves of pins, and ended intervals of INVALID. -/
def Dev.forget (d : Dev) : Dev :=
  let h := d.horizon
  let newer := d.tb.marks.takeWhile fun m => decide (h < (m.tick + 17) * finePerTick)
  { d with
    tb := { d.tb with marks := newer ++ (d.tb.marks.drop newer.length).take 1 }
    chans := d.chans.map fun c => c.prune h
    moves := d.moves.filter fun m => decide (h < m.2.1)
    seqs := d.seqs.map fun q => { q with invalidSpans := q.invalidSpans.filter fun s => match s.2 with
      | some e => decide (h < e)
      | none => true } }

/-- The conditions latched in earlier frames have been entered (R190): an engine that no command has stepped since has run
their handlers (notes/assumptions/18). -/
def Dev.conditionsEntered (d : Dev) : Dev :=
  { d with micro := { d.micro with engines := d.micro.engines.map fun m =>
    match m.fetched with
    | some k => if k + ticksPerFrame < d.tb.tick then { m with pending := 0 } else m
    | none => { m with pending := 0 } } }

/-- The frame's counts end, and its queue messages are sent (R402, R417, R420). -/
def Dev.hostEdge (d : Dev) : Dev :=
  let d1 := d.queueMessages
  { d1 with host := d1.host.map fun h => { h with stagedCycles := 0 } }

/-- The frame closes: its open fault records (R571), the time base (R41, R47-R49), the lanes' intervals of INVALID, the fail
accumulators (R207), and a Reference Transfer that traceability has left (R306). -/
def Dev.closeFrame (d : Dev) : Dev :=
  let counted := allChans.foldl (fun (d : Dev) c => d.rxInconsistent c) d.hostEdge.conditionsEntered
  let d0 := Dev.closeFaults { counted with atEdge := true }
  let d1 := (d0.timeEdge.breachRecords).fireStepped d0.tb.devFine
  let lost := match d1.cal.proc with | some p => p.code == 2 && !p.staged && d1.tb.trace != 0 | none => false
  let d2 := (if lost then d1.abandonProc 4 else d1).laneEdge
  let d3 := allTenants.foldl (fun d t => d.galleryEdge t) d2
  let d4 := d3.forget
  { d4 with
    seqs := d4.seqs.map fun s => { s with synced := false, guards := s.guards.filter fun g => decide (d4.tb.tick ≤ g.2) }
    cal := { d4.cal with proc := d4.cal.proc.map fun p => if p.staged then p else { p with frames := p.frames + 1 } } }

/-! ### Step 1: reactions -/

/-- A class T reaction stops a tenant; its pending commits are discarded (R25, R475), and a stop that a fail limit asks for with
them. -/
def State.reactStop (s : State) (t : Tenant) : State :=
  if s.dev.fc.stopDue.getLsbD t.val then
    let s1 := { s with dev := { s.dev with fc := { s.dev.fc with stopDue := setBit s.dev.fc.stopDue t.val false } } }.stopTenant t
    { s1 with dev := (s1.dev.discardCommits (fun c => c.req == .tenant t) stMode).modGal t fun g => { g with stopDue := false } }
  else s

/-- KILL is latched in every engine (Table MS-5). -/
def Dev.killAll (d : Dev) : Dev := (List.ofFn (n := 9) id).foldl (fun d e => d.latchCond e 0) d

/-- Safe Hold (R480). -/
def State.safeHold (s : State) : State :=
  let d := { s.dev with fc := { s.dev.fc with safeHoldDue := false } }
  if d.modes.device = 11 then { s with dev := d }
  else
    let s1 := d.presentTenants.foldl State.stopActivities { s with dev := d }
    let d1 := ((s1.dev.discardCommits (fun _ => true) stMode).abandonProc 3).killAll
    { s1 with dev := { d1 with
      modes := { d1.modes with device := 11, serviceReq := false, serviceLeave := false }
      trigLines := Vector.replicate 4 {}
      cal := { d1.cal with reapplyDue := false, reapply := none, reapplyLate := false }
      micro := { d1.micro with engines := vmod d1.micro.engines 8 fun m => { m with stopped := true }, procReg := [] } } }

/-- A stop that a fail limit asks for, with the effect of a STOP that lands here (R222). -/
def Dev.limitStop (d : Dev) (t : Tenant) : Dev :=
  if (vget d.gallery t).stopDue then (d.modGal t fun g => { g with stopDue := false }).seqStop t else d

/-- Step 1 of R24: errors of sequencers, then the reactions of class T and D. Its records carry the time of the edge and the
epoch from before a Landing at step 2 (notes/assumptions/11). -/
def State.reactions (s : State) : State :=
  let d1 := allTenants.foldl (fun (d : Dev) t => d.errorHalt t) s.dev
  let s1 := allTenants.foldl State.reactStop { s with dev := d1 }
  if s1.dev.fc.safeHoldDue then s1.safeHold else s1

/-! ### Step 2: what lands -/

/-- The generation counts of the channel blocks and set blocks that a Landing has changed (R357). -/
def Dev.bumpBlocks (d old : Dev) : Dev :=
  let blocks := allChans.foldl (fun (d : Dev) c =>
    if d.block c = old.block c then d else { d with dict := d.dict.bumpGen (keyOf 0x6010 c.val) }) d
  (List.range 4).foldl (fun (d : Dev) i =>
    allChans.foldl (fun (d : Dev) c =>
      if d.setBlock i c = old.setBlock i c then d else { d with dict := d.dict.bumpGen (keyOf (0x6011 + i) c.val) }) d) blocks

/-- Step 2 of R24: the stops of fail limits, the Landing, the leases, the modes that locks held up, and M10. `idle` and `joiners` were judged on the
ending frame (R95, R351). -/
def State.landStep (s : State) (idle : Bool) (joiners : List Chan) : State :=
  let s1 := State.commitEdge { s with dev := allTenants.foldl (fun (d : Dev) t => d.limitStop t) s.dev } idle joiners
  { s1 with dev := ((((s1.dev.bumpBlocks s.dev).expireLocks).modeFalls).serviceEdge).reapplyWait }

/-! ### Steps 3 to 5 -/

/-- The records that wait for the first frame edge after Ready (R533, R541). -/
def Dev.bootRecords (d : Dev) : Dev :=
  let d1 := d.rst.bootFaults.foldl (fun (d : Dev) r => d.faultEvent r) d
  let d2 := d1.rst.notices.foldl (fun (d : Dev) n =>
    d.emitMgmt 0x0D 0x8000 d.now (noticePayload n.1 n.2 (d.rst.bringupTime % 2 ^ 32))) d1
  { d2 with rst := { d2.rst with bootFaults := [], notices := [] } }

/-- Step 4 of R24, after which the target of the Stairs is judged (R493). A device reset ends the edge. -/
def State.tahrStep (s : State) : State :=
  let s1 := s.resetEdge
  if s1.dev.rst.phase ≠ 8 then s1
  else let s2 := s1.stairEdge; { s2 with dev := s2.dev.stairEvaluate }

/-- The forced triggers written in the ending frame act at the first tick of the new one, on the state that the edge's
actions leave (R240). -/
def Dev.forceEdge (d : Dev) : Dev := allTenants.foldl (fun d t => d.forceTrigger t) d

/-- Paused transfers go on where the edge, or an exit, lets their functions issue requests again (R409, R434). -/
def Dev.resumeAll (d : Dev) : Dev := allTenants.foldl Dev.dmaResume d

/-- Step 5 of R24, which the records of forced triggers join; the balls show what the edge's actions have set, and paused
transfers go on. -/
def Dev.recordStep (d : Dev) : Dev := ((d.forceEdge.wokeRecord.bootRecords).flushEdge).showPins.resumeAll

/-- The actions of a frame edge in Stair 0; time stands at the edge. -/
def State.frameActions (s : State) : State :=
  let idle := s.dev.allIdle
  let joiners := allChans.filter s.dev.joinsNow
  let s1 := State.landStep (State.reactions { s with dev := s.dev.closeFrame }) idle joiners
  let s2 := State.tahrStep { s1 with dev := (s1.dev.loadBudgets.engineEdge).dcEdge }
  if s2.dev.rst.phase ≠ 8 then s2 else { s2 with dev := s2.dev.recordStep }

/-! ### The end of an exit (R501) -/

/-- What waited for the exit is served, in order. -/
def State.afterExit (s : State) : State :=
  State.serveHeldVdms (State.hostHeld { s with dev := s.dev.showPins.resumeAll })

/-- The frame edge that completes the handover, from Stair 3 or deeper; time stands at the edge. The exit is complete
(R501), and everything that fell due in frame 0 takes effect in the edge's own order (R24, R31). -/
def State.exitAtEdge (s : State) : State := s.exitStair.frameActions.afterExit

/-- Time runs to the next frame edge. -/
def State.toNextEdge (s : State) : State := s.runTicks s.dev.ticksLeft

/-- FRAME_EDGE. In bring-up and in Stairs 1 and 2 the time base alone acts; from Stair 3 or deeper the edge after the seed
ends the exit. With the fast clocks stopped there is no frame edge (R31). -/
def State.frameEdge (s : State) : State :=
  let d := s.dev
  if !d.tb.fast then s
  else
    let s1 := s.toNextEdge
    if d.rst.phase ≠ 8 then { s1 with dev := s1.dev.timeOnlyEdge }
    else if d.stairs.now = 0 then s1.frameActions
    else if d.stairs.now ≤ 2 then { s1 with dev := s1.dev.timeOnlyEdge }
    else s1.exitAtEdge

/-- STAIR_EXIT_COMPLETE (R501): where a wake has begun. -/
def State.exitComplete (s : State) : State :=
  let d := s.dev
  if d.stairs.waking.isNone || d.stairs.now = 0 then s
  else if d.stairs.now ≤ 2 then s.exitStair.afterExit
  else (State.toNextEdge { s with dev := d.handoverSeed }).exitAtEdge

/-! ### Time with no command waiting (notes/assumptions/5) -/

/-- One tick passes, or one microsecond of the always-on clock where the fast clocks are stopped; a tick that reaches a
frame edge brings its actions. -/
def State.tick (s : State) : State :=
  let d := s.dev
  if !d.tb.fast then let s1 := s.endTick; { s1 with dev := s1.dev.passAsleep 1 }
  else if d.ticksLeft = 1 then s.frameEdge
  else s.runTicks 1

/-! ### Counts that an edge or a millisecond ends -/

/-- AT_IDLE_TIMEOUT (R352): where the commit's last frame is the present one, its end is the frame edge. -/
def State.atIdleTimeout (s : State) (r : Req) : State :=
  if s.dev.dict.commits.any fun c => c.req == r && c.atIdle && decide (c.framesLeft ≤ 1) then s.frameEdge else s

/-- WATCHDOG_EXPIRED (R500, R516): the last millisecond of the count passes. -/
def Dev.watchdogExpired (d : Dev) : Dev :=
  let n := d.dict.cfg.nat 0x1605 0
  if n = 0 || d.rst.wdt + 1 ≠ n || d.rst.phase ≠ 8 || (d.stairs.now ≠ 0 && !bit (d.dict.cfg.nat 0x1502 0) 6) then d
  else
    let d1 := { d with rst := { d.rst with wdt := n }, fc := { d.fc with aliveToggling := false } }
    (if d.stairs.now ≠ 0 then d1.wake 6 else d1).raiseDev 113

/-! ### Meanings -/

/-- FRAME_EDGE (R24). -/
def execFrameEdge (s : State) : Host.Outcome State Fault Refusal := .next s.frameEdge

/-- AT_IDLE_TIMEOUT (R352). -/
def execAtIdleTimeout (r : Req) (s : State) : Host.Outcome State Fault Refusal := .next (s.atIdleTimeout r)

/-- STAIR_EXIT_COMPLETE (R501). -/
def execStairExitComplete (s : State) : Host.Outcome State Fault Refusal := .next s.exitComplete

/-- WATCHDOG_EXPIRED (R516). -/
def execWatchdogExpired (s : State) : Host.Outcome State Fault Refusal := .next (State.settle { s with dev := s.dev.watchdogExpired })

end Sys2Proof.Machine
end

