-- ==== Sys2Proof/Machine/Capture.lean ====
section
/-! DEFINITION. The meanings of the commands of fail capture, the Gallery, the trigger engine and acquisition (chapters 7
and 8). -/
namespace Sys2Proof.Machine

/-- Tenant t arms the line and has selected this direction (R239). -/
def Dev.trigInArmed (d : Dev) (line : Fin 4) (rising : Bool) (t : Tenant) : Bool :=
  let sel := bits (d.dict.cfg.trg t 8) (2 * line.val + 1) (2 * line.val)
  d.present t && bit (d.dict.cfg.trg t 7) line.val && (sel == 2 || (sel == 0 && rising) || (sel == 1 && !rising))

/-- An edge of a TRIG_IN line at one tenant that arms it (R239): the first selected edge of a tick goes to the trigger
stages, at its ball time less TRIG_IN_DELAY, and to the event inputs; a further one counts in TRIG_IN_EXCESS. -/
def Dev.trigInTenant (d : Dev) (line : Fin 4) (rising : Bool) (fine : Fin 8192) (t : Tenant) : Dev :=
  let a := vget d.acq t
  if !d.trigInArmed line rising t then d
  else if vget a.lineTick line = some d.tb.tick then
    d.modAcq t fun a => { a with trigInExcess := satAdd 32 a.trigInExcess 1 }
  else
    let d1 := d.modAcq t fun a => { a with lineTick := vmod a.lineTick line fun _ => some d.tb.tick }
    let pos := ((d1.fineNow + fine.val : Nat) : Int) - d1.dict.cfg.int 0x5180 line.val
    (d1.trigDeliver t (2 + line.val) pos.toNat).deliver t line.val fine.val

/-- TRIG_IN_EDGE: an edge at the ball, seen by every tenant that arms the line (R239); below Stair 0 it is a wake source
and reaches no tenant (R499); during bring-up it is ignored (Table RB-7). -/
def Dev.trigInEdge (d : Dev) (line : Fin 4) (rising : Bool) (fine : Fin 8192) : Dev :=
  if d.rst.phase ≠ 8 then d
  else
    let d1 := if allTenants.any (d.trigInArmed line rising) then d.wake 3 else d
    if d.stairs.now ≠ 0 then d1 else allTenants.foldl (fun d t => d.trigInTenant line rising fine t) d1

/-! ### Meanings -/

/-- COMPARE_RESULT (R205). -/
def execCompareResult (t : Tenant) (s : State) : Host.Outcome State Fault Refusal :=
  .next (s.atTick (s.dev.compareTick t) (·.compareResult t))

/-- COUNTER_FLUSH (R208). -/
def execCounterFlush (t : Tenant) (writes : Nat) (s : State) : Host.Outcome State Fault Refusal :=
  .next (s.counterFlush t writes)

/-- FAIL_COUNT_READ (R209, R210): the reader gets the status and the value. -/
def execFailCountRead (r : Req) (t : Tenant) (pin : Pin) (s : State) : Host.Outcome State Fault Refusal :=
  let (s1, st, v) := s.failCount t pin
  .next { s1 with dev := s1.dev.send (.itemValue r (0x5002 + 16 * t.val) pin.val st (natBE 8 v)) }

/-- TRIG_IN_EDGE (R239). -/
def execTrigInEdge (line : Fin 4) (rising : Bool) (fine : Fin 8192) (s : State) : Host.Outcome State Fault Refusal :=
  .next { s with dev := s.dev.trigInEdge line rising fine }

/-- TRIGGER_EVENT (R242). -/
def execTriggerEvent (t : Tenant) (stageB : Bool) (fine : Fin 8192) (slot : Fin 64) (s : State) :
    Host.Outcome State Fault Refusal :=
  .next { s with dev := s.dev.triggerEvent t stageB fine slot }

/-- PRETRIGGER_FULL (R243). -/
def execPretriggerFull (t : Tenant) (s : State) : Host.Outcome State Fault Refusal :=
  .next (s.atTick (if (vget s.dev.acq t).st = 1 then some (s.dev.armTickOf t - 1) else none) fun s =>
    { s with dev := s.dev.pretriggerFull t })

/-- TRIG_WINDOW_CLOSE (R241). -/
def execTrigWindowClose (t : Tenant) (s : State) : Host.Outcome State Fault Refusal :=
  .next (s.atTick (s.dev.windowTick t) fun s => { s with dev := s.dev.trigWindowClose t })

/-- SEGMENT_COMPLETE (R233). -/
def execSegmentComplete (t : Tenant) (s : State) : Host.Outcome State Fault Refusal :=
  .next (s.atTick (s.dev.segEnd t) (·.segmentComplete t))

end Sys2Proof.Machine
end

