-- ==== Sys2Proof/Machine/Engines.lean ====
section
/-! DEFINITION. The commands of the nine engines (chapter 6): one micro-word each. -/
namespace Sys2Proof.Machine

/-- An engine fetches and executes the micro-word at its micro-address (R175), one in a tick: where it has had that of the
present tick, the next tick begins. `cls` and `sys` are the class and SYS operation that the command's row names: a command
whose word is of another class, or whose engine has no clock, does nothing. -/
def State.microWord (s : State) (e : Engine) (f : MicroFetch) (cls : Nat) (sys : Option Nat) : State :=
  let had := fun (s : State) => (vget s.dev.micro.engines e).fetched == some s.dev.tb.tick
  if !s.dev.engineRuns e || !s.dev.microNamed e f cls sys then s
  else
    let s1 := if had s then s.closeTick else s
    if had s1 || !s1.dev.engineRuns e then s1 else { s1 with dev := s1.dev.micro1 e f }

/-! ### Meanings -/

/-- MICRO_SEQ (R179). -/
def execMicroSeq (e : Engine) (f : MicroFetch) (s : State) : Host.Outcome State Fault Refusal :=
  .next (s.microWord e f 0 none)

/-- MICRO_SAFE (R179). -/
def execMicroSafe (e : Engine) (f : MicroFetch) (s : State) : Host.Outcome State Fault Refusal :=
  .next (s.microWord e f 1 none)

/-- MICRO_BR (R179). -/
def execMicroBr (e : Engine) (f : MicroFetch) (s : State) : Host.Outcome State Fault Refusal :=
  .next (s.microWord e f 2 none)

/-- MICRO_JMP (R179). -/
def execMicroJmp (e : Engine) (f : MicroFetch) (s : State) : Host.Outcome State Fault Refusal :=
  .next (s.microWord e f 3 none)

/-- MICRO_CALL (R182). -/
def execMicroCall (e : Engine) (f : MicroFetch) (s : State) : Host.Outcome State Fault Refusal :=
  .next (s.microWord e f 4 none)

/-- MICRO_RET (R182). -/
def execMicroRet (e : Engine) (f : MicroFetch) (s : State) : Host.Outcome State Fault Refusal :=
  .next (s.microWord e f 5 none)

/-- MICRO_DISPATCH (R180). -/
def execMicroDispatch (e : Engine) (f : MicroFetch) (s : State) : Host.Outcome State Fault Refusal :=
  .next (s.microWord e f 6 none)

/-- SYS_STALL (R181). -/
def execSysStall (e : Engine) (f : MicroFetch) (s : State) : Host.Outcome State Fault Refusal :=
  .next (s.microWord e f 7 (some 0))

/-- SYS_RESUME (R188). -/
def execSysResume (e : Engine) (f : MicroFetch) (s : State) : Host.Outcome State Fault Refusal :=
  .next (s.microWord e f 7 (some 1))

/-- SELF_RESET (R181). -/
def execSelfReset (e : Engine) (f : MicroFetch) (s : State) : Host.Outcome State Fault Refusal :=
  .next (s.microWord e f 7 (some 2))

end Sys2Proof.Machine
end

