-- ==== Sys2Proof/Machine/Jtag.lean ====
section
/-! DEFINITION. The test port: the TAP's instructions and the boundary register (R582, R619-R622). -/
namespace Sys2Proof.Machine

/-- The links fail under an instruction that takes their pins, and raise FS-080, FS-081 and FS-083. -/
def Dev.linksFail (d : Dev) : Dev := ((d.linkDown 0).linkDown 1).pcieDown

/-- An instruction reaches Update-IR while the TAP is out of Test-Logic-Reset (R619): the pins follow it (Table PK-5). -/
def Dev.updateIr (d : Dev) (ir pins : Nat) : Dev :=
  let d1 := { d with jtag := { d.jtag with ir := ir, pins := pins } }.showPins
  if pins = 0 then d1 else d1.linksFail

/-- A boundary scan: the captured word is shifted out and the word shifted in enters the update latches (R621), from which the
outputs of an instruction that drives them take their levels (R622). -/
def Dev.scan (d : Dev) (shift capture : BitVec 271) : Dev :=
  ({ d with jtag := { d.jtag with boundary := shift } }.send (.jtag 0 capture.toNat)).showPins

/-- EXTEST, EXTEST_PULSE and EXTEST_TRAIN (R622): the pins are driven from the boundary register. -/
def Dev.extest (d : Dev) (ir : Nat) (shift capture : BitVec 271) : Dev :=
  if d.jtag.active then (d.updateIr ir 1).scan shift capture else d

/-- An instruction that selects the bypass register (R619), which reads 0. -/
def Dev.bypass (d : Dev) (ir pins : Nat) : Dev :=
  if d.jtag.active then (d.updateIr ir pins).send (.jtag 2 0) else d

/-- The identification register (R620). -/
def Dev.idcode (d : Dev) : Nat :=
  (d.fuses.stepping.toNat / 256 % 16) * 2 ^ 28 + 0x4852 * 2 ^ 12 + d.fuses.jtagMfr.toNat * 2 + 1

/-- The opcodes that Table PK-5 lists for an instruction other than BYPASS. -/
def listedIr : List Nat := [0x00, 0x01, 0x02, 0x04, 0x05, 0x08, 0x09]

/-! ### Meanings -/

/-- JTAG_ACTIVE (R582): FS-123 becomes active. -/
def execJtagActive (s : State) : Host.Outcome State Fault Refusal :=
  let d := { s.dev with jtag := { s.dev.jtag with active := true } }
  .next { s with dev := d.condRise 123 devScope 0 [] }

/-- TEST_LOGIC_RESET (R622): the functional pin states return, and FS-123 stops being active. -/
def execTestLogicReset (s : State) : Host.Outcome State Fault Refusal :=
  let d := { s.dev with jtag := { s.dev.jtag with active := false, ir := 0x01, pins := 0 } }
  .next { s with dev := (d.condFall 123 devScope).showPins }

/-- EXTEST (R622). -/
def execExtest (shift capture : BitVec 271) (s : State) : Host.Outcome State Fault Refusal :=
  .next { s with dev := s.dev.extest 0x00 shift capture }

/-- EXTEST_PULSE (R622). -/
def execExtestPulse (shift capture : BitVec 271) (s : State) : Host.Outcome State Fault Refusal :=
  .next { s with dev := s.dev.extest 0x08 shift capture }

/-- EXTEST_TRAIN (R622). -/
def execExtestTrain (shift capture : BitVec 271) (s : State) : Host.Outcome State Fault Refusal :=
  .next { s with dev := s.dev.extest 0x09 shift capture }

/-- SAMPLE_PRELOAD (R619, R622): the pins stay functional. -/
def execSamplePreload (shift capture : BitVec 271) (s : State) : Host.Outcome State Fault Refusal :=
  .next { s with dev := if s.dev.jtag.active then (s.dev.updateIr 0x02 0).scan shift capture else s.dev }

/-- IDCODE (R620). -/
def execIdcode (s : State) : Host.Outcome State Fault Refusal :=
  .next { s with dev := if s.dev.jtag.active then (s.dev.updateIr 0x01 0).send (.jtag 1 s.dev.idcode) else s.dev }

/-- CLAMP (R619): the pins hold the levels of the boundary register. -/
def execClamp (s : State) : Host.Outcome State Fault Refusal :=
  .next { s with dev := s.dev.bypass 0x04 2 }

/-- HIGHZ (R619): every output in Z. -/
def execHighz (s : State) : Host.Outcome State Fault Refusal :=
  .next { s with dev := s.dev.bypass 0x05 3 }

/-- BYPASS (R619), and every opcode that Table PK-5 does not list. -/
def execBypass (opcode : Fin 64) (s : State) : Host.Outcome State Fault Refusal :=
  .next { s with dev := if listedIr.contains opcode.val then s.dev else s.dev.bypass opcode.val 0 }

end Sys2Proof.Machine
end

