-- ==== Sys2Proof/Machine/Pattern.lean ====
section
/-! DEFINITION. The pattern instructions (Table PS-5) and the events of the sequencers: one meaning per row. Each
instruction names its sequencer and the fields MOD, A and B of the word that it fetched. -/
namespace Sys2Proof.Machine

/-! ### Shared shapes -/

/-- An instruction that may not stand in a MATCH-LOOP body. -/
def Dev.plain (d : Dev) (t : Tenant) (fieldsOk : Bool) (cost : Nat) (bad : Option Nat) (f : Dev → Dev) : Dev :=
  d.decode t false fieldsOk cost bad f

/-- Continue at a control address. -/
def Dev.goto (d : Dev) (t : Tenant) (pc : Nat) : Dev := d.modSeq t fun s => { s with pc := pc }

/-- The innermost loop count, or 0 (R149). -/
def Seq.loopCount (s : Seq) : Nat := match s.loops with | (_, n) :: _ => n | [] => 0

/-- The bits of A that are zero and the error of a selector naming TF or GF (R145, R160): OPERAND for another kind,
FLAG_RIGHT for a GF without its grant. -/
def Dev.selError (d : Dev) (t : Tenant) (sel : Nat) (ei : Bool) : Option Nat :=
  if selKind sel = 1 || (ei && selKind sel = 3) then none
  else if selKind sel = 2 then (if d.gfGrant t (selNum sel) then none else some 0x09)
  else some 0x03

/-- Counter n. -/
def Seq.counter (s : Seq) (n : Nat) : BitVec 32 := vget s.counters ⟨n % 8, by omega⟩

/-- Set counter n. -/
def Seq.setCounter (s : Seq) (n : Nat) (v : BitVec 32) : Seq :=
  { s with counters := vmod s.counters ⟨n % 8, by omega⟩ fun _ => v }

/-- An aligned effect is decoded (R148). -/
def Dev.align (d : Dev) (t : Tenant) (e : Aligned) : Dev := d.modSeq t fun s => { s with aligned := s.aligned ++ [e] }

/-! ### Vectors -/

/-- NEXT (R140, R146). -/
def State.seqNext (s : State) (t : Tenant) (mod a b : Nat) : Dev :=
  s.dev.issue s.mem t 1 b 1 (decide (mod = 0) && decide (a = 0)) none

/-- REPEAT (R146, R147). -/
def State.seqRepeat (s : State) (t : Tenant) (mod a b : Nat) : Dev :=
  s.dev.issue s.mem t a b 1 (decide (mod = 0)) (if a = 0 then some 0x03 else none)

/-- The first poisoned word of a RAW segment's data (R271). -/
def Dev.rawPoison (d : Dev) (t : Tenant) (w words : Nat) : Option Nat :=
  let s := d.seq t
  if s.streamLeft > 0 then d.recordPoison t 0 words
  else d.poisoned (fun i => d.areaAddr 0 t (s.dataOffset + 8 * w + i)) (8 * words)

/-- NEXT.RAW (R122-R124, R141, R142): a segment of `n` ticks from data word `w`, or from the ring. -/
def State.seqNextRaw (s : State) (t : Tenant) (mod n w : Nat) : Dev :=
  let d := s.dev
  let q := d.seq t
  let ring := decide (q.streamLeft > 0)
  let comparing := bit mod 1
  let words := n * (d.rawPins t q.tset).length * (if comparing then 3 else 1)
  let fieldsOk := only mod 3 && bit mod 0
  let hit := d.rawPoison t w words
  let waits := decide (q.fifoCount ≥ 64) || (ring && decide (d.ringLevel t < words))
  let bad :=
    if n = 0 then some 0x03
    else if !d.dict.cfg.tsEnabled t q.tset then some 0x08
    else if !ring && decide (w + words > q.dataWords) then some 0x04
    else if hit.isSome then some 0x11
    else none
  if q.decoding && fieldsOk && bad.isNone && waits then d
  else
    (d.fetchEcc t bad hit).decode t false fieldsOk 1 bad fun d1 =>
      let data := if ring then ((List.range words).map fun k =>
          leNat ((((d.ringBytesAt s.mem t k 1)).getD []))) else []
      let v : Vec := { raw := some (n, w, comparing, ring), rawData := data }
      ((d1.consumeStream t words).pushVec t v).credit t (n * finePerTick)

/-! ### Flow -/

/-- LOOP (R147). -/
def Dev.seqLoop (d : Dev) (t : Tenant) (mod a b : Nat) : Dev :=
  d.plain t (decide (mod = 0) && decide (a = 0)) 1
    (if b = 0 then some 0x03 else if (d.seq t).loops.length ≥ 8 then some 0x05 else none)
    fun d => d.modSeq t fun s => { s with loops := (s.pc, b) :: s.loops }

/-- ENDLOOP (R147). -/
def Dev.seqEndloop (d : Dev) (t : Tenant) (mod a b : Nat) : Dev :=
  d.plain t (decide (mod = 0) && decide (a = 0) && decide (b = 0)) 1
    (if (d.seq t).loops.isEmpty then some 0x05 else none)
    fun d => d.modSeq t fun s => match s.loops with
      | (pc, n) :: rest => if n ≤ 1 then { s with loops := rest } else { s with pc := pc, loops := (pc, n - 1) :: rest }
      | [] => s

/-- The condition of a JUMP (Table PS-7); a flag is judged at the end of the last tick (R161). -/
def Dev.jumpHolds (d : Dev) (t : Tenant) (mod a : Nat) : Bool :=
  let s := d.seq t
  match mod % 8 with
  | 0 => true
  | 1 => s.counter a == 0
  | 2 => s.counter a != 0
  | 3 => s.cond
  | 4 => !s.cond
  | 5 => d.flagWas (selFlag t a) (selNum a)
  | _ => !d.flagWas (selFlag t a) (selNum a)

/-- JUMP (R146, R147, R160, R161). Table PS-7 lists no condition 7: the model makes it error OPERAND (notes/assumptions/15). -/
def Dev.seqJump (d : Dev) (t : Tenant) (mod a b : Nat) : Dev :=
  let c := mod % 8
  let mask := if c = 1 || c = 2 then 7 else if c = 5 || c = 6 then selMask a else if c = 7 then 0xFFFF else 0
  let bad :=
    if c = 7 then some 0x03
    else
      let e := if c ≥ 5 then d.selError t a false else none
      if e.isSome then e
      else if d.jumpHolds t mod a && decide (b ≥ (d.seq t).ctrlWords) then some 0x04
      else none
  d.plain t (only mod 7 && only a mask) 2 bad fun d => if d.jumpHolds t mod a then d.goto t b else d

/-- CALL (R147). -/
def Dev.seqCall (d : Dev) (t : Tenant) (mod a b : Nat) : Dev :=
  d.plain t (decide (mod = 0) && decide (a = 0)) 2
    (if (d.seq t).calls.length ≥ 16 then some 0x06 else if b ≥ (d.seq t).ctrlWords then some 0x04 else none)
    fun d => d.modSeq t fun s => { s with calls := s.pc :: s.calls, pc := b }

/-- RET (R147). -/
def Dev.seqRet (d : Dev) (t : Tenant) (mod a b : Nat) : Dev :=
  d.plain t (decide (mod = 0) && decide (a = 0) && decide (b = 0)) 2
    (if (d.seq t).calls.isEmpty then some 0x06 else none)
    fun d => d.modSeq t fun s => match s.calls with
      | pc :: rest => { s with pc := pc, calls := rest }
      | [] => s

/-- MATCH-LOOP (R156): the passes begin; each ends by MATCH_PASS_END. -/
def Dev.seqMatchLoop (d : Dev) (t : Tenant) (mod a b : Nat) : Dev :=
  let len := a % 256
  let event := bit mod 0
  d.plain t (only mod 3 && only a (if event then 0x7FF else 0xFF)) 1
    (if len = 0 || len > 16 || b = 0 then some 0x03
     else if (d.seq t).pc + len ≥ (d.seq t).ctrlWords then some 0x04 else none)
    fun d => d.modSeq t fun s => { s with
      state := .matching
      matching := some { bodyPc := s.pc, len := len, passes := b, left := len, event := event, err := bit mod 1
                         input := bits a 10 8 } }

/-- WAIT (R146, R157, R160): it is judged at the end of the tick, and suspends issue where its condition does not hold then. -/
def Dev.seqWait (d : Dev) (t : Tenant) (mod a b : Nat) : Dev :=
  d.plain t (only mod 3 && only a (selMask a)) 1 (d.selError t a true)
    fun d => d.modSeq t fun s => { s with
      state := .waiting
      wait := some { sel := a, clear := bit mod 0, err := bit mod 1, timeout := b, since := d.tb.tick, fresh := true } }

/-! ### Flags, timing sets, marks and lines -/

/-- SIGNAL (R160, R161): MOD[1:0] 0 set, 1 clear, 2 toggle. -/
def Dev.seqSignal (d : Dev) (t : Tenant) (mod a b : Nat) : Dev :=
  let bad :=
    if mod % 4 = 3 then some 0x03
    else match d.selError t a false with
      | some e => some e
      | none => if selKind a = 2 && d.gfHolder (selNum a) != some (.tenant t) then some 0x09 else none
  d.plain t (only mod 7 && only a (selMask a) && decide (b = 0)) 1 bad
    fun d => if bit mod 2 then d.align t (.signal (mod % 4) a) else d.alignedEffect t d.fineNow (.signal (mod % 4) a)

/-- SETTSET (R126, R128, R147). -/
def Dev.seqSettset (d : Dev) (t : Tenant) (mod a b : Nat) : Dev :=
  d.plain t (decide (mod = 0) && decide (b = 0)) 1
    (if a > 63 then some 0x03 else if !d.dict.cfg.tsEnabled t a then some 0x08 else none)
    fun d => d.modSeq t fun s => { s with tset := a }

/-- MARK (R149). -/
def Dev.seqMark (d : Dev) (t : Tenant) (mod a b : Nat) : Dev :=
  d.plain t (decide (mod = 0) && decide (a = 0)) 1 none
    fun d => d.align t (.mark b (d.seq t).lastPc (d.seq t).loopCount)

/-- TRIGOUT (R150): MOD[1:0] 0 pulse, 1 high, 2 low. -/
def Dev.seqTrigout (d : Dev) (t : Tenant) (mod a b : Nat) : Dev :=
  let op := mod % 4
  let granted := [0, 1, 2, 3].all fun n => !bit a n || d.dict.cfg.trigGrant t n
  d.plain t (only mod 3 && only a 0x1F && (decide (op = 0) || decide (b = 0))) 1
    (if op = 3 || (op = 0 && (b = 0 || b > 65535)) then some 0x03 else if granted then none else some 0x0A)
    fun d => d.align t (.trigout op a b)

/-- QUIET-ON and QUIET-OFF (R129). -/
def Dev.seqQuiet (d : Dev) (t : Tenant) (on : Bool) (mod a b : Nat) : Dev :=
  d.plain t (decide (mod = 0) && decide (a = 0) && decide (b = 0)) 1 none
    fun d => d.align t (if on then .quietOn else .quietOff)

/-- STREAM (R142, R147). -/
def Dev.seqStream (d : Dev) (t : Tenant) (mod a b : Nat) : Dev :=
  d.plain t (only mod 1 && decide (a = 0)) 1 (if b = 0 then some 0x03 else none)
    fun d => d.modSeq t fun s => { s with streamLeft := b, streamGap := bit mod 0, gapRaised := false }

/-! ### Counters and scratch -/

/-- CNT (Table PS-8): MOD[2:0] 0 LDI, 1 ADDI, 2 SUBI, 3 MOV, 4 LDEV, 5 CLR. -/
def Dev.seqCnt (d : Dev) (t : Tenant) (mod a b : Nat) : Dev :=
  let op := mod % 8
  let mask := if op = 3 then 0x77 else if op = 4 then 0x707 else 7
  d.plain t (only mod 7 && only a mask && (decide (op ≤ 2) || decide (b = 0))) 1
    (if op > 5 then some 0x03 else none)
    fun d => d.modSeq t fun s =>
      let old := s.counter a
      s.setCounter a (match op with
        | 0 => BitVec.ofNat 32 b
        | 1 => old + BitVec.ofNat 32 b
        | 2 => old - BitVec.ofNat 32 b
        | 3 => s.counter (a / 16)
        | 4 => BitVec.ofNat 32 (vget s.ei ⟨bits a 10 8 % 8, by omega⟩).count
        | _ => 0)

/-- The bytes of a scratch access. -/
def accessSize (mod : Nat) : Nat := 2 ^ (mod % 4)

/-- The error of a scratch access (Table PS-6, R147). -/
def scratchError (mod a b : Nat) : Option Nat :=
  let n := accessSize mod
  if n = 8 && a % 8 = 7 then some 0x03
  else if b % n ≠ 0 || b + n > 0x1000 then some 0x0B
  else none

/-- LD (R146, R147, R165); a poisoned scratch word is error FETCH_ECC (R166, Table MA-2). -/
def Dev.seqLd (d : Dev) (t : Tenant) (mod a b : Nat) : Dev :=
  let n := accessSize mod
  let waits := (d.seq t).loadWaits b n
  let d0 := d.drainStores t waits
  let hit := d0.arb.poison.contains (scratchWord t b) && decide (lastOverlap b n (d0.seq t).stores = 0)
  let bad := (scratchError mod a b).orElse fun _ => if hit then some 0x11 else none
  (d.fetchEcc t bad (if hit then some (scratchWord t b) else none)).plain t (only mod 3 && only a 7) 5 bad
    fun d => (d.drainStores t waits).modSeq t fun s =>
      let v := leNat (s.load b n)
      let s1 := s.setCounter a (BitVec.ofNat 32 v)
      if n = 8 then s1.setCounter (a + 1) (BitVec.ofNat 32 (v / 2 ^ 32)) else s1

/-- ST (R146, R147, R164): a full store buffer drains its oldest entry first. -/
def Dev.seqSt (d : Dev) (t : Tenant) (mod a b : Nat) : Dev :=
  let n := accessSize mod
  d.plain t (only mod 3 && only a 7) 2 (scratchError mod a b)
    fun d => (if (d.seq t).stores.length ≥ 4 then d.drainStores t 1 else d).modSeq t fun s =>
      let lo := (s.counter a).toNat
      let v := if n = 8 then lo + (s.counter (a + 1)).toNat * 2 ^ 32 else lo
      { s with stores := s.stores ++ [{ addr := b, data := natLE n v }] }

/-! ### Suspension and the end -/

/-- SYNC (R151). The Ticks column of Table PS-5 gives only its suspension: one tick is charged, as for every instruction
(notes/assumptions/15). -/
def Dev.seqSync (d : Dev) (t : Tenant) (mod a b : Nat) : Dev :=
  d.plain t (only mod 1 && decide (a = 0) && decide (b = 0)) 1 none
    fun d => (d.modSeq t fun s => { s with state := .syncing, sync := some (bit mod 0) }).suspendEffects t

/-- HALT (R152), charged as SYNC. -/
def Dev.seqHaltI (d : Dev) (t : Tenant) (mod a b : Nat) : Dev :=
  d.plain t (decide (mod = 0) && decide (a = 0)) 1 none
    fun d => (d.modSeq t fun s => { s with halt := some b }).suspendEffects t

/-- ILLEGAL_OPCODE (R144): an opcode that Table PS-5 does not list. -/
def Dev.seqIllegal (d : Dev) (t : Tenant) (opcode : Nat) : Dev :=
  if 1 ≤ opcode % 256 ∧ opcode % 256 ≤ 0x15 then d else d.plain t true 0 (some 0x01) id

/-- STORE_BUFFER_DRAIN (R164): the oldest store reaches scratch. -/
def Dev.storeDrain (d : Dev) (t : Tenant) : Dev := d.drainStores t 1

/-- EVENT_INPUT (R162, R163): a source has an event. The edge of a line not live for the tenant is none (Table PS-9). -/
def Dev.eventInput (d : Dev) (t : Tenant) (source : Nat) (fine : Fin 8192) : Dev :=
  if source ≤ 3 && !bit (d.dict.cfg.nat (0x5101 + 0x10 * t.val) 7) source then d
  else if source ≤ 6 || (16 ≤ source && source ≤ 63) then d.deliver t source fine.val
  else d

/-! ### Instruction words (R144) -/

/-- The instruction that a control word spells (Tables PS-4 and PS-5). -/
def commandOf (t : Tenant) (w : Nat) : Instr :=
  let mod := bits w 55 48
  let a := bits w 47 32
  let b := bits w 31 0
  match bits w 63 56 with
  | 0x01 => if bit mod 0 then .nextRaw t mod a b else .next t mod a b
  | 0x02 => .repeatRec t mod a b
  | 0x03 => .loop t mod a b
  | 0x04 => .endloop t mod a b
  | 0x05 => .jump t mod a b
  | 0x06 => .call t mod a b
  | 0x07 => .ret t mod a b
  | 0x08 => .matchLoop t mod a b
  | 0x09 => .wait t mod a b
  | 0x0A => if mod % 4 = 1 then .signalClear t mod a b else if mod % 4 = 2 then .signalToggle t mod a b else .signalSet t mod a b
  | 0x0B => .settset t mod a b
  | 0x0C => .mark t mod a b
  | 0x0D => if mod % 4 = 1 then .trigoutHigh t mod a b else if mod % 4 = 2 then .trigoutLow t mod a b else .trigoutPulse t mod a b
  | 0x0E => .quietOn t mod a b
  | 0x0F => .quietOff t mod a b
  | 0x10 => .stream t mod a b
  | 0x11 =>
    match mod % 8 with
    | 1 => .cntAddi t mod a b
    | 2 => .cntSubi t mod a b
    | 3 => .cntMov t mod a b
    | 4 => .cntLdev t mod a b
    | 5 => .cntClr t mod a b
    | _ => .cntLdi t mod a b
  | 0x12 => .ld t mod a b
  | 0x13 => .st t mod a b
  | 0x14 => .sync t mod a b
  | 0x15 => .halt t mod a b
  | op => .illegalOpcode t op

/-- The control word of the fields of Table PS-4. -/
def ctrlWord (op mod a b : Nat) : Nat := op * 2 ^ 56 + mod * 2 ^ 48 + a * 2 ^ 32 + b

/-- The control word of a pattern instruction (Table PS-5), with its sequencer; none for another command. -/
def ctrlOf (i : Instr) : Option (Tenant × Nat) :=
  match i with
  | .next t mod a b | .nextRaw t mod a b => some (t, ctrlWord 0x01 mod a b)
  | .repeatRec t mod a b => some (t, ctrlWord 0x02 mod a b)
  | .loop t mod a b => some (t, ctrlWord 0x03 mod a b)
  | .endloop t mod a b => some (t, ctrlWord 0x04 mod a b)
  | .jump t mod a b => some (t, ctrlWord 0x05 mod a b)
  | .call t mod a b => some (t, ctrlWord 0x06 mod a b)
  | .ret t mod a b => some (t, ctrlWord 0x07 mod a b)
  | .matchLoop t mod a b => some (t, ctrlWord 0x08 mod a b)
  | .wait t mod a b => some (t, ctrlWord 0x09 mod a b)
  | .signalSet t mod a b | .signalClear t mod a b | .signalToggle t mod a b => some (t, ctrlWord 0x0A mod a b)
  | .settset t mod a b => some (t, ctrlWord 0x0B mod a b)
  | .mark t mod a b => some (t, ctrlWord 0x0C mod a b)
  | .trigoutPulse t mod a b | .trigoutHigh t mod a b | .trigoutLow t mod a b => some (t, ctrlWord 0x0D mod a b)
  | .quietOn t mod a b => some (t, ctrlWord 0x0E mod a b)
  | .quietOff t mod a b => some (t, ctrlWord 0x0F mod a b)
  | .stream t mod a b => some (t, ctrlWord 0x10 mod a b)
  | .cntLdi t mod a b | .cntAddi t mod a b | .cntSubi t mod a b | .cntMov t mod a b | .cntLdev t mod a b | .cntClr t mod a b =>
    some (t, ctrlWord 0x11 mod a b)
  | .ld t mod a b => some (t, ctrlWord 0x12 mod a b)
  | .st t mod a b => some (t, ctrlWord 0x13 mod a b)
  | .sync t mod a b => some (t, ctrlWord 0x14 mod a b)
  | .halt t mod a b => some (t, ctrlWord 0x15 mod a b)
  | .illegalOpcode t op => some (t, ctrlWord op 0 0 0)
  | _ => none

/-! ### Events of the sequencers -/

/-- The tick in which a SYNC or HALT in progress completes, once everything is drained (R151, R152). -/
def Dev.doneTick (d : Dev) (t : Tenant) : Option Nat :=
  let q := d.seq t
  if (q.sync.isSome || q.halt.isSome) && q.drained then some q.drainTick else none

/-- The tick in which the oldest entry of the FIFO starts. -/
def Dev.startTick (d : Dev) (t : Tenant) : Option Nat := (d.nextStart t).map (· / finePerTick)

/-- The tick in which a stalled sequencer's count reaches 4,096 (R168). -/
def Dev.deadlockTick (d : Dev) (t : Tenant) : Option Nat :=
  if d.stalled t then some (d.tb.tick + (4096 - (d.seq t).stall)) else none

/-- WAIT_MET (R157): a WAIT whose condition holds is met at the end of the tick. -/
def State.waitMet (s : State) (t : Tenant) : State :=
  match (s.dev.seq t).wait with
  | some w => if s.dev.waitHolds t w.sel then s.closeTick else s
  | none => s

/-! ### Meanings -/

/-- VECTOR_START (R106). -/
def execVectorStart (t : Tenant) (s : State) : Host.Outcome State Fault Refusal :=
  .next (s.atTick (s.dev.startTick t) (·.vectorStart t))

/-- NEXT (R146). -/
def execNext (t : Tenant) (mod a b : Nat) (s : State) : Host.Outcome State Fault Refusal :=
  .next { s with dev := s.seqNext t mod a b }

/-- NEXT_RAW (R141). -/
def execNextRaw (t : Tenant) (mod a b : Nat) (s : State) : Host.Outcome State Fault Refusal :=
  .next { s with dev := s.seqNextRaw t mod a b }

/-- REPEAT (R146). -/
def execRepeat (t : Tenant) (mod a b : Nat) (s : State) : Host.Outcome State Fault Refusal :=
  .next { s with dev := s.seqRepeat t mod a b }

/-- LOOP (R147). -/
def execLoop (t : Tenant) (mod a b : Nat) (s : State) : Host.Outcome State Fault Refusal :=
  .next { s with dev := s.dev.seqLoop t mod a b }

/-- ENDLOOP (R147). -/
def execEndloop (t : Tenant) (mod a b : Nat) (s : State) : Host.Outcome State Fault Refusal :=
  .next { s with dev := s.dev.seqEndloop t mod a b }

/-- JUMP (R161). -/
def execJump (t : Tenant) (mod a b : Nat) (s : State) : Host.Outcome State Fault Refusal :=
  .next { s with dev := s.dev.seqJump t mod a b }

/-- CALL (R147). -/
def execCall (t : Tenant) (mod a b : Nat) (s : State) : Host.Outcome State Fault Refusal :=
  .next { s with dev := s.dev.seqCall t mod a b }

/-- RET (R147). -/
def execRet (t : Tenant) (mod a b : Nat) (s : State) : Host.Outcome State Fault Refusal :=
  .next { s with dev := s.dev.seqRet t mod a b }

/-- MATCH_LOOP (R156). -/
def execMatchLoop (t : Tenant) (mod a b : Nat) (s : State) : Host.Outcome State Fault Refusal :=
  .next { s with dev := s.dev.seqMatchLoop t mod a b }

/-- MATCH_PASS_END (R156). -/
def execMatchPassEnd (t : Tenant) (s : State) : Host.Outcome State Fault Refusal :=
  .next (s.atTick (some ((s.dev.seq t).closed / finePerTick)) fun s => { s with dev := s.dev.matchPassEnd t })

/-- WAIT (R157). -/
def execWait (t : Tenant) (mod a b : Nat) (s : State) : Host.Outcome State Fault Refusal :=
  .next { s with dev := s.dev.seqWait t mod a b }

/-- WAIT_MET (R157). -/
def execWaitMet (t : Tenant) (s : State) : Host.Outcome State Fault Refusal := .next (s.waitMet t)

/-- WAIT_TIMEOUT (R157). -/
def execWaitTimeout (t : Tenant) (s : State) : Host.Outcome State Fault Refusal :=
  .next (s.atTick ((s.dev.seq t).wait.bind Wait.expiry) fun s => { s with dev := s.dev.waitTimeout t })

/-- SIGNAL_SET (R161). -/
def execSignalSet (t : Tenant) (mod a b : Nat) (s : State) : Host.Outcome State Fault Refusal :=
  .next { s with dev := s.dev.seqSignal t mod a b }

/-- SIGNAL_CLEAR (R161). -/
def execSignalClear (t : Tenant) (mod a b : Nat) (s : State) : Host.Outcome State Fault Refusal :=
  .next { s with dev := s.dev.seqSignal t mod a b }

/-- SIGNAL_TOGGLE (R161). -/
def execSignalToggle (t : Tenant) (mod a b : Nat) (s : State) : Host.Outcome State Fault Refusal :=
  .next { s with dev := s.dev.seqSignal t mod a b }

/-- SETTSET (R126). -/
def execSettset (t : Tenant) (mod a b : Nat) (s : State) : Host.Outcome State Fault Refusal :=
  .next { s with dev := s.dev.seqSettset t mod a b }

/-- MARK (R149). -/
def execMark (t : Tenant) (mod a b : Nat) (s : State) : Host.Outcome State Fault Refusal :=
  .next { s with dev := s.dev.seqMark t mod a b }

/-- TRIGOUT_PULSE (R150). -/
def execTrigoutPulse (t : Tenant) (mod a b : Nat) (s : State) : Host.Outcome State Fault Refusal :=
  .next { s with dev := s.dev.seqTrigout t mod a b }

/-- TRIGOUT_HIGH (R150). -/
def execTrigoutHigh (t : Tenant) (mod a b : Nat) (s : State) : Host.Outcome State Fault Refusal :=
  .next { s with dev := s.dev.seqTrigout t mod a b }

/-- TRIGOUT_LOW (R150). -/
def execTrigoutLow (t : Tenant) (mod a b : Nat) (s : State) : Host.Outcome State Fault Refusal :=
  .next { s with dev := s.dev.seqTrigout t mod a b }

/-- TRIGOUT_PULSE_END (R261). -/
def execTrigoutPulseEnd (line : Fin 4) (acq : Bool) (s : State) : Host.Outcome State Fault Refusal :=
  .next (s.atTick (s.dev.pulseEnd line acq) fun s => { s with dev := s.dev.trigoutPulseEnd line acq })

/-- QUIET_ON (R129). -/
def execQuietOn (t : Tenant) (mod a b : Nat) (s : State) : Host.Outcome State Fault Refusal :=
  .next { s with dev := s.dev.seqQuiet t true mod a b }

/-- QUIET_OFF (R129). -/
def execQuietOff (t : Tenant) (mod a b : Nat) (s : State) : Host.Outcome State Fault Refusal :=
  .next { s with dev := s.dev.seqQuiet t false mod a b }

/-- STREAM (R142). -/
def execStream (t : Tenant) (mod a b : Nat) (s : State) : Host.Outcome State Fault Refusal :=
  .next { s with dev := s.dev.seqStream t mod a b }

/-- STREAM_GAP (R143). -/
def execStreamGap (t : Tenant) (mod n : Nat) (s : State) : Host.Outcome State Fault Refusal :=
  .next { s with dev := s.dev.streamGap s.mem t mod n }

/-- CNT_LDI (R154). -/
def execCntLdi (t : Tenant) (mod a b : Nat) (s : State) : Host.Outcome State Fault Refusal :=
  .next { s with dev := s.dev.seqCnt t mod a b }

/-- CNT_ADDI (R154). -/
def execCntAddi (t : Tenant) (mod a b : Nat) (s : State) : Host.Outcome State Fault Refusal :=
  .next { s with dev := s.dev.seqCnt t mod a b }

/-- CNT_SUBI (R154). -/
def execCntSubi (t : Tenant) (mod a b : Nat) (s : State) : Host.Outcome State Fault Refusal :=
  .next { s with dev := s.dev.seqCnt t mod a b }

/-- CNT_MOV (R154). -/
def execCntMov (t : Tenant) (mod a b : Nat) (s : State) : Host.Outcome State Fault Refusal :=
  .next { s with dev := s.dev.seqCnt t mod a b }

/-- CNT_LDEV (R154). -/
def execCntLdev (t : Tenant) (mod a b : Nat) (s : State) : Host.Outcome State Fault Refusal :=
  .next { s with dev := s.dev.seqCnt t mod a b }

/-- CNT_CLR (R154). -/
def execCntClr (t : Tenant) (mod a b : Nat) (s : State) : Host.Outcome State Fault Refusal :=
  .next { s with dev := s.dev.seqCnt t mod a b }

/-- LD (R165). -/
def execLd (t : Tenant) (mod a b : Nat) (s : State) : Host.Outcome State Fault Refusal :=
  .next { s with dev := s.dev.seqLd t mod a b }

/-- ST (R164). -/
def execSt (t : Tenant) (mod a b : Nat) (s : State) : Host.Outcome State Fault Refusal :=
  .next { s with dev := s.dev.seqSt t mod a b }

/-- STORE_BUFFER_DRAIN (R164). -/
def execStoreBufferDrain (t : Tenant) (s : State) : Host.Outcome State Fault Refusal :=
  .next { s with dev := s.dev.storeDrain t }

/-- SYNC (R151). -/
def execSync (t : Tenant) (mod a b : Nat) (s : State) : Host.Outcome State Fault Refusal :=
  .next { s with dev := s.dev.seqSync t mod a b }

/-- SYNC_COMPLETE (R151). -/
def execSyncComplete (t : Tenant) (s : State) : Host.Outcome State Fault Refusal :=
  .next (s.atTick (s.dev.doneTick t) fun s => { s with dev := s.dev.syncComplete t })

/-- HALT (R152). -/
def execHalt (t : Tenant) (mod a b : Nat) (s : State) : Host.Outcome State Fault Refusal :=
  .next { s with dev := s.dev.seqHaltI t mod a b }

/-- HALT_COMPLETE (R152). -/
def execHaltComplete (t : Tenant) (s : State) : Host.Outcome State Fault Refusal :=
  .next (s.atTick (s.dev.doneTick t) fun s => { s with dev := s.dev.haltComplete t })

/-- EVENT_INPUT (R163). -/
def execEventInput (t : Tenant) (source : Nat) (fine : Fin 8192) (s : State) : Host.Outcome State Fault Refusal :=
  .next { s with dev := s.dev.eventInput t source fine }

/-- SEQ_DEADLOCK (R168). -/
def execSeqDeadlock (t : Tenant) (s : State) : Host.Outcome State Fault Refusal :=
  .next (s.atTick (s.dev.deadlockTick t) fun s => { s with dev := s.dev.seqDeadlock t })

/-- ILLEGAL_OPCODE (R144). -/
def execIllegalOpcode (t : Tenant) (opcode : Nat) (s : State) : Host.Outcome State Fault Refusal :=
  .next { s with dev := s.dev.seqIllegal t opcode }

end Sys2Proof.Machine
end

