-- ==== Sys2Proof/Machine/Dispatch.lean ====
section
/-! DEFINITION. The dispatch: one arm per command, each one direct call of its meaning. -/
namespace Sys2Proof.Machine

/-- The effect of a command on everything but the queue. -/
def exec (i : Instr) (s : State) : Host.Outcome State Fault Refusal :=
  match i with
  | .frameEdge => Sys2Proof.Machine.execFrameEdge s
  | .atIdleTimeout r => Sys2Proof.Machine.execAtIdleTimeout r s
  | .refinCount edges pllLock => Sys2Proof.Machine.execRefinCount edges pllLock s
  | .refinLoss => Sys2Proof.Machine.execRefinLoss s
  | .corePllUnlock => Sys2Proof.Machine.execCorePllUnlock s
  | .esmcMessage port ql => Sys2Proof.Machine.execEsmcMessage port ql s
  | .synceQualify => Sys2Proof.Machine.execSynceQualify s
  | .synceLoss => Sys2Proof.Machine.execSynceLoss s
  | .ppsPulse fine widthNs => Sys2Proof.Machine.execPpsPulse fine widthNs s
  | .ppsLoss => Sys2Proof.Machine.execPpsLoss s
  | .ptpMessage port transport domain m => Sys2Proof.Machine.execPtpMessage port transport domain m s
  | .ptpLoss => Sys2Proof.Machine.execPtpLoss s
  | .holdoverExpired => Sys2Proof.Machine.execHoldoverExpired s
  | .uncertaintyRecompute => Sys2Proof.Machine.execUncertaintyRecompute s
  | .todSet r v => Sys2Proof.Machine.execTodSet r v s
  | .handoverSeed => Sys2Proof.Machine.execHandoverSeed s
  | .handoverCorrection first second => Sys2Proof.Machine.execHandoverCorrection first second s
  | .alarmFired owner which => Sys2Proof.Machine.execAlarmFired owner which s
  | .alarmWake owner which => Sys2Proof.Machine.execAlarmWake owner which s
  | .comparatorCrossing ch slot high inputs fineCodeOk => Sys2Proof.Machine.execComparatorCrossing ch slot high inputs fineCodeOk s
  | .drvOverload ch ticks => Sys2Proof.Machine.execDrvOverload ch ticks s
  | .swingMonitor ch realised => Sys2Proof.Machine.execSwingMonitor ch realised s
  | .rxOvervoltage ch => Sys2Proof.Machine.execRxOvervoltage ch s
  | .vrefRange => Sys2Proof.Machine.execVrefRange s
  | .rxInconsistent ch => Sys2Proof.Machine.execRxInconsistent ch s
  | .lanePllUnlock pll => Sys2Proof.Machine.execLanePllUnlock pll s
  | .chRetire r ch v => Sys2Proof.Machine.execChRetire r ch v s
  | .chReadmit r ch v => Sys2Proof.Machine.execChReadmit r ch v s
  | .recalAccepted ch block => Sys2Proof.Machine.execRecalAccepted ch block s
  | .readmitTimeout ch => Sys2Proof.Machine.execReadmitTimeout ch s
  | .vectorStart t => Sys2Proof.Machine.execVectorStart t s
  | .compareResult t => Sys2Proof.Machine.execCompareResult t s
  | .counterFlush t writes => Sys2Proof.Machine.execCounterFlush t writes s
  | .failCountRead r t pin => Sys2Proof.Machine.execFailCountRead r t pin s
  | .next t mod a b => Sys2Proof.Machine.execNext t mod a b s
  | .nextRaw t mod a b => Sys2Proof.Machine.execNextRaw t mod a b s
  | .repeatRec t mod a b => Sys2Proof.Machine.execRepeat t mod a b s
  | .loop t mod a b => Sys2Proof.Machine.execLoop t mod a b s
  | .endloop t mod a b => Sys2Proof.Machine.execEndloop t mod a b s
  | .jump t mod a b => Sys2Proof.Machine.execJump t mod a b s
  | .call t mod a b => Sys2Proof.Machine.execCall t mod a b s
  | .ret t mod a b => Sys2Proof.Machine.execRet t mod a b s
  | .matchLoop t mod a b => Sys2Proof.Machine.execMatchLoop t mod a b s
  | .matchPassEnd t => Sys2Proof.Machine.execMatchPassEnd t s
  | .wait t mod a b => Sys2Proof.Machine.execWait t mod a b s
  | .waitMet t => Sys2Proof.Machine.execWaitMet t s
  | .waitTimeout t => Sys2Proof.Machine.execWaitTimeout t s
  | .signalSet t mod a b => Sys2Proof.Machine.execSignalSet t mod a b s
  | .signalClear t mod a b => Sys2Proof.Machine.execSignalClear t mod a b s
  | .signalToggle t mod a b => Sys2Proof.Machine.execSignalToggle t mod a b s
  | .settset t mod a b => Sys2Proof.Machine.execSettset t mod a b s
  | .mark t mod a b => Sys2Proof.Machine.execMark t mod a b s
  | .trigoutPulse t mod a b => Sys2Proof.Machine.execTrigoutPulse t mod a b s
  | .trigoutHigh t mod a b => Sys2Proof.Machine.execTrigoutHigh t mod a b s
  | .trigoutLow t mod a b => Sys2Proof.Machine.execTrigoutLow t mod a b s
  | .trigoutPulseEnd line acq => Sys2Proof.Machine.execTrigoutPulseEnd line acq s
  | .quietOn t mod a b => Sys2Proof.Machine.execQuietOn t mod a b s
  | .quietOff t mod a b => Sys2Proof.Machine.execQuietOff t mod a b s
  | .stream t mod a b => Sys2Proof.Machine.execStream t mod a b s
  | .streamGap t n raw => Sys2Proof.Machine.execStreamGap t n raw s
  | .cntLdi t mod a b => Sys2Proof.Machine.execCntLdi t mod a b s
  | .cntAddi t mod a b => Sys2Proof.Machine.execCntAddi t mod a b s
  | .cntSubi t mod a b => Sys2Proof.Machine.execCntSubi t mod a b s
  | .cntMov t mod a b => Sys2Proof.Machine.execCntMov t mod a b s
  | .cntLdev t mod a b => Sys2Proof.Machine.execCntLdev t mod a b s
  | .cntClr t mod a b => Sys2Proof.Machine.execCntClr t mod a b s
  | .ld t mod a b => Sys2Proof.Machine.execLd t mod a b s
  | .st t mod a b => Sys2Proof.Machine.execSt t mod a b s
  | .storeBufferDrain t => Sys2Proof.Machine.execStoreBufferDrain t s
  | .sync t mod a b => Sys2Proof.Machine.execSync t mod a b s
  | .syncComplete t => Sys2Proof.Machine.execSyncComplete t s
  | .halt t mod a b => Sys2Proof.Machine.execHalt t mod a b s
  | .haltComplete t => Sys2Proof.Machine.execHaltComplete t s
  | .eventInput t source fine => Sys2Proof.Machine.execEventInput t source fine s
  | .seqDeadlock t => Sys2Proof.Machine.execSeqDeadlock t s
  | .tfSet r t v => Sys2Proof.Machine.execTfSet r t v s
  | .tfClear r t v => Sys2Proof.Machine.execTfClear r t v s
  | .gfSet r t v => Sys2Proof.Machine.execGfSet r t v s
  | .gfClear r t v => Sys2Proof.Machine.execGfClear r t v s
  | .eiInject r t input v => Sys2Proof.Machine.execEiInject r t input v s
  | .microSeq e f => Sys2Proof.Machine.execMicroSeq e f s
  | .microSafe e f => Sys2Proof.Machine.execMicroSafe e f s
  | .microBr e f => Sys2Proof.Machine.execMicroBr e f s
  | .microJmp e f => Sys2Proof.Machine.execMicroJmp e f s
  | .microCall e f => Sys2Proof.Machine.execMicroCall e f s
  | .microRet e f => Sys2Proof.Machine.execMicroRet e f s
  | .microDispatch e f => Sys2Proof.Machine.execMicroDispatch e f s
  | .sysStall e f => Sys2Proof.Machine.execSysStall e f s
  | .sysResume e f => Sys2Proof.Machine.execSysResume e f s
  | .selfReset e f => Sys2Proof.Machine.execSelfReset e f s
  | .engineReset r e v => Sys2Proof.Machine.execEngineReset r e v s
  | .trigInEdge line rising fine => Sys2Proof.Machine.execTrigInEdge line rising fine s
  | .triggerEvent t stageB fine slot => Sys2Proof.Machine.execTriggerEvent t stageB fine slot s
  | .pretriggerFull t => Sys2Proof.Machine.execPretriggerFull t s
  | .trigWindowClose t => Sys2Proof.Machine.execTrigWindowClose t s
  | .acqForce r t v => Sys2Proof.Machine.execAcqForce r t v s
  | .segmentComplete t => Sys2Proof.Machine.execSegmentComplete t s
  | .scrubRow bank corrected uncorrectable => Sys2Proof.Machine.execScrubRow bank corrected uncorrectable s
  | .eccWriteback bank => Sys2Proof.Machine.execEccWriteback bank s
  | .scrubLate bank => Sys2Proof.Machine.execScrubLate bank s
  | .quietOverrun t => Sys2Proof.Machine.execQuietOverrun t s
  | .budgetBreach cls bank shortfall lost => Sys2Proof.Machine.execBudgetBreach cls bank shortfall lost s
  | .calReqSelfCal r v => Sys2Proof.Machine.execCalReqSelfCal r v s
  | .calReqRefTransfer r v => Sys2Proof.Machine.execCalReqRefTransfer r v s
  | .calReqAbort r v => Sys2Proof.Machine.execCalReqAbort r v s
  | .calAttempt m => Sys2Proof.Machine.execCalAttempt m s
  | .refedgeFail => Sys2Proof.Machine.execRefedgeFail s
  | .sensorRead milliC diff => Sys2Proof.Machine.execSensorRead milliC diff s
  | .reapplyComputed => Sys2Proof.Machine.execReapplyComputed s
  | .calReapplyLate => Sys2Proof.Machine.execCalReapplyLate s
  | .calDue => Sys2Proof.Machine.execCalDue s
  | .saveSets r v => Sys2Proof.Machine.execSaveSets r v s
  | .restoreLab r v => Sys2Proof.Machine.execRestoreLab r v s
  | .restoreFactory r v => Sys2Proof.Machine.execRestoreFactory r v s
  | .writeTrace r v => Sys2Proof.Machine.execWriteTrace r v s
  | .nvWritePulse first second => Sys2Proof.Machine.execNvWritePulse first second s
  | .lifetimeHour counter => Sys2Proof.Machine.execLifetimeHour counter s
  | .read via => Sys2Proof.Machine.execRead via s
  | .write via => Sys2Proof.Machine.execWrite via s
  | .readBlock via => Sys2Proof.Machine.execReadBlock via s
  | .writeBlock via => Sys2Proof.Machine.execWriteBlock via s
  | .snapshot via => Sys2Proof.Machine.execSnapshot via s
  | .commitNext via => Sys2Proof.Machine.execCommitNext via s
  | .commitAtIdle via => Sys2Proof.Machine.execCommitAtIdle via s
  | .lock via => Sys2Proof.Machine.execLock via s
  | .unlock via => Sys2Proof.Machine.execUnlock via s
  | .tenantReset f => Sys2Proof.Machine.execTenantReset f s
  | .deviceReset f => Sys2Proof.Machine.execDeviceReset f s
  | .ping f => Sys2Proof.Machine.execPing f s
  | .heldFrame => Sys2Proof.Machine.execHeldFrame s
  | .odpKey t offset total data => Sys2Proof.Machine.execOdpKey t offset total data s
  | .linkUp port rate => Sys2Proof.Machine.execLinkUp port rate s
  | .linkDown port => Sys2Proof.Machine.execLinkDown port s
  | .rateTryTimeout port => Sys2Proof.Machine.execRateTryTimeout port s
  | .arpRequest port target sender isReply => Sys2Proof.Machine.execArpRequest port target sender isReply s
  | .neighborDiscovery port target => Sys2Proof.Machine.execNeighborDiscovery port target s
  | .echoRequest port v6 dest data => Sys2Proof.Machine.execEchoRequest port v6 dest data s
  | .dadComplete port duplicate => Sys2Proof.Machine.execDadComplete port duplicate s
  | .bar2Write t offset data isRead => Sys2Proof.Machine.execBar2Write t offset data isRead s
  | .stagingWrite t => Sys2Proof.Machine.execStagingWrite t s
  | .ringProd t v => Sys2Proof.Machine.execRingProd t v s
  | .eventDoorbell t => Sys2Proof.Machine.execEventDoorbell t s
  | .evqHead t n v => Sys2Proof.Machine.execEvqHead t n v s
  | .dmaProd t v => Sys2Proof.Machine.execDmaProd t v s
  | .timeSnap t => Sys2Proof.Machine.execTimeSnap t s
  | .bar0Write t offset size v isRead => Sys2Proof.Machine.execBar0Write t offset size v isRead s
  | .dmaDescriptor t => Sys2Proof.Machine.execDmaDescriptor t s
  | .downloadCompletion t status data => Sys2Proof.Machine.execDownloadCompletion t status data s
  | .completionTimeout t => Sys2Proof.Machine.execCompletionTimeout t s
  | .dmaDone t => Sys2Proof.Machine.execDmaDone t s
  | .eventWrite t => Sys2Proof.Machine.execEventWrite t s
  | .msixUnmask t vector => Sys2Proof.Machine.execMsixUnmask t vector s
  | .busMasterEnable t on => Sys2Proof.Machine.execBusMasterEnable t on s
  | .configRequest t q => Sys2Proof.Machine.execConfigRequest t q s
  | .flr t => Sys2Proof.Machine.execFlr t s
  | .hotReset => Sys2Proof.Machine.execHotReset s
  | .l1Exit => Sys2Proof.Machine.execL1Exit s
  | .leaseWarning lock => Sys2Proof.Machine.execLeaseWarning lock s
  | .leaseExpiry lock => Sys2Proof.Machine.execLeaseExpiry lock s
  | .getEvents m ackValid => Sys2Proof.Machine.execGetEvents m ackValid s
  | .mctpResetDevice m => Sys2Proof.Machine.execMctpResetDevice m s
  | .mctpResetTenant m => Sys2Proof.Machine.execMctpResetTenant m s
  | .mctpResetBlock m => Sys2Proof.Machine.execMctpResetBlock m s
  | .mctpResetEndpoint m => Sys2Proof.Machine.execMctpResetEndpoint m s
  | .setEndpointId tag op eid => Sys2Proof.Machine.execSetEndpointId tag op eid s
  | .getEndpointId tag => Sys2Proof.Machine.execGetEndpointId tag s
  | .getMctpVersionSupport tag msgType => Sys2Proof.Machine.execGetMctpVersionSupport tag msgType s
  | .getMessageTypeSupport tag => Sys2Proof.Machine.execGetMessageTypeSupport tag s
  | .getVendorDefinedMessageSupport tag selector => Sys2Proof.Machine.execGetVendorDefinedMessageSupport tag selector s
  | .getTid tag => Sys2Proof.Machine.execGetTid tag s
  | .getPldmVersion tag pldmType => Sys2Proof.Machine.execGetPldmVersion tag pldmType s
  | .getPldmTypes tag => Sys2Proof.Machine.execGetPldmTypes tag s
  | .getPldmCommands tag pldmType => Sys2Proof.Machine.execGetPldmCommands tag pldmType s
  | .getSensorReading tag sensor => Sys2Proof.Machine.execGetSensorReading tag sensor s
  | .getStateSensorReadings tag sensor => Sys2Proof.Machine.execGetStateSensorReadings tag sensor s
  | .getPdr tag handle => Sys2Proof.Machine.execGetPdr tag handle s
  | .serviceReqEnter r v => Sys2Proof.Machine.execServiceReqEnter r v s
  | .serviceReqLeave r v => Sys2Proof.Machine.execServiceReqLeave r v s
  | .dcConversionStart => Sys2Proof.Machine.execDcConversionStart s
  | .dcConversionDone nanovolts => Sys2Proof.Machine.execDcConversionDone nanovolts s
  | .stairReq r v => Sys2Proof.Machine.execStairReq r v s
  | .stairWake cause => Sys2Proof.Machine.execStairWake cause s
  | .stairExitComplete => Sys2Proof.Machine.execStairExitComplete s
  | .stairExitLate => Sys2Proof.Machine.execStairExitLate s
  | .dwellEnd => Sys2Proof.Machine.execDwellEnd s
  | .heaterUpdate milliC diff hottest vhtrMv power => Sys2Proof.Machine.execHeaterUpdate milliC diff hottest vhtrMv power s
  | .warmingDone => Sys2Proof.Machine.execWarmingDone s
  | .heaterLimit => Sys2Proof.Machine.execHeaterLimit s
  | .heaterClear => Sys2Proof.Machine.execHeaterClear s
  | .powerOn => Sys2Proof.Machine.execPowerOn s
  | .resetN => Sys2Proof.Machine.execResetN s
  | .pwrgdLow => Sys2Proof.Machine.execPwrgdLow s
  | .nvPulseEnd => Sys2Proof.Machine.execNvPulseEnd s
  | .watchdogExpired => Sys2Proof.Machine.execWatchdogExpired s
  | .watchdogKick r v => Sys2Proof.Machine.execWatchdogKick r v s
  | .watchdogTimeout r v => Sys2Proof.Machine.execWatchdogTimeout r v s
  | .blockReset r code v => Sys2Proof.Machine.execBlockReset r code v s
  | .bringup env => Sys2Proof.Machine.execBringup env s
  | .flashUpdate r offset total data => Sys2Proof.Machine.execFlashUpdate r offset total data s
  | .flashWriteTimeout => Sys2Proof.Machine.execFlashWriteTimeout s
  | .faultCondition src res => Sys2Proof.Machine.execFaultCondition src res s
  | .brokenPair src => Sys2Proof.Machine.execBrokenPair src s
  | .pairRestored src => Sys2Proof.Machine.execPairRestored src s
  | .faultForce r k v => Sys2Proof.Machine.execFaultForce r k v s
  | .fcClear r v => Sys2Proof.Machine.execFcClear r v s
  | .fcClearAll r => Sys2Proof.Machine.execFcClearAll r s
  | .aliveToggle => Sys2Proof.Machine.execAliveToggle s
  | .jtagActive => Sys2Proof.Machine.execJtagActive s
  | .extest shift capture => Sys2Proof.Machine.execExtest shift capture s
  | .idcode => Sys2Proof.Machine.execIdcode s
  | .samplePreload shift capture => Sys2Proof.Machine.execSamplePreload shift capture s
  | .clamp => Sys2Proof.Machine.execClamp s
  | .highz => Sys2Proof.Machine.execHighz s
  | .extestPulse shift capture => Sys2Proof.Machine.execExtestPulse shift capture s
  | .extestTrain shift capture => Sys2Proof.Machine.execExtestTrain shift capture s
  | .bypass opcode => Sys2Proof.Machine.execBypass opcode s
  | .illegalOpcode t opcode => Sys2Proof.Machine.execIllegalOpcode t opcode s
  | .unknownOpcode opcode f => Sys2Proof.Machine.execUnknownOpcode opcode f s
  | .mctpUnsupportedCommand tag msgType command => Sys2Proof.Machine.execMctpUnsupportedCommand tag msgType command s
  | .smbusPecFail => Sys2Proof.Machine.execSmbusPecFail s
  | .ptpMessageTransmit kind => Sys2Proof.Machine.execPtpMessageTransmit kind s
  | .pcieLinkReachesL0 rate width => Sys2Proof.Machine.execPcieLinkReachesL0 rate width s
  | .wakeNTimeout => Sys2Proof.Machine.execWakeNTimeout s
  | .testLogicReset => Sys2Proof.Machine.execTestLogicReset s
  | .faultConditionFalls src res => Sys2Proof.Machine.execFaultConditionFalls src res s

end Sys2Proof.Machine
end

