-- ==== Sys2Proof/WellFormed.lean ====
section
/-! DEFINITION. Well-formed commands: the operands have the widths that the spec's formats give them (Tables NP-4, PS-4,
TM-5, R147, R337), and a command that is one code of an entry carries that code. -/
namespace Sys2Proof

/-- An unsigned field of `n` bits. -/
def fits (v n : Nat) : Bool := decide (v < 2 ^ n)

/-- A value of `n` bytes. -/
def hasLen (v : Bytes) (n : Nat) : Bool := v.length == n

/-- The first byte of a value. -/
def leads (v : Bytes) (n : Nat) : Bool := v.head? == some (BitVec.ofNat 8 n)

/-- The header fields of Table NP-4. -/
def Frame.wf (f : Frame) : Bool :=
  fits f.version 8 && fits f.flags 8 && fits f.tenant 8 && fits f.credential 64 && fits f.session 16 && fits f.itemCount 16 && fits f.sequence 32
    && fits f.status 8 && fits f.detail 8 && fits f.reserved 16

/-- The fields of Table TM-5. -/
def Vdm.wf (m : Vdm) : Bool := fits m.tag 3 && fits m.iana 32 && fits m.reserved 32 && fits m.count 16

/-- A request of either plane. -/
def Via.wf : Via → Bool
  | .odp f => f.wf
  | .smbus m => m.wf

/-- The item area of a request. -/
def Via.area : Via → Bytes
  | .odp f => f.area
  | .smbus m => m.area

/-- The fields of an Announce (IEEE 1588). -/
def PtpMsg.wf : PtpMsg → Bool
  | .unsupported => true
  | .announce gm steps utc _ st => fits gm 64 && fits steps 16 && decide (-32768 ≤ utc ∧ utc ≤ 32767) && decide (1 ≤ st ∧ st ≤ 9)
  | .sync _ _ => true

/-- The fields of a control word (Table PS-4), as the prefetch buffer offers them, the 32 conditions and the check. -/
def MicroFetch.wf (f : MicroFetch) : Bool := decide (f.ecc ≤ 2)

/-- The operands of a command have their widths. -/
def Instr.wf : Instr → Bool
  | .frameEdge => true
  | .atIdleTimeout _ => true
  | .refinCount _ _ => true
  | .refinLoss => true
  | .corePllUnlock => true
  | .esmcMessage _ ql => fits ql 4
  | .synceQualify => true
  | .synceLoss => true
  | .ppsPulse _ _ => true
  | .ppsLoss => true
  | .ptpMessage _ _ domain m => fits domain 8 && PtpMsg.wf m
  | .ptpLoss => true
  | .holdoverExpired => true
  | .uncertaintyRecompute => true
  | .todSet _ v => hasLen v 12
  | .handoverSeed => true
  | .handoverCorrection _ _ => true
  | .alarmFired _ _ => true
  | .alarmWake _ _ => true
  | .comparatorCrossing _ _ _ _ _ => true
  | .drvOverload _ ticks => fits ticks 32
  | .swingMonitor _ _ => true
  | .rxOvervoltage _ => true
  | .vrefRange => true
  | .rxInconsistent _ => true
  | .lanePllUnlock _ => true
  | .chRetire _ _ v => hasLen v 1
  | .chReadmit _ _ v => hasLen v 1
  | .recalAccepted _ _ => true
  | .readmitTimeout _ => true
  | .vectorStart _ => true
  | .compareResult _ => true
  | .counterFlush _ _ => true
  | .failCountRead _ _ _ => true
  | .next _ mod a b => fits mod 8 && fits a 16 && fits b 32 && decide (mod % 2 = 0)
  | .nextRaw _ mod a b => fits mod 8 && fits a 16 && fits b 32 && decide (mod % 2 = 1)
  | .repeatRec _ mod a b => fits mod 8 && fits a 16 && fits b 32
  | .loop _ mod a b => fits mod 8 && fits a 16 && fits b 32
  | .endloop _ mod a b => fits mod 8 && fits a 16 && fits b 32
  | .jump _ mod a b => fits mod 8 && fits a 16 && fits b 32
  | .call _ mod a b => fits mod 8 && fits a 16 && fits b 32
  | .ret _ mod a b => fits mod 8 && fits a 16 && fits b 32
  | .matchLoop _ mod a b => fits mod 8 && fits a 16 && fits b 32
  | .matchPassEnd _ => true
  | .wait _ mod a b => fits mod 8 && fits a 16 && fits b 32
  | .waitMet _ => true
  | .waitTimeout _ => true
  | .signalSet _ mod a b => fits mod 8 && fits a 16 && fits b 32 && (mod % 4 == 0 || mod % 4 == 3)
  | .signalClear _ mod a b => fits mod 8 && fits a 16 && fits b 32 && mod % 4 == 1
  | .signalToggle _ mod a b => fits mod 8 && fits a 16 && fits b 32 && mod % 4 == 2
  | .settset _ mod a b => fits mod 8 && fits a 16 && fits b 32
  | .mark _ mod a b => fits mod 8 && fits a 16 && fits b 32
  | .trigoutPulse _ mod a b => fits mod 8 && fits a 16 && fits b 32 && (mod % 4 == 0 || mod % 4 == 3)
  | .trigoutHigh _ mod a b => fits mod 8 && fits a 16 && fits b 32 && mod % 4 == 1
  | .trigoutLow _ mod a b => fits mod 8 && fits a 16 && fits b 32 && mod % 4 == 2
  | .trigoutPulseEnd _ _ => true
  | .quietOn _ mod a b => fits mod 8 && fits a 16 && fits b 32
  | .quietOff _ mod a b => fits mod 8 && fits a 16 && fits b 32
  | .stream _ mod a b => fits mod 8 && fits a 16 && fits b 32
  | .streamGap _ mod n => fits mod 8 && decide (1 ≤ n ∧ n ≤ 65535)
  | .cntLdi _ mod a b => fits mod 8 && fits a 16 && fits b 32 && (mod % 8 == 0 || decide (5 < mod % 8))
  | .cntAddi _ mod a b => fits mod 8 && fits a 16 && fits b 32 && mod % 8 == 1
  | .cntSubi _ mod a b => fits mod 8 && fits a 16 && fits b 32 && mod % 8 == 2
  | .cntMov _ mod a b => fits mod 8 && fits a 16 && fits b 32 && mod % 8 == 3
  | .cntLdev _ mod a b => fits mod 8 && fits a 16 && fits b 32 && mod % 8 == 4
  | .cntClr _ mod a b => fits mod 8 && fits a 16 && fits b 32 && mod % 8 == 5
  | .ld _ mod a b => fits mod 8 && fits a 16 && fits b 32
  | .st _ mod a b => fits mod 8 && fits a 16 && fits b 32
  | .storeBufferDrain _ => true
  | .sync _ mod a b => fits mod 8 && fits a 16 && fits b 32
  | .syncComplete _ => true
  | .halt _ mod a b => fits mod 8 && fits a 16 && fits b 32
  | .haltComplete _ => true
  | .eventInput _ source _ => fits source 8
  | .seqDeadlock _ => true
  | .tfSet _ _ v => hasLen v 2
  | .tfClear _ _ v => hasLen v 2
  | .gfSet _ _ v => hasLen v 4
  | .gfClear _ _ v => hasLen v 4
  | .eiInject _ _ _ v => hasLen v 1
  | .microSeq _ f => MicroFetch.wf f
  | .microSafe _ f => MicroFetch.wf f
  | .microBr _ f => MicroFetch.wf f
  | .microJmp _ f => MicroFetch.wf f
  | .microCall _ f => MicroFetch.wf f
  | .microRet _ f => MicroFetch.wf f
  | .microDispatch _ f => MicroFetch.wf f
  | .sysStall _ f => MicroFetch.wf f
  | .sysResume _ f => MicroFetch.wf f
  | .selfReset _ f => MicroFetch.wf f
  | .engineReset _ _ v => hasLen v 1
  | .trigInEdge _ _ _ => true
  | .triggerEvent _ _ _ _ => true
  | .pretriggerFull _ => true
  | .trigWindowClose _ => true
  | .acqForce _ _ v => hasLen v 1
  | .segmentComplete _ => true
  | .scrubRow _ _ _ => true
  | .eccWriteback _ => true
  | .scrubLate _ => true
  | .quietOverrun _ => true
  | .budgetBreach _ _ _ _ => true
  | .calReqSelfCal _ v => hasLen v 16 && leads v 1
  | .calReqRefTransfer _ v => hasLen v 16 && leads v 2
  | .calReqAbort _ v => hasLen v 16 && leads v 0xFF
  | .calAttempt _ => true
  | .refedgeFail => true
  | .sensorRead _ _ => true
  | .reapplyComputed => true
  | .calReapplyLate => true
  | .calDue => true
  | .saveSets _ v => hasLen v 8 && leads v 1
  | .restoreLab _ v => hasLen v 8 && leads v 2
  | .restoreFactory _ v => hasLen v 8 && leads v 3
  | .writeTrace _ v => hasLen v 8 && leads v 4
  | .nvWritePulse _ _ => true
  | .lifetimeHour _ => true
  | .read via => Via.wf via
  | .write via => Via.wf via
  | .readBlock via => Via.wf via
  | .writeBlock via => Via.wf via
  | .snapshot via => Via.wf via
  | .commitNext via => Via.wf via && leads (Via.area via) 0
  | .commitAtIdle via => Via.wf via && leads (Via.area via) 1
  | .lock via => Via.wf via
  | .unlock via => Via.wf via
  | .tenantReset f => Frame.wf f
  | .deviceReset f => Frame.wf f
  | .ping f => Frame.wf f
  | .heldFrame => true
  | .odpKey _ offset total data => decide (offset + data.length ≤ total)
  | .linkUp _ rate => decide (rate = 1 ∨ rate = 2)
  | .linkDown _ => true
  | .rateTryTimeout _ => true
  | .arpRequest _ target sender _ => fits target 32 && fits sender 32
  | .neighborDiscovery _ target => fits target 128
  | .echoRequest _ _ dest _ => fits dest 128
  | .dadComplete _ _ => true
  | .bar2Write _ _ data _ => !data.isEmpty
  | .stagingWrite _ => true
  | .ringProd _ v => fits v 32
  | .eventDoorbell _ => true
  | .evqHead _ _ v => fits v 32
  | .dmaProd _ v => fits v 32
  | .timeSnap _ => true
  | .bar0Write _ _ size v _ => decide (1 ≤ size) && decide (v < 256 ^ size)
  | .dmaDescriptor _ => true
  | .downloadCompletion _ _ _ => true
  | .completionTimeout _ => true
  | .dmaDone _ => true
  | .eventWrite _ => true
  | .msixUnmask _ _ => true
  | .busMasterEnable _ _ => true
  | .configRequest _ _ => true
  | .flr _ => true
  | .hotReset => true
  | .l1Exit => true
  | .leaseWarning _ => true
  | .leaseExpiry _ => true
  | .getEvents m _ => Vdm.wf m
  | .mctpResetDevice m => Vdm.wf m
  | .mctpResetTenant m => Vdm.wf m
  | .mctpResetBlock m => Vdm.wf m
  | .mctpResetEndpoint m => Vdm.wf m
  | .setEndpointId tag op eid => fits tag 3 && fits op 8 && fits eid 8
  | .getEndpointId tag => fits tag 3
  | .getMctpVersionSupport tag msgType => fits tag 3 && fits msgType 8
  | .getMessageTypeSupport tag => fits tag 3
  | .getVendorDefinedMessageSupport tag selector => fits tag 3 && fits selector 8
  | .getTid tag => fits tag 3
  | .getPldmVersion tag pldmType => fits tag 3 && fits pldmType 8
  | .getPldmTypes tag => fits tag 3
  | .getPldmCommands tag pldmType => fits tag 3 && fits pldmType 8
  | .getSensorReading tag sensor => fits tag 3 && fits sensor 16
  | .getStateSensorReadings tag sensor => fits tag 3 && fits sensor 16
  | .getPdr tag handle => fits tag 3 && fits handle 32
  | .serviceReqEnter _ v => hasLen v 1
  | .serviceReqLeave _ v => hasLen v 1
  | .dcConversionStart => true
  | .dcConversionDone _ => true
  | .stairReq _ v => hasLen v 1
  | .stairWake _ => true
  | .stairExitComplete => true
  | .stairExitLate => true
  | .dwellEnd => true
  | .heaterUpdate _ _ _ _ _ => true
  | .warmingDone => true
  | .heaterLimit => true
  | .heaterClear => true
  | .powerOn => true
  | .resetN => true
  | .pwrgdLow => true
  | .nvPulseEnd => true
  | .watchdogExpired => true
  | .watchdogKick _ v => hasLen v 1
  | .watchdogTimeout _ v => hasLen v 4
  | .blockReset _ code v => fits code 8 && hasLen v 1
  | .bringup _ => true
  | .flashUpdate _ offset total data => decide (offset + data.length ≤ total)
  | .flashWriteTimeout => true
  | .faultCondition _ _ => true
  | .brokenPair _ => true
  | .pairRestored _ => true
  | .faultForce _ _ v => hasLen v 4
  | .fcClear _ v => v != 0xFF
  | .fcClearAll _ => true
  | .aliveToggle => true
  | .jtagActive => true
  | .extest _ _ => true
  | .idcode => true
  | .samplePreload _ _ => true
  | .clamp => true
  | .highz => true
  | .extestPulse _ _ => true
  | .extestTrain _ _ => true
  | .bypass _ => true
  | .illegalOpcode _ opcode => fits opcode 8 && !decide (1 ≤ opcode ∧ opcode ≤ 0x15)
  | .unknownOpcode opcode f => fits opcode 8 && Frame.wf f
  | .mctpUnsupportedCommand tag msgType command => fits tag 3 && fits msgType 8 && decide (command < 0x200)
  | .smbusPecFail => true
  | .ptpMessageTransmit _ => true
  | .pcieLinkReachesL0 rate width => decide (1 ≤ rate ∧ rate ≤ 5) && decide (1 ≤ width)
  | .wakeNTimeout => true
  | .testLogicReset => true
  | .faultConditionFalls _ _ => true

end Sys2Proof
end

