-- ==== Sys2Proof/Safety.lean ====
section
/-! DEFINITION. The terms in which the statements speak: completion, the invariant, and the conditions on a state under
which a command has its own effect. -/
namespace Sys2Proof.Machine

/-- The command answers a next state of which P holds. -/
def Completes (c : Instr) (s : State) (P : State → Prop) : Prop := ∃ t, exec c s = .next t ∧ P t

/-- The invariant of every step: the stacked memory has its canonical form. -/
def State.Inv (s : State) : Prop := Mem.wf s.mem = true

/-- The state with its device changed. -/
def State.withDev (s : State) (f : Dev → Dev) : State := { s with dev := f s.dev }

/-- The state in which the time base alone has changed. -/
def State.withTb (s : State) (f : TimeBase → TimeBase) : State := s.withDev fun d => { d with tb := f d.tb }

/-! ### Time that passes -/

/-- Nothing but WAITs waits for the end of the present tick or falls due in the ticks to come: no trigger event, retirement,
answer, flag change, event, record or trigger point of the tick, no write of a Gallery, nothing on its way in an engine, no
step of the servo (R90, R161, R176, R177, R222, R242, R258, R281, R414). -/
def State.noneDue (s : State) : Prop :=
  let d := s.dev
  (∀ t : Tenant, (vget d.acq t).tickTrigs = [] ∧ (∀ p, (vget d.acq t).trig = some p → p.recDue = false) ∧
    (vget d.gallery t).queue = [] ∧ (vget d.micro.engines (tenantEngine t)).ctrlReq = none) ∧
  d.retireFaults = [] ∧ d.retireCmds = [] ∧ d.heldAnswers = [] ∧ d.flagOps = [] ∧ d.tickEvents = [] ∧ d.tickRecs = [] ∧
  d.micro.outs = [] ∧ d.heater.frozen = false

/-- Tenant t's sequencer does not wait (R157, R167). -/
def Dev.noWait (d : Dev) (t : Tenant) : Prop := (d.seq t).wait = none ∧ (d.seq t).stall = 0

/-- Nothing at all waits for the end of the present tick. -/
def State.settled (s : State) : Prop := s.noneDue ∧ ∀ t, s.dev.noWait t

/-- The JUMPs of the next tick see the flags as they now are (R161). -/
def Seq.seen (q : Seq) : Seq := { q with tf0 := q.tf }

/-! ### What making a record and what a fault can change -/

/-- Making records changes the records that wait for the end of the tick or for step 5 alone (R414). -/
def Dev.RecOnly (d e : Dev) : Prop := e = { d with edgeRecs := e.edgeRecs, tickRecs := e.tickRecs }

/-- An occurrence of a fault changes the collector, the requests and waits it makes of Tahr, the channels it retires and
records alone (R567-R573). -/
def Dev.FaultOnly (d e : Dev) : Prop :=
  e = { d with
    edgeRecs := e.edgeRecs, tickRecs := e.tickRecs, fc := e.fc, chans := e.chans, retireFaults := e.retireFaults
    rst := { d.rst with requests := e.rst.requests, bootFaults := e.rst.bootFaults }
    stairs := { d.stairs with waking := e.stairs.waking, wakeMs := e.stairs.wakeMs } }

/-- Source `src` has occurred in scope `sc`: latched there and counted once; of every other source at most MERGED moves, for
what occurred in the same tick (R570, R571). -/
def Dev.Occurred (d e : Dev) (src : Source) (sc : Scope) : Prop :=
  (vget e.fc.src src).latched = (vget d.fc.src src).latched ||| scopeBit sc ∧
    (vget e.fc.src src).count = satAdd 32 (vget d.fc.src src).count 1 ∧
    ∀ k, k ≠ src → vget e.fc.src k = { vget d.fc.src k with lastMerged := (vget e.fc.src k).lastMerged }

/-! ### Writes to the dictionary -/

/-- A write of one entry that the dictionary serves and that passes every check of R341. -/
def State.accepts (s : State) (r : Req) (ix sub : Nat) (v : Bytes) : Prop :=
  s.dev.served r = stOK ∧ s.dev.checkWrite r ix sub v = stOK

/-- The state after a write: its effect on the device, and the status that answers it. -/
def State.answered (s : State) (r : Req) (ix sub st : Nat) (f : Dev → Dev) : State :=
  s.withDev fun d => (f d).send (.itemStatus r ix sub st)

/-! ### Sequencers -/

/-- Tenant t's sequencer runs, its engine is not stopped, and the word at its pc lies in the image, without an
uncorrectable error (R136, R146, R147). -/
def Dev.fetches (d : Dev) (t : Tenant) : Prop :=
  (d.seq t).state = .running ∧ (d.seq t).halt = none ∧ (d.seq t).matching = none ∧ d.engineStopped t = false
    ∧ (d.seq t).pc < (d.seq t).ctrlWords
    ∧ d.arb.poison.contains (d.areaAddr 0 t ((d.seq t).ctrlOffset + 8 * (d.seq t).pc)) = false

/-- The slack covers an instruction of `cost` ticks (R158). -/
def Dev.slackFor (d : Dev) (t : Tenant) (cost : Nat) : Prop := cost * finePerTick ≤ (d.seq t).slack

/-- What every executed instruction of `cost` ticks does to its sequencer (R146, R153, R158): the address of the last
instruction, the next address, the slack spent and its minimum. -/
def Seq.charge (q : Seq) (cost : Nat) : Seq :=
  { q with lastPc := q.pc, pc := q.pc + 1, slack := q.slack - cost * finePerTick
           slackMin := min q.slackMin (q.slack - cost * finePerTick) }

/-- The state in which tenant t's sequencer alone has changed. -/
def State.onSeq (s : State) (t : Tenant) (f : Seq → Seq) : State := s.withDev fun d => d.modSeq t f

/-! ### Requests and their answers -/

/-- A frame passes rows 1 to 6 of Table NP-8 for tenant t in Stair 0, no descent waits, and x1 is the session with the
frame's sequence number accepted (R376, R377, R383). -/
def Dev.takesFrame (d : Dev) (op : Nat) (f : Frame) (t : Tenant) (x1 : Session) : Prop :=
  d.discards f = false ∧ d.rst.phase = 8 ∧ d.stairs.now = 0 ∧ d.stairs.accepted = none ∧ tenantOf f.tenant = some t ∧
    d.authentic op f t = true ∧ (vget d.odp.sess t).accept f.sequence = some x1 ∧ x1.inFlight < 64 ∧
    (allTenants.map fun u => (vget d.odp.sess u).inFlight).foldl (· + ·) 0 < 512

/-- A frame that passes rows 7 and 8 too: it is served. -/
def Dev.servesFrame (d : Dev) (op : Nat) (f : Frame) (t : Tenant) (x1 : Session) : Prop :=
  d.takesFrame op f t x1 ∧ frameForm f op = stOK ∧ d.served (.tenant t) = stOK

/-- The state in which a frame is served: its session has taken it, and it is in flight (R383). -/
def State.inService (s : State) (t : Tenant) (x1 : Session) : State :=
  s.withDev fun d => d.modSess t fun _ => { x1 with inFlight := x1.inFlight + 1 }

/-- The one-part reply to a frame, tagged under the session's key (Table NP-4, R371, R374). -/
def Dev.odpPart (d : Dev) (f : Frame) (op flags st : Nat) (key pre : Bytes) (items : List Bytes) : Output :=
  let msg := natBE 1 1 ++ natBE 1 flags ++ natBE 1 f.tenant ++ natBE 1 op ++ natBE 8 f.credential ++ natBE 2 f.session
    ++ natBE 2 items.length ++ natBE 4 f.sequence ++ natBE 1 st ++ [0, 0, 0] ++ pre ++ items.flatten
  .odpReply f.port f.src (d.vlanOf f.port) (msg ++ (hmacSha256 key msg).take 16)

/-- A vendor-defined message is served at once: Ready, Stair 0, no descent waiting, its fields as Table TM-5 gives them. -/
def Dev.takesVdm (d : Dev) (m : Vdm) : Prop :=
  d.rst.phase = 8 ∧ d.stairs.now = 0 ∧ d.stairs.accepted = none ∧ m.iana = d.fuses.iana ∧ m.reserved = 0 ∧
    12 + m.area.length ≤ 1024

/-- The reply to a vendor-defined message (Table TM-5). -/
def vdmReply (d : Dev) (tag command st count : Nat) (body : Bytes) : Output :=
  .mctp tag 0x7F (command + 0x80)
    (natBE 4 d.fuses.iana ++ natBE 1 (command + 0x80) ++ natBE 1 st ++ natBE 2 count ++ [0, 0, 0, 0] ++ body)

/-- A request item (Table NP-6). -/
def requestItem (ix sub flags : Nat) (v : Bytes) : Bytes :=
  natBE 2 ix ++ natBE 1 sub ++ natBE 1 flags ++ natBE 2 v.length ++ zeros 2 ++ v ++ zeros ((4 - v.length % 4) % 4)

end Sys2Proof.Machine
end

