-- ==== Sys2Proof/Certificates/Slice0/Obligations.lean ====
section
/-! DEFINITION. The statements for the provers. Each cites the rule it formalises; a statement whose answer is
`.next (s.onSeq t f)` or `.next (s.withDev f)` says with it that nothing else of the state changes. -/

open Sys2Proof Sys2Proof.Machine


/-! ### The block as a whole -/

/-- A step with a command at the front of the queue is that command's exec on the state with the queue's rest. -/
def Obligations.StepRunsTheFrontCommand : Prop :=
  ∀ (s : State) (c : Instr) (rest : List Instr), step { s with pending := c :: rest } = exec c { s with pending := rest }

/-- Every command answers a next state, and no command changes the queue (the model's queue, first in, first out). -/
def Obligations.EveryCommandAnswers : Prop :=
  ∀ (c : Instr) (s : State), ∃ t, exec c s = .next t ∧ t.pending = s.pending

/-- R266 and Table RB-3, in the model's canonical form: every step keeps the stacked memory sorted by address with no zero
byte listed, so that equal contents are equal data. -/
def Obligations.StepKeepsInvariant : Prop :=
  ∀ (s t : State), s.Inv → step s = .next t → t.Inv

/-- The state after reset meets the invariant. -/
def Obligations.ResetMeetsInvariant : Prop := State.reset.Inv

/-- R38, R49, R435, R512 and the defaults of the chapters' tables: what power-on leaves. Device time and Tahr's count are 0 s and
the state FREE with infinite u_T; bring-up stands at B0; every tenant is idle in M0, its sequencer IDLE, its acquisition
context IDLE and its bitmap window idle; channel k carries pin k below 48 and is a spare above; no lock is held, no session
open, no fault latched, nothing pending; the memory reads zero; the history's notice is POWER_ON. -/
def Obligations.ResetValues : Prop :=
  let d := State.reset.dev
  d.tb.devFine = 0 ∧ d.tb.aonUs = 0 ∧ d.tb.tick = 0 ∧ d.tb.trace = 2 ∧ d.tb.uT = f64Inf ∧ d.rst.phase = 0 ∧
    d.modes.device = 0 ∧ d.stairs.now = 0 ∧ d.stairs.status = 0 ∧ d.heater.state = 0 ∧ d.gf = 0 ∧
    (∀ t : Tenant, vget d.modes.mode t = 0 ∧ (d.seq t).state = .idle ∧ (d.seq t).tf = 0 ∧ (vget d.acq t).st = 0 ∧
      (vget d.gallery t).window = 0 ∧ (vget d.odp.sess t).isOpen = false ∧ vget d.dict.shadow t = [] ∧
      (vget d.host t).hold.recs = [] ∧ (vget d.host t).hold.seq = 0) ∧
    (∀ c : Chan, (∀ h : c.val < 48, (vget d.chans c).st = .inService ∧ (vget d.chans c).map = some ⟨c.val, h⟩) ∧
      (48 ≤ c.val → (vget d.chans c).st = .spare ∧ (vget d.chans c).map = none)) ∧
    (∀ k : Fin 34, (vget d.mgmt.locks k).holder = none) ∧
    (∀ k : Source, (vget d.fc.src k).latched = 0 ∧ (vget d.fc.src k).count = 0) ∧
    d.fc.first = 0xFFFF ∧ d.fc.force = 0 ∧ d.dict.cfg = [] ∧ d.dict.commits = [] ∧
    (∀ a, Mem.read State.reset.mem a = 0) ∧ State.reset.pending = [] ∧
    d.rst.notices.map (fun n => (n.1.source, n.1.reach)) = [(0, 0)]

/-- R34 and R39, as the step takes them when no command waits (notes/assumptions/5): with the fast clocks running one tick
passes, by which device time advances exactly 8,192 fine steps unless a slew is in progress, which moves it by its own steps
beside (R47); with them stopped one microsecond of the always-on clock passes. Where nothing waits for the end of the tick,
memory and queue are as before. -/
def Obligations.IdleStep : Prop :=
  ∀ s : State, s.pending = [] → s.settled →
    (s.dev.tb.fast = true → s.dev.ticksLeft ≠ 1 → s.dev.tb.tick + 1 < 2 ^ 64 →
      ∃ t, step s = .next t ∧ t.dev.tb.tick = s.dev.tb.tick + 1 ∧ t.dev.tb.devFine = s.dev.fineAhead 1 ∧
        (s.dev.tb.slew = 0 → t.dev.tb.devFine = s.dev.tb.devFine + 8192) ∧ (∀ v, t.dev.seq v = (s.dev.seq v).seen) ∧
        t.dev.dict = s.dev.dict ∧ t.dev.gf = s.dev.gf ∧ t.dev.fc.src = s.dev.fc.src ∧ t.dev.out = s.dev.out ∧
        t.mem = s.mem ∧ t.pending = []) ∧
    (s.dev.tb.fast = false →
      ∃ t, step s = .next t ∧ t.dev.tb.aonUs = s.dev.tb.aonUs + 1 ∧ t.dev.tb.devFine = s.dev.tb.devFine + 14336000 ∧
        t.dev.tb.tick = s.dev.tb.tick ∧ (∀ v, t.dev.seq v = (s.dev.seq v).seen) ∧ t.dev.dict = s.dev.dict ∧
        t.dev.fc.src = s.dev.fc.src ∧ t.mem = s.mem ∧ t.pending = [])

/-- R24 and R31: a frame edge runs the time to the next multiple of 1,024 ticks and then, in Stair 0, takes its actions in the
order of Table AR-6: what the frame closes, the reactions, the Landing, the budgets, the step of Tahr, and the records, each
on the state that the step before it left; the records of the edge are then all in their buffers. In bring-up and in Stairs 1
and 2 the time base alone acts. In Stair 3 or deeper the exit is complete, and the edge's own actions follow (R501); with the
fast clocks stopped there is no edge. A COMMIT AT_IDLE whose count ends has its end at the edge. -/
def Obligations.FrameEdgeOrder : Prop :=
  ∀ s : State,
    (s.dev.tb.fast = false → exec .frameEdge s = .next s) ∧
    (s.dev.tb.fast = true →
      let s1 := s.toNextEdge
      (s.settled → s.dev.tb.tick + 1024 < 2 ^ 64 →
        s1.dev.tb.tick = (s.dev.tb.tick / 1024 + 1) * 1024 ∧ s1.mem = s.mem ∧ s1.dev.dict = s.dev.dict) ∧
      (s.dev.rst.phase ≠ 8 ∨ s.dev.stairs.now = 1 ∨ s.dev.stairs.now = 2 →
        exec .frameEdge s = .next (s1.withDev Dev.timeOnlyEdge)) ∧
      (s.dev.rst.phase = 8 → s.dev.stairs.now = 0 →
        let closed := s1.withDev Dev.closeFrame
        let landed := (closed.reactions).landStep s1.dev.allIdle (allChans.filter s1.dev.joinsNow)
        let loaded := landed.withDev fun d => d.loadBudgets.engineEdge.dcEdge
        let stepped := loaded.tahrStep
        (stepped.dev.rst.phase = 8 → exec .frameEdge s = .next (stepped.withDev Dev.recordStep) ∧
          (stepped.withDev Dev.recordStep).dev.atEdge = false ∧ (stepped.withDev Dev.recordStep).dev.edgeRecs = []) ∧
        (stepped.dev.rst.phase ≠ 8 → exec .frameEdge s = .next stepped)) ∧
      (s.dev.rst.phase = 8 → 3 ≤ s.dev.stairs.now →
        exec .frameEdge s = .next s1.exitStair.frameActions.afterExit)) ∧
    (∀ c ∈ s.dev.dict.commits, c.atIdle = true → c.framesLeft ≤ 1 → exec (.atIdleTimeout c.req) s = exec .frameEdge s)

/-- R24 step 5 and R414: the records of a frame edge enter the holding buffers FAULT first, then LANDING, STAIR and
RESET_NOTICE, then every other in ascending SOURCE; the records of any other tick enter by time stamp, those of one time by
ascending SOURCE; none is lost or made twice. -/
def Obligations.EdgeRecordOrder : Prop :=
  ∀ l : List EdgeRec,
    (sortEdge l).Perm l ∧
    (sortEdge l).Pairwise (fun a b =>
      (b.type = 0x08 → a.type = 0x08) ∧ (b.type = 0x11 → a.type = 0x08 ∨ a.type = 0x11) ∧
      (b.type = 0x0A → a.type = 0x08 ∨ a.type = 0x11 ∨ a.type = 0x0A) ∧
      (b.type = 0x0D → a.type = 0x08 ∨ a.type = 0x11 ∨ a.type = 0x0A ∨ a.type = 0x0D) ∧
      (a.type ∉ [0x08, 0x11, 0x0A, 0x0D] → b.type ∉ [0x08, 0x11, 0x0A, 0x0D] ∧ a.source ≤ b.source)) ∧
    (sortRecs tickBefore l).Perm l ∧
    (sortRecs tickBefore l).Pairwise (fun a b =>
      Time.toSub a.time ≤ Time.toSub b.time ∧ (Time.toSub a.time = Time.toSub b.time → a.source ≤ b.source))

/-! ### The pattern instructions (chapter 5) -/

/-- R154 and Table PS-8: the six counter operations. In each case the answer is the state in which tenant t's sequencer
alone has changed: it is charged one tick, and counter Cd holds the result; every other field of the state is as before. -/
def Obligations.CounterInstructions : Prop :=
  ∀ (s : State) (t : Tenant) (cd : Fin 8) (b : Nat), s.dev.fetches t → s.dev.slackFor t 1 →
    exec (.cntLdi t 0 cd.val b) s = .next (s.onSeq t fun q => (q.charge 1).setCounter cd.val (BitVec.ofNat 32 b)) ∧
    exec (.cntAddi t 1 cd.val b) s =
      .next (s.onSeq t fun q => (q.charge 1).setCounter cd.val (q.counter cd.val + BitVec.ofNat 32 b)) ∧
    exec (.cntSubi t 2 cd.val b) s =
      .next (s.onSeq t fun q => (q.charge 1).setCounter cd.val (q.counter cd.val - BitVec.ofNat 32 b)) ∧
    (∀ cs : Fin 8, exec (.cntMov t 3 (16 * cs.val + cd.val) 0) s =
      .next (s.onSeq t fun q => (q.charge 1).setCounter cd.val (q.counter cs.val))) ∧
    (∀ i : Fin 8, exec (.cntLdev t 4 (256 * i.val + cd.val) 0) s =
      .next (s.onSeq t fun q => (q.charge 1).setCounter cd.val (BitVec.ofNat 32 (vget q.ei i).count))) ∧
    exec (.cntClr t 5 cd.val 0) s = .next (s.onSeq t fun q => (q.charge 1).setCounter cd.val 0)

/-- R147 and Table PS-5: LOOP pushes its count, ENDLOOP counts down and continues behind its LOOP or pops, CALL pushes the
next address and continues at B, RET pops an address and continues there. Only tenant t's sequencer changes. -/
def Obligations.LoopAndCallInstructions : Prop :=
  ∀ (s : State) (t : Tenant), s.dev.fetches t →
    (∀ b, 1 ≤ b → (s.dev.seq t).loops.length < 8 → s.dev.slackFor t 1 →
      exec (.loop t 0 0 b) s = .next (s.onSeq t fun q => { q.charge 1 with loops := (q.pc + 1, b) :: q.loops })) ∧
    (∀ start n rest, (s.dev.seq t).loops = (start, n) :: rest → s.dev.slackFor t 1 →
      (1 < n → exec (.endloop t 0 0 0) s =
        .next (s.onSeq t fun q => { q.charge 1 with pc := start, loops := (start, n - 1) :: rest })) ∧
      (n ≤ 1 → exec (.endloop t 0 0 0) s = .next (s.onSeq t fun q => { q.charge 1 with loops := rest }))) ∧
    (∀ b, b < (s.dev.seq t).ctrlWords → (s.dev.seq t).calls.length < 16 → s.dev.slackFor t 2 →
      exec (.call t 0 0 b) s = .next (s.onSeq t fun q => { q.charge 2 with pc := b, calls := (q.pc + 1) :: q.calls })) ∧
    (∀ back rest, (s.dev.seq t).calls = back :: rest → s.dev.slackFor t 2 →
      exec (.ret t 0 0 0) s = .next (s.onSeq t fun q => { q.charge 2 with pc := back, calls := rest }))

/-- R161 and Table PS-7: a JUMP continues at control address B where its condition holds, and at the next address
otherwise; it costs 2 ticks and changes nothing else. A flag counts as it was at the end of the last tick. -/
def Obligations.JumpInstruction : Prop :=
  ∀ (s : State) (t : Tenant) (b : Nat), s.dev.fetches t → s.dev.slackFor t 2 → b < (s.dev.seq t).ctrlWords →
    let goes := fun (holds : Bool) => Host.Outcome.next (φ := Fault) (ρ := Refusal)
      (s.onSeq t fun q => { q.charge 2 with pc := if holds then b else q.pc + 1 })
    exec (.jump t 0 0 b) s = goes true ∧
    (∀ n : Fin 8, exec (.jump t 1 n.val b) s = goes ((s.dev.seq t).counter n.val == 0) ∧
      exec (.jump t 2 n.val b) s = goes ((s.dev.seq t).counter n.val != 0)) ∧
    exec (.jump t 3 0 b) s = goes (s.dev.seq t).cond ∧
    exec (.jump t 4 0 b) s = goes (!(s.dev.seq t).cond) ∧
    (∀ n : Fin 16, exec (.jump t 5 (0x1000 + n.val) b) s = goes ((s.dev.seq t).tf0.getLsbD n.val) ∧
      exec (.jump t 6 (0x1000 + n.val) b) s = goes (!(s.dev.seq t).tf0.getLsbD n.val)) ∧
    (∀ n : Fin 32, s.dev.gfGrant t n.val = true →
      exec (.jump t 5 (0x2000 + n.val) b) s = goes (s.dev.gf0.getLsbD n.val) ∧
      exec (.jump t 6 (0x2000 + n.val) b) s = goes (!s.dev.gf0.getLsbD n.val))

/-- R144, R146, R147, R158, R160 and Table PS-6: where an instruction's own check fails, or the slack does not suffice for
it, decoding stops at it: the state becomes ERROR with the code and the address of the instruction, and neither its own
effect takes place, nor the memory or another sequencer changes. The case of ILLEGAL_OPCODE is the whole effect of its
command. A word of a pattern instruction spells it again: no field of Table PS-4 is lost. -/
def Obligations.SequencerErrors : Prop :=
  (∀ (i : Instr) (t : Tenant) (w : Nat), i.wf = true → ctrlOf i = some (t, w) → w < 2 ^ 64 ∧ commandOf t w = i) ∧
  ∀ (s : State) (t : Tenant), s.dev.fetches t →
    let stops := fun (c : Instr) (code : Nat) => Completes c s fun u =>
      (u.dev.seq t).state = .error ∧ (u.dev.seq t).error = code ∧ (u.dev.seq t).errorPc = (s.dev.seq t).pc ∧
      (u.dev.seq t).pc = (s.dev.seq t).pc ∧ (u.dev.seq t).counters = (s.dev.seq t).counters ∧
      (∀ v, v ≠ t → u.dev.seq v = s.dev.seq v) ∧ u.mem = s.mem ∧ u.pending = s.pending
    (∀ op, (op % 256 = 0 ∨ 0x15 < op % 256) → stops (.illegalOpcode t op) 0x01) ∧
    (∀ mod b, mod ≠ 0 → stops (.loop t mod 0 b) 0x02) ∧
    stops (.loop t 0 0 0) 0x03 ∧
    (∀ b, 8 ≤ (s.dev.seq t).loops.length → 1 ≤ b → stops (.loop t 0 0 b) 0x05) ∧
    ((s.dev.seq t).loops = [] → stops (.endloop t 0 0 0) 0x05) ∧
    (∀ b, 16 ≤ (s.dev.seq t).calls.length → stops (.call t 0 0 b) 0x06) ∧
    ((s.dev.seq t).calls = [] → stops (.ret t 0 0 0) 0x06) ∧
    (∀ b, (s.dev.seq t).ctrlWords ≤ b → stops (.jump t 0 0 b) 0x04) ∧
    (∀ n : Fin 32, s.dev.gfGrant t n.val = false → ∀ b, stops (.jump t 5 (0x2000 + n.val) b) 0x09) ∧
    stops (.cntLdi t 6 0 0) 0x03 ∧ stops (.cntLdi t 7 0 0) 0x03 ∧ stops (.signalSet t 3 0 0) 0x03 ∧
    stops (.trigoutPulse t 3 0 0) 0x03 ∧
    (∀ (cd : Fin 8) (b : Nat), (s.dev.seq t).slack < finePerTick → stops (.cntLdi t 0 cd.val b) 0x0E ∧
      Completes (.cntLdi t 0 cd.val b) s fun u => 
        (u.dev.seq t).invalidSpans =
          (s.dev.seq t).invalidSpans ++ [(s.dev.issueEnd t / finePerTick * finePerTick, none)])

/-- R140 and R146: NEXT issues one vector, and REPEAT A consecutive ones, with record B of the image under the timing set
in force: one entry enters the FIFO with the decoded effects and the pending release, and the slack gains the periods of
the vectors. The data source is the image (no STREAM runs), the FIFO has room and the record lies within the data. -/
def Obligations.VectorInstructions : Prop :=
  ∀ (s : State) (t : Tenant) (b : Nat) (bytes : Bytes), s.dev.fetches t → s.dev.slackFor t 1 →
    let q := s.dev.seq t
    q.streamLeft = 0 → q.fifoCount < 64 → s.dev.dict.cfg.tsEnabled t q.tset = true →
    (b + 1) * 16 * q.groups.length ≤ q.dataWords * 64 →
    s.dev.areaRead s.mem 0 t (q.dataOffset + 2 * q.groups.length * b) (2 * q.groups.length) = some bytes →
    (recordCodes q.groups bytes).any (fun c => c.2 == 15) = false →
    let issued := fun (reps : Nat) => Host.Outcome.next (φ := Fault) (ρ := Refusal) (s.onSeq t fun q =>
      { q.charge 1 with
        fifo := q.fifo ++ [{ release := q.release, tset := q.tset, codes := recordCodes q.groups bytes, reps := reps
                             effects := q.aligned, ctrl := q.pc, loops := q.loops.map (·.2), entered := s.dev.tb.tick }]
        release := none, aligned := []
        slack := min (64 * finePerTick) (q.slack - finePerTick + reps * s.dev.dict.cfg.period t q.tset) })
    exec (.next t 0 0 b) s = issued 1 ∧
    (∀ a, 1 ≤ a → exec (.repeatRec t 0 a b) s = issued a)

/-- R141, R142 and R143: STREAM makes the next B instructions take their data from the ring; NEXT.RAW issues a segment of n
ticks whose words lie in the image. STREAM_GAP, the ring without the data of the next instruction: under GAP the vectors play DK,
or the segment's words that the ring holds play and the rest is a gap; the gap counts its time, and its vectors are marked, so
that their records carry INVALID. Without GAP it is the error STREAM_EMPTY. -/
def Obligations.StreamInstructions : Prop :=
  ∀ (s : State) (t : Tenant), s.dev.fetches t → s.dev.slackFor t 1 →
    let q := s.dev.seq t
    let period := s.dev.dict.cfg.period t q.tset
    (∀ gap b, 1 ≤ b →
      exec (.stream t (ofBool gap) 0 b) s =
        .next (s.onSeq t fun q => { q.charge 1 with streamLeft := b, streamGap := gap, gapRaised := false })) ∧
    (∀ n w, 1 ≤ n → q.streamLeft = 0 → q.fifoCount < 64 → s.dev.dict.cfg.tsEnabled t q.tset = true →
      w + n * (s.dev.rawPins t q.tset).length ≤ q.dataWords →
      s.dev.poisoned (fun i => s.dev.areaAddr 0 t (q.dataOffset + 8 * w + i)) (8 * (n * (s.dev.rawPins t q.tset).length)) = none →
      exec (.nextRaw t 1 n w) s = .next (s.onSeq t fun q =>
        { q.charge 1 with
          fifo := q.fifo ++ [{ release := q.release, tset := q.tset, raw := some (n, w, false, false)
                               effects := q.aligned, ctrl := q.pc, loops := q.loops.map (·.2), entered := s.dev.tb.tick }]
          release := none, aligned := []
          slack := min (64 * finePerTick) (q.slack - finePerTick + n * finePerTick) })) ∧
    (∀ mod n : Nat, q.streamLeft ≠ 0 → 1 ≤ n → s.dev.dict.cfg.tsEnabled t q.tset = true → 0 < s.dev.ringNeed t mod →
      let held := s.dev.ringLevel t / s.dev.ringNeed t mod
      let missing := if mod % 2 = 1 then n - held else n
      (mod % 2 = 0 → held = 0) → held < n →
      (q.streamGap = true → Completes (.streamGap t mod n) s fun u =>
        (∃ data : List Nat, data.length = (if mod % 2 = 1 then held * s.dev.ringNeed t mod else 0) ∧
          u.dev.seq t = { q.charge 1 with
            streamLeft := q.streamLeft - 1, gapRaised := true
            gapTicks := satAdd 64 q.gapTicks (if mod % 2 = 1 then missing else ceilDiv (n * period) finePerTick)
            fifo := q.fifo ++ [if mod % 2 = 1 then
                { release := q.release, tset := q.tset, raw := some (n, 0, bit mod 1, true), rawData := data, gap := some held
                  effects := q.aligned, ctrl := q.pc, loops := q.loops.map (·.2), entered := s.dev.tb.tick }
              else
                { release := q.release, tset := q.tset, codes := (groupPins q.groups).map fun p => (p, 3), reps := n
                  gap := some 0, effects := q.aligned, ctrl := q.pc, loops := q.loops.map (·.2), entered := s.dev.tb.tick }]
            release := none, aligned := []
            slack := min (64 * finePerTick) (q.slack - finePerTick + n * (if mod % 2 = 1 then finePerTick else period)) }) ∧
        (∀ v, v ≠ t → u.dev.seq v = s.dev.seq v) ∧ u.mem = s.mem) ∧
      (q.streamGap = false → Completes (.streamGap t mod n) s fun u =>
        (u.dev.seq t).state = .error ∧ (u.dev.seq t).error = 0x0F ∧ (u.dev.seq t).errorPc = q.pc ∧
        (u.dev.seq t).counters = q.counters ∧ (∀ v, v ≠ t → u.dev.seq v = s.dev.seq v) ∧ u.mem = s.mem))

/-- R156: MATCH-LOOP begins its passes; at the end of a pass, at its last CMP_CLOSE, MATCH_PASS_END continues behind the body
after a match, which in the EVENT form is an event waiting in the input and consumes it, plays the body again while passes are
left, and otherwise sets TO and continues behind the body or, with ERR, ends in the error MATCH_TIMEOUT of the MATCH-LOOP. -/
def Obligations.MatchLoopInstruction : Prop :=
  ∀ (s : State) (t : Tenant),
    (∀ (event err : Bool) (input : Fin 8) (len b : Nat), s.dev.fetches t → s.dev.slackFor t 1 →
      1 ≤ len → len ≤ 16 → 1 ≤ b → (s.dev.seq t).pc + len < (s.dev.seq t).ctrlWords → (event = false → input = 0) →
      exec (.matchLoop t (ofBool event + 2 * ofBool err) (256 * input.val + len) b) s = .next (s.onSeq t fun q =>
        { q.charge 1 with
          state := .matching
          matching := some { bodyPc := q.pc + 1, len := len, passes := b, left := len, event := event, err := err
                             input := input.val } })) ∧
    (∀ (s1 : State) (m : Match) (i : Fin 8), s.reach ((s.dev.seq t).closed / finePerTick) = some s1 →
      (s1.dev.seq t).matching = some m → m.left = 0 → (s1.dev.seq t).fifo = [] → (s1.dev.seq t).compares = [] →
      m.input = i.val →
      let hit := if m.event then decide (1 ≤ (vget (s1.dev.seq t).ei i).count) else !m.failed
      let released := fun (f : Seq → Seq) => Host.Outcome.next (φ := Fault) (ρ := Refusal) (s1.onSeq t fun q =>
        { f q with release := some (q.closed / finePerTick), slack := 64 * finePerTick, inRun := false })
      (hit = true → exec (.matchPassEnd t) s = released fun q =>
        { q with
          state := .running, matching := none, cond := false, pc := m.bodyPc + m.len
          ei := if m.event then vmod q.ei i fun e => { e with count := e.count - 1, queue := e.queue.tail } else q.ei }) ∧
      (hit = false → 1 < m.passes → exec (.matchPassEnd t) s =
        released fun q => { q with
          pc := m.bodyPc, matching := some { m with passes := m.passes - 1, left := m.len, failed := false } }) ∧
      (hit = false → m.passes ≤ 1 → m.err = false → exec (.matchPassEnd t) s =
        released fun q => { q with
          state := .running, wait := none, matching := none, cond := true, pc := m.bodyPc + m.len }) ∧
      (hit = false → m.passes ≤ 1 → m.err = true → Completes (.matchPassEnd t) s fun u =>
        (u.dev.seq t).state = .error ∧ (u.dev.seq t).error = 0x0C ∧ (u.dev.seq t).errorPc = m.bodyPc - 1 ∧
        (u.dev.seq t).cond = true ∧ (∀ v, v ≠ t → u.dev.seq v = s1.dev.seq v) ∧ u.mem = s1.mem))

/-- R157 and R161: a WAIT costs one tick, and its condition is judged at the end of the tick. Where it holds, the event is
consumed or, with CLEAR, the flag cleared, and TO is cleared; in the tick of the WAIT itself issue then goes on, later it is
released. Where it does not, the sequencer waits. WAIT_MET is the end of a tick in which a WAIT's condition holds; WAIT_TIMEOUT,
B ticks after the WAIT, sets TO and continues or, with ERR, ends in the error WAIT_TIMEOUT of the WAIT. -/
def Obligations.WaitInstruction : Prop :=
  ∀ (s : State) (t : Tenant),
    (s.dev.fetches t → s.dev.slackFor t 1 →
      let waits := fun (clear err : Bool) (sel b : Nat) =>
        exec (.wait t (ofBool clear + 2 * ofBool err) sel b) s = .next (s.onSeq t fun q =>
          { q.charge 1 with
            state := .waiting
            wait := some { sel := sel, clear := clear, err := err, timeout := b, since := s.dev.tb.tick, fresh := true } })
      (∀ (n : Fin 16) clear err b, waits clear err (0x1000 + n.val) b) ∧
      (∀ (n : Fin 32) clear err b, s.dev.gfGrant t n.val = true → waits clear err (0x2000 + n.val) b) ∧
      (∀ (i : Fin 8) clear err b, waits clear err (0x3000 + i.val) b)) ∧
    (∀ w : Wait, (s.dev.seq t).wait = some w → s.noneDue → (∀ v, v ≠ t → s.dev.noWait v) →
      s.dev.engineStopped t = false → s.dev.tb.fast = true → s.dev.ticksLeft ≠ 1 →
      let met := fun (f : Seq → Seq) (gf : BitVec 32) => Completes (.waitMet t) s fun u =>
        u.dev.seq t = (if w.fresh then
            { f (s.dev.seq t) with state := .running, wait := none, cond := false, stall := 0, declared := false }
          else
            { f (s.dev.seq t) with
              state := .running, wait := none, cond := false, stall := 0, declared := false
              release := some s.dev.tb.tick, slack := 64 * finePerTick, inRun := false }).seen ∧
        u.dev.gf = gf ∧ (∀ v, v ≠ t → u.dev.seq v = (s.dev.seq v).seen) ∧ u.mem = s.mem
      (∀ n : Fin 16, w.sel = 0x1000 + n.val → (s.dev.seq t).tf.getLsbD n.val = true →
        met (fun q => { q with tf := if w.clear then setBit q.tf n.val false else q.tf }) s.dev.gf) ∧
      (∀ n : Fin 32, w.sel = 0x2000 + n.val → s.dev.gf.getLsbD n.val = true →
        met id (if w.clear then setBit s.dev.gf n.val false else s.dev.gf)) ∧
      (∀ i : Fin 8, w.sel = 0x3000 + i.val → 1 ≤ (vget (s.dev.seq t).ei i).count →
        met (fun q => { q with ei := vmod q.ei i fun e => { e with count := e.count - 1, queue := e.queue.tail } }) s.dev.gf) ∧
      (s.dev.waitHolds t w.sel = false → exec (.waitMet t) s = .next s)) ∧
    (∀ (s1 : State) (w : Wait) (x : Nat), ((s.dev.seq t).wait.bind Wait.expiry) = some x → s.reach x = some s1 →
      (s1.dev.seq t).wait = some w → w.timeout ≠ 0 → w.since + w.timeout ≤ s1.dev.tb.tick →
      (w.err = false →
        exec (.waitTimeout t) s = .next (s1.onSeq t fun q =>
          { q with state := .running, wait := none, matching := none, cond := true, stall := 0, declared := false
                   release := some s1.dev.tb.tick, slack := 64 * finePerTick, inRun := false })) ∧
      (w.err = true → Completes (.waitTimeout t) s fun u =>
        (u.dev.seq t).state = .error ∧ (u.dev.seq t).error = 0x0D ∧ (u.dev.seq t).errorPc = (s1.dev.seq t).lastPc ∧
        (u.dev.seq t).cond = true ∧ (∀ v, v ≠ t → u.dev.seq v = s1.dev.seq v) ∧ u.mem = s1.mem))

/-- R160 and R161: SIGNAL sets, clears or toggles a flag at decode. A tenant-private flag needs nothing; a device-wide one
needs its grant and its lock. No other flag, no memory and no other sequencer's flags change. Of several changes of one flag in
a tick the last in order counts, a write of the host after every SIGNAL. -/
def Obligations.SignalInstructions : Prop :=
  ∀ (s : State) (t : Tenant), s.dev.fetches t → s.dev.slackFor t 1 →
    (∀ n : Fin 16,
      let becomes := fun (c : Instr) (v : Bool) => Completes c s fun u =>
        (u.dev.seq t).tf = setBit (s.dev.seq t).tf n.val v ∧ u.dev.gf = s.dev.gf ∧
        (u.dev.seq t).pc = (s.dev.seq t).pc + 1 ∧ (u.dev.seq t).slack = (s.dev.seq t).slack - finePerTick ∧
        (u.dev.seq t).counters = (s.dev.seq t).counters ∧ (∀ v, v ≠ t → u.dev.seq v = s.dev.seq v) ∧ u.mem = s.mem
      ((∀ o ∈ s.dev.flagOps, ¬ (o.tf = some t ∧ o.n = n.val)) →
        becomes (.signalSet t 0 (0x1000 + n.val) 0) true ∧
        becomes (.signalClear t 1 (0x1000 + n.val) 0) false ∧
        becomes (.signalToggle t 2 (0x1000 + n.val) 0) (!(s.dev.seq t).tf0.getLsbD n.val)) ∧
      (∀ o : FlagOp, s.dev.flagOps = [o] → o.sender = none → o.tf = some t → o.n = n.val → o.op < 2 →
        becomes (.signalSet t 0 (0x1000 + n.val) 0) (o.op == 0) ∧
        becomes (.signalClear t 1 (0x1000 + n.val) 0) (o.op == 0))) ∧
    (∀ n : Fin 32, s.dev.gfGrant t n.val = true → s.dev.gfHolder n.val = some (.tenant t) →
      (∀ o ∈ s.dev.flagOps, ¬ (o.tf = none ∧ o.n = n.val)) →
      let becomes := fun (c : Instr) (v : Bool) => Completes c s fun u =>
        u.dev.gf = setBit s.dev.gf n.val v ∧ (∀ v, (u.dev.seq v).tf = (s.dev.seq v).tf) ∧
        (u.dev.seq t).pc = (s.dev.seq t).pc + 1 ∧ u.mem = s.mem
      becomes (.signalSet t 0 (0x2000 + n.val) 0) true ∧
      becomes (.signalClear t 1 (0x2000 + n.val) 0) false ∧
      becomes (.signalToggle t 2 (0x2000 + n.val) 0) (!s.dev.gf0.getLsbD n.val))

/-- R126, R129, R148, R149 and R150: SETTSET names the timing set of the next vector, and MARK, TRIGOUT, QUIET-ON,
QUIET-OFF and an aligned SIGNAL wait for the start of the next vector, in program order. Only tenant t's sequencer changes. -/
def Obligations.AlignedInstructions : Prop :=
  ∀ (s : State) (t : Tenant), s.dev.fetches t → s.dev.slackFor t 1 →
    let aligns := fun (e : Seq → Aligned) => Host.Outcome.next (φ := Fault) (ρ := Refusal)
      (s.onSeq t fun q => { q.charge 1 with aligned := q.aligned ++ [e q] })
    (∀ a, a ≤ 63 → s.dev.dict.cfg.tsEnabled t a = true →
      exec (.settset t 0 a 0) s = .next (s.onSeq t fun q => { q.charge 1 with tset := a })) ∧
    (∀ b, exec (.mark t 0 0 b) s = aligns fun q => .mark b q.pc q.loopCount) ∧
    (∀ mask : Fin 32, (∀ n : Fin 4, mask.val.testBit n.val = true → s.dev.dict.cfg.trigGrant t n.val = true) →
      (∀ b, 1 ≤ b → b ≤ 65535 → exec (.trigoutPulse t 0 mask.val b) s = aligns fun _ => .trigout 0 mask.val b) ∧
      exec (.trigoutHigh t 1 mask.val 0) s = aligns (fun _ => .trigout 1 mask.val 0) ∧
      exec (.trigoutLow t 2 mask.val 0) s = aligns (fun _ => .trigout 2 mask.val 0)) ∧
    exec (.quietOn t 0 0 0) s = aligns (fun _ => .quietOn) ∧
    exec (.quietOff t 0 0 0) s = aligns (fun _ => .quietOff) ∧
    (∀ n : Fin 16,
      exec (.signalSet t 4 (0x1000 + n.val) 0) s = aligns (fun _ => .signal 0 (0x1000 + n.val)) ∧
      exec (.signalClear t 5 (0x1000 + n.val) 0) s = aligns (fun _ => .signal 1 (0x1000 + n.val)) ∧
      exec (.signalToggle t 6 (0x1000 + n.val) 0) s = aligns (fun _ => .signal 2 (0x1000 + n.val)))

/-- R164 and R165: a store of 1, 2, 4 or 8 bytes enters the store buffer, out of which the oldest entry drains first where it is
full; the oldest entry drains to scratch; a load reads scratch where no buffered store overlaps it, and takes the youngest
overlapping store's data where that covers it. A load of fewer than 4 bytes is extended with zeros, and 8 bytes fill two
counters. -/
def Obligations.ScratchInstructions : Prop :=
  ∀ (s : State) (t : Tenant) (c : Fin 8) (k : Fin 4) (b : Nat),
    let n := 2 ^ k.val
    let q := s.dev.seq t
    let stored := natLE n ((q.counter c.val).toNat + if k.val = 3 then (q.counter (c.val + 1)).toNat * 2 ^ 32 else 0)
    let loaded := fun (v : Nat) => Host.Outcome.next (φ := Fault) (ρ := Refusal) (s.onSeq t fun q =>
      let q1 := (q.charge 5).setCounter c.val (BitVec.ofNat 32 v)
      if k.val = 3 then q1.setCounter (c.val + 1) (BitVec.ofNat 32 (v / 2 ^ 32)) else q1)
    (k.val = 3 → c.val ≠ 7) → s.dev.fetches t → b % n = 0 → b + n ≤ 0x1000 →
    (s.dev.slackFor t 2 → q.stores.length < 4 →
      exec (.st t k.val c.val b) s = .next (s.onSeq t fun q =>
        { q.charge 2 with stores := q.stores ++ [{ addr := b, data := stored }] })) ∧
    (∀ w rest, s.dev.slackFor t 2 → q.stores = w :: rest → rest.length = 3 → w.data.length ≠ 8 →
      exec (.st t k.val c.val b) s = .next (s.onSeq t fun q =>
        { q.charge 2 with
          stores := rest ++ [{ addr := b, data := stored }], scratch := Mem.writeBytes q.scratch w.addr w.data })) ∧
    (s.dev.slackFor t 5 → s.dev.arb.poison.contains (scratchWord t b) = false →
      (∀ w ∈ q.stores, overlaps b n w.addr w.data.length = false) →
      exec (.ld t k.val c.val b) s = loaded (leNat (Mem.readBytes q.scratch b n))) ∧
    (s.dev.slackFor t 5 → ∀ older w, q.stores = older ++ [w] → w.addr ≤ b → b + n ≤ w.addr + w.data.length →
      exec (.ld t k.val c.val b) s = loaded (leNat ((w.data.drop (b - w.addr)).take n))) ∧
    (∀ w rest, q.stores = w :: rest →
      Completes (.storeBufferDrain t) s fun u =>
        u.dev.seq t = { q with stores := rest, scratch := Mem.writeBytes q.scratch w.addr w.data } ∧
        (w.data.length ≠ 8 → u = s.onSeq t fun _ => u.dev.seq t) ∧
        (w.data.length = 8 → u.dev.arb.poison = s.dev.arb.poison.filter (fun a => a != scratchWord t w.addr)) ∧
        (∀ v, v ≠ t → u.dev.seq v = s.dev.seq v) ∧ u.mem = s.mem)

/-- R151 and R152: SYNC and HALT suspend issue; each completes once every issued vector, compare, store and aligned effect
is complete, at the first tick boundary from the end of the last. SYNC releases the next run at that tick, or at the first frame
edge from it; HALT leaves the sequencer HALTED and makes SEQ_HALT with cause HALT and the halt value. -/
def Obligations.SyncAndHalt : Prop :=
  ∀ (s : State) (t : Tenant),
    (s.dev.fetches t → s.dev.slackFor t 1 →
      (∀ frame : Bool, exec (.sync t (ofBool frame) 0 0) s = .next (s.withDev fun d =>
        (d.modSeq t fun q => { q.charge 1 with state := .syncing, sync := some frame }).suspendEffects t)) ∧
      (∀ b, exec (.halt t 0 0 b) s = .next (s.withDev fun d =>
        (d.modSeq t fun q => { q.charge 1 with halt := some b }).suspendEffects t))) ∧
    (∀ (k : Nat) (s1 : State), s.dev.doneTick t = some k → s.reach k = some s1 →
      (s1.dev.seq t).drained = true → (s1.dev.seq t).drainTick ≤ s1.dev.tb.tick →
      (∀ frame, (s1.dev.seq t).sync = some frame → exec (.syncComplete t) s = .next (s1.onSeq t fun q =>
        { q with state := .running, sync := none, synced := true
                 release := some (if frame then ceilDiv s1.dev.tb.tick ticksPerFrame * ticksPerFrame else s1.dev.tb.tick)
                 slack := 64 * finePerTick, inRun := false })) ∧
      (∀ v, (s1.dev.seq t).halt = some v → Completes (.haltComplete t) s fun u =>
        (u.dev.seq t).state = .halted ∧ (u.dev.seq t).haltValue = v ∧ (u.dev.seq t).halt = none ∧
        (u.dev.seq t).quietOn = false ∧ (u.dev.seq t).counters = (s1.dev.seq t).counters ∧
        (∀ w, w ≠ t → u.dev.seq w = s1.dev.seq w) ∧ u.mem = s1.mem ∧
        (s1.dev.atEdge = false → u.dev.tickRecs = s1.dev.tickRecs ++ [s1.dev.mkRec (.tenant t) t.val 0x01 t.val s1.dev.now
          (natLE 1 1 ++ natLE 1 0 ++ [0, 0] ++ natLE 4 (s1.dev.seq t).lastPc ++ natLE 4 v)])))

/-- R162 and R163: an event of a source enters every event input bound to it, and no other: the count of each goes up by one, or
at 65,535 its saturation count. A source has at most one event in a tick; the edge of a device-wide flag enters with the grant
alone. -/
def Obligations.EventInputs : Prop :=
  ∀ (s : State) (t : Tenant) (fine : Fin 8192) (source : Nat), source ≤ 6 ∨ (16 ≤ source ∧ source ≤ 63) →
    (source ≤ 3 → bit (s.dev.dict.cfg.nat (0x5101 + 0x10 * t.val) 7) source = true) →
    (s.dev.hadEvent t source = true → source ≠ 6 → exec (.eventInput t source fine) s = .next s) ∧
    (32 ≤ source → s.dev.gfGrant t (source - 32) = false → exec (.eventInput t source fine) s = .next s) ∧
    (s.dev.hadEvent t source = false → (32 ≤ source → s.dev.gfGrant t (source - 32) = true) →
      Completes (.eventInput t source fine) s fun u =>
        (∀ i : Fin 8,
          let old := vget (s.dev.seq t).ei i
          let bound := (s.dev.eiSources t i).contains source
          (vget (u.dev.seq t).ei i).count = (if bound && decide (old.count < 65535) then old.count + 1 else old.count) ∧
          (vget (u.dev.seq t).ei i).saturated =
            (if bound && decide (65535 ≤ old.count) then satAdd 32 old.saturated 1 else old.saturated)) ∧
        (∀ v, v ≠ t → u.dev.seq v = s.dev.seq v) ∧ (u.dev.seq t).tf = (s.dev.seq t).tf ∧ u.dev.gf = s.dev.gf ∧ u.mem = s.mem)

/-- R168 and R170: a sequencer whose stall count has reached 4,096 with the tick and that is not yet declared is declared; under
HALT it becomes HALTED, under REPORT it goes on waiting. Below that count, or declared before, nothing happens. -/
def Obligations.DeadlockDeclared : Prop :=
  ∀ (s s1 : State) (t : Tenant) (k : Nat), s.dev.deadlockTick t = some k → s.reach k = some s1 →
    (s1.dev.stalled t = true → (s1.dev.seq t).declared = false → 4096 ≤ (s1.dev.seq t).stall + 1 →
      Completes (.seqDeadlock t) s fun u =>
        (u.dev.seq t).declared = true ∧ u.mem = s1.mem ∧ u.dev.gf = s1.dev.gf ∧
        (s1.dev.dict.cfg.nat (0x2010 + 0x100 * t.val) 3 = 1 → (u.dev.seq t).state = .halted ∧ (u.dev.seq t).wait = none) ∧
        (s1.dev.dict.cfg.nat (0x2010 + 0x100 * t.val) 3 ≠ 1 →
          (u.dev.seq t).state = (s1.dev.seq t).state ∧ (u.dev.seq t).wait = (s1.dev.seq t).wait ∧
          (u.dev.seq t).stall = (s1.dev.seq t).stall)) ∧
    ((s1.dev.seq t).declared = true ∨ (s1.dev.seq t).stall + 1 < 4096 → exec (.seqDeadlock t) s = .next s1)

/-! ### The time base (chapter 2) -/

/-- R28, R32, R33, R44, R46 and Table TB-1: the frequency inputs. A count selects the frequency within 1 % of which it lies, and
a tenth agreeing count within 100 ppm qualifies REFIN with the reference PLL locked; without a source that serves the reference
PLL is in frequency hold with a word held (its value is free), and it relocks when one serves again; loss of lock of the core
PLL raises FS-021 while a source serves. Nothing else of the state changes, time and tick counter included. That a lower code
is a better Quality Level is the model's choice (notes/assumptions/10), and how counts agree (notes/assumptions/37). -/
def Obligations.FrequencyInputs : Prop :=
  ∀ s : State,
    let asleep := decide (3 ≤ s.dev.stairs.now) && !s.dev.tb.fast
    let noted := fun (code : Nat) (src : Source) (tb : TimeBase) =>
      { tb with
        sleepLoss := if (asleep || tb.handover.isSome) && tb.freqActive == code && !tb.sleepLoss.contains src
          then tb.sleepLoss ++ [src] else tb.sleepLoss
        handover := tb.handover.map fun h => if code = 1 && !h.done then { h with done := true, lost := true } else h }
    let becomes := fun (c : Instr) (f : TimeBase → TimeBase) =>
      let hold := (s.withTb f).dev.freqPick == 0
      ∃ word relock free, exec c s = .next (s.withDev fun d => { d with
          tb := { f d.tb with freqHold := hold, holdWord := word, relock := relock }, freeCtr := free }) ∧
        (hold = s.dev.tb.freqHold →
          word = s.dev.tb.holdWord ∧ relock = s.dev.tb.relock ∧ free = s.dev.freeCtr) ∧
        (hold ≠ s.dev.tb.freqHold → free = s.dev.freeCtr + 1)
    (∀ (edges code : Nat) (lock : Bool),
      let setting := s.dev.dict.cfg.nat 0x1410 1
      let nom := [0, 5000, 10000, 100000].getD code 0
      let inRange := code ≠ 0 ∧ 10000 * (max edges nom - min edges nom) ≤ nom
      let agrees := 0 < s.dev.tb.refinRun ∧ edges ≤ s.dev.tb.refinCount + 1 ∧ s.dev.tb.refinCount ≤ edges + 1
      let run := if inRange then (if agrees then s.dev.tb.refinRun + 1 else 1) else 0
      (setting ≠ 0 ∧ code = setting) ∨ (setting = 0 ∧ (
        (code = 1 ∧ 4950 ≤ edges ∧ edges ≤ 5050) ∨ (code = 2 ∧ 9900 ≤ edges ∧ edges ≤ 10100) ∨
        (code = 3 ∧ 99000 ≤ edges ∧ edges ≤ 101000) ∨
        (code = 0 ∧ (edges < 4950 ∨ 5050 < edges ∧ edges < 9900 ∨ 10100 < edges ∧ edges < 99000 ∨ 101000 < edges)))) →
      becomes (.refinCount edges lock) fun tb => { tb with
        refinCount := edges, refinRun := min run 10, refinFreq := if tb.refinQual then tb.refinFreq else code
        refPllLock := lock, refinQual := tb.refinQual || (decide (10 ≤ run) && lock) }) ∧
    becomes .refinLoss (fun tb => noted 1 16 { tb with refinQual := false, refinRun := 0, refPllLock := false }) ∧
    becomes .synceLoss (fun tb => noted 2 19 { tb with synceQual := false }) ∧
    (∀ (port : Fin 2) (ql : Nat), ql < 16 →
      let taken := fun (tb : TimeBase) => { tb with synceQl := ql }
      (port.val ≠ s.dev.dict.cfg.nat 0x1290 1 → exec (.esmcMessage port ql) s = .next s) ∧
      (port.val = s.dev.dict.cfg.nat 0x1290 1 →
        (s.dev.tb.synceQual = false ∨ ql ≤ s.dev.dict.cfg.nat 0x1290 2 →
          exec (.esmcMessage port ql) s = .next (s.withTb taken)) ∧
        (s.dev.tb.synceQual = true → s.dev.dict.cfg.nat 0x1290 2 < ql →
          becomes (.esmcMessage port ql) fun tb => noted 2 19 { tb with synceQl := ql, synceQual := false }))) ∧
    ((s.dev.portOf (s.dev.dict.cfg.nat 0x1290 1)).link = true → s.dev.tb.synceQl ≤ s.dev.dict.cfg.nat 0x1290 2 →
      becomes .synceQualify fun tb => { tb with synceQual := true }) ∧
    ((s.dev.portOf (s.dev.dict.cfg.nat 0x1290 1)).link = false ∨ s.dev.dict.cfg.nat 0x1290 2 < s.dev.tb.synceQl →
      exec .synceQualify s = .next s) ∧
    (let s1 := s.endTick
      let unlocked := s1.withTb fun tb => { tb with corePllLock := false }
      (s1.dev.freqPick = 0 → exec .corePllUnlock s = .next unlocked) ∧
      (s1.dev.freqPick ≠ 0 → (vget s1.dev.fc.src 21).cond.getLsbD 8 = false → s1.dev.fc.wires.getLsbD 21 = false →
        s1.dev.latches 21 = true →
        Completes .corePllUnlock s fun u =>
          Dev.FaultOnly unlocked.dev u.dev ∧ Dev.Occurred s1.dev u.dev 21 8 ∧
          (vget u.dev.fc.src 21).cond.getLsbD 8 = true ∧
          u.dev.fc.classDSeen = true ∧ u.dev.fc.aliveToggling = false ∧ u.mem = s1.mem ∧ u.pending = s.pending))

/-- R29, R37, R45, R47, R630 and Table TB-1: the time-of-day inputs. With PPS_IN as the source, the offset that a pulse gives, to
the nearest second from the marked instant (the selected edge less the cable delay), becomes a step where it exceeds
STEP_THRESHOLD and a slew otherwise; a pending TOD_SET value is taken at the pulse instead. A loss ends qualification, and the
PTP port leaves the time transmitter's role with PPS_IN. PTP messages give the source's values, corrected for the latencies and
the asymmetry (half of each: notes/assumptions/39); one of another domain or with an unsupported feature is counted and
discarded, one of another port or transport is no message of the PTP port. An accepted TOD_SET waits for the next pulse where a
source delivers pulses, and for the next frame edge otherwise, which then gives device time the value. -/
def Obligations.TimeOfDayInputs : Prop :=
  ∀ s : State,
    let cfg := s.dev.dict.cfg
    let lost := fun (tb : TimeBase) =>
      { tb with ppsQual := false, ppsRun := 0, ppsTick := none, todBelow := if tb.todBelow = 1 then 0 else tb.todBelow }
    (∀ (fine : Fin 8192) (width : Nat) (sec : Int) (o : Int), s.dev.rst.phase = 8 → s.dev.tb.fast = true → 100 ≤ width →
      let edge := fine.val + if cfg.nat 0x1410 4 = 1 then width * 14336 else 0
      let at_ := s.dev.tb.tick * 8192 + edge
      let marked : Int := (s.dev.tb.devFine + edge : Nat) - cfg.int 0x1410 5
      ∃ tb, exec (.ppsPulse fine width) s = .next (s.withTb fun _ => tb) ∧
        tb.ppsTick = some at_ ∧ tb.tick = s.dev.tb.tick ∧ tb.devFine = s.dev.tb.devFine ∧
        (∀ p, s.dev.tb.ppsTick = some p → s.dev.tb.ppsRun = 2 →
          p + 1749998250 * 8192 ≤ at_ → at_ ≤ p + 1750001750 * 8192 → tb.ppsQual = true) ∧
        (∀ v, s.dev.tb.todSet = some (v, true) → tb.todSet = none ∧ tb.pendingStep = some ((fineOfTime v : Int) - marked)) ∧
        ((∀ v, s.dev.tb.todSet ≠ some (v, true)) → s.dev.tb.todActive = 1 → s.dev.tb.todBelow ≠ 1 → cfg.nat 0x1410 3 = 0 →
          s.dev.tb.ppsQual = true → 0 ≤ marked → marked + o = sec * 14336000000000 → 2 * o.natAbs < 14336000000000 →
          ((cfg.int 0x1410 6).natAbs < o.natAbs → tb.pendingStep = some o ∧ tb.slew = s.dev.tb.slew) ∧
          (o.natAbs ≤ (cfg.int 0x1410 6).natAbs → tb.slew = o ∧ tb.pendingStep = s.dev.tb.pendingStep))) ∧
    (∀ (fine : Fin 8192) (width : Nat), s.dev.rst.phase ≠ 8 ∨ s.dev.tb.fast = false ∨ width < 100 →
      exec (.ppsPulse fine width) s = .next s) ∧
    (s.dev.tb.ptpState ≠ 6 → exec .ppsLoss s = .next (s.withTb lost)) ∧
    (s.dev.tb.ptpState = 6 → Completes .ppsLoss s fun u =>
      Dev.RecOnly (s.withTb fun tb => { lost tb with ptpState := 4 }).dev u.dev ∧ u.mem = s.mem ∧ u.pending = s.pending) ∧
    exec .ptpLoss s = .next (s.withTb fun tb =>
      { tb with ptpQual := false, ptpRun := 0, todBelow := if tb.todBelow = 2 then 0 else tb.todBelow }) ∧
    (∀ (port : Fin 2) (transport : Fin 3) (domain : Nat) (m : PtpMsg), cfg.nat 0x1280 1 = 1 →
      let ours := port.val = cfg.nat 0x1280 2 ∧ transport.val = cfg.nat 0x1280 4
      (¬ ours → exec (.ptpMessage port transport domain m) s = .next s) ∧
      (ours → domain ≠ cfg.nat 0x1280 3 ∨ m = .unsupported →
        exec (.ptpMessage port transport domain m) s = .next (s.withTb fun tb =>
          { tb with ptpDiscards := satAdd 32 tb.ptpDiscards 1 })) ∧
      (ours → domain = cfg.nat 0x1280 3 → ∀ (raw delay : Int), m = .sync raw delay →
        let i := cfg.int 0x1280 0x0B
        let e := cfg.int 0x1280 0x0C
        let o := raw - roundDiv (i - e) 2 - cfg.int 0x1280 0x0A
        ∃ tb, exec (.ptpMessage port transport domain m) s = .next (s.withTb fun _ => tb) ∧
          tb.ptpOffset = o ∧ tb.ptpDelay = delay - roundDiv (i + e) 2 ∧ tb.devFine = s.dev.tb.devFine ∧
          (o.natAbs < (cfg.int 0x1410 6).natAbs → s.dev.tb.ptpState = 9 → s.dev.tb.ptpRun = 15 → tb.ptpQual = true)) ∧
      (ours → domain = cfg.nat 0x1280 3 → ∀ gm steps utc, m = .announce gm steps utc false 9 → s.dev.tb.ptpState = 9 →
        exec (.ptpMessage port transport domain m) s = .next (s.withTb fun tb =>
          { tb with ptpGm := BitVec.ofNat 64 gm, ptpSteps := steps % 65536 }))) ∧
    (∀ (port : Fin 2) (kind : PtpTx) (code : Nat),
      (kind, code) ∈ [(PtpTx.sync, 0), (PtpTx.delayReq, 1), (PtpTx.followUp, 8), (PtpTx.announce, 11)] →
      cfg.nat 0x1280 1 = 1 → cfg.nat 0x1280 2 = port.val → (vget s.dev.odp.port port).link = true →
      (kind = .delayReq → s.dev.tb.ptpState = 9) → (kind ≠ .delayReq → s.dev.tb.ptpState = 6 ∧ s.dev.todInUse = 1) →
      exec (.ptpMessageTransmit kind) s = .next ((s.withTb fun tb =>
        { tb with ptpTxSeq := (tb.ptpTxSeq + 1) % 65536 }).withDev fun d => d.send
          (.netFrame port 0x88F7 (cfg.nat 0x1280 4) (s.dev.vlanOf port)
            (natBE 1 code ++ natBE 1 (cfg.nat 0x1280 3) ++ natBE 2 s.dev.tb.ptpTxSeq
              ++ timeBE (timeOfFine (((s.dev.tb.devFine : Int) + cfg.int 0x1280 0x0C).toNat)))))) ∧
    (∀ r v, s.accepts r 0x1403 0 v → s.dev.tb.todActive ≠ 2 →
      let taken := fun (onPps : Bool) => Host.Outcome.next (φ := Fault) (ρ := Refusal) (s.answered r 0x1403 0 0x00 fun d =>
        { d with tb := { d.tb with todSet := some (timeOfBE v, onPps) } })
      (2 < cfg.nat 0x1410 3 → exec (.todSet r v) s = taken false) ∧
      (cfg.nat 0x1410 3 ≤ 2 → (timeOfBE v).ns = 0 → (timeOfBE v).sub = 0 → exec (.todSet r v) s = taken true)) ∧
    (∀ v, s.dev.tb.todSet = some (v, false) → s.dev.applyStep.tb.devFine = fineOfTime v)

/-- R41, R42, R43, R49, R53 and R54: the handover and the uncertainty law. The seed is Tahr's count plus phi with the tick counter
at zero, and records carry HOLDOVER from then on; the correction steps device time by minus the mean of the two residuals, or
raises FS-023 where that exceeds half a REFIN period, and none is made where REFIN has been lost; a limit reached in HOLDOVER is
held for the next frame edge; the uncertainties follow Table TB-6. -/
def Obligations.HandoverAndUncertainty : Prop :=
  ∀ s : State,
    (s.dev.tb.fast = false → (s.dev.rst.phase ≠ 8 ∨ s.dev.stairs.waking.isSome = true) →
      ∃ tb, exec .handoverSeed s = .next (s.withTb fun _ => tb) ∧
        tb.devFine = s.dev.tb.aonUs * 14336000 + s.dev.tb.phi ∧ tb.tick = 0 ∧ tb.fast = true ∧ tb.aonUs = s.dev.tb.aonUs ∧
        tb.phi = s.dev.tb.phi ∧ tb.trace = s.dev.tb.trace ∧ (s.withTb fun _ => tb).dev.traceShown = 1) ∧
    (∀ (h : Handover) (r1 r2 : Int), s.dev.tb.handover = some h →
      let eps := (r1 + r2).tdiv 2
      (h.done = true → exec (.handoverCorrection r1 r2) s = .next s) ∧
      (h.done = false → s.dev.tb.refinQual = false → exec (.handoverCorrection r1 r2) s = .next (s.withTb fun tb =>
        { tb with handover := some { h with done := true, lost := true } })) ∧
      (h.done = false → s.dev.tb.refinQual = true → 2 * eps.natAbs ≤ refinPeriod s.dev.tb.refinFreq → eps ≤ s.dev.tb.devFine →
        ∃ tb, exec (.handoverCorrection r1 r2) s = .next (s.withTb fun _ => tb) ∧
          (tb.devFine : Int) = s.dev.tb.devFine - eps ∧ tb.tick = s.dev.tb.tick ∧ tb.trace = s.dev.tb.trace) ∧
      (h.done = false → s.dev.tb.refinQual = true → refinPeriod s.dev.tb.refinFreq < 2 * eps.natAbs →
        (vget s.dev.fc.src 23).cond.getLsbD 8 = false → s.dev.fc.wires.getLsbD 23 = false → s.dev.latches 23 = true →
        Completes (.handoverCorrection r1 r2) s fun u =>
          u.dev.tb.devFine = s.dev.tb.devFine ∧ u.dev.tb.trace = s.dev.tb.trace ∧ u.dev.tb.needConfirm = true ∧
          Dev.Occurred s.dev u.dev 23 8 ∧ u.mem = s.mem ∧ u.pending = s.pending)) ∧
    (s.dev.tb.trace = 1 →
      s.dev.dict.cfg.nat 0x1410 7 * 14336000000000 ≤ s.dev.tb.holdFine ∨ s.dev.tb.uT = f64Inf ∨
        (s.dev.dict.cfg.q 0x1410 8).le (f64ToQ s.dev.tb.uT) = true →
      exec .holdoverExpired s = .next (s.withTb fun tb => { tb with holdExpired := true })) ∧
    (s.dev.tb.trace ≠ 1 → exec .holdoverExpired s = .next s) ∧
    (∃ tb, exec .uncertaintyRecompute s = .next (s.withTb fun _ => tb) ∧ tb.devFine = s.dev.tb.devFine ∧
      tb.trace = s.dev.tb.trace ∧
      (s.dev.traceShown = 0 → tb.uY = BitVec.ofNat 64 (s.dev.dict.cfg.nat 0x1420 1) ∧
        tb.uT = f64Sqrt ((s.dev.dict.cfg.q 0x1420 2).sq.add (phiVariance s.dev.tb.offsets))) ∧
      (s.dev.traceShown = 1 →
        let tau := secondsOf (s.dev.tb.holdFine + 1024 * 1024 * 8192)
        let drift := (s.dev.dict.cfg.q 0x1420 4).mul tau
        tb.uY = f64Sqrt (s.dev.uY0Sq.add drift.sq) ∧ (s.dev.tb.uT0 = f64Inf → tb.uT = f64Inf) ∧
        (s.dev.tb.uT0 ≠ f64Inf → tb.uT = f64Sqrt (((f64ToQ s.dev.tb.uT0).sq.add (s.dev.uY0Sq.mul tau.sq)).add
          ((drift.mul tau).mul ⟨1, 2⟩).sq))) ∧
      (s.dev.traceShown = 2 → tb.uY = BitVec.ofNat 64 (s.dev.dict.cfg.nat 0x1420 5) ∧ tb.uT = f64Inf))

/-- R56 and R59: an armed alarm fires at the first tick whose start lies at or after its time, within the present frame, and with
the fast clocks stopped at the first always-on edge from its time; one that is not armed does not fire. Below Stair 0 an armed
alarm with its wake bit begins the wake its lead before that time. -/
def Obligations.AlarmCommands : Prop :=
  ∀ (s : State) (owner : Fin 9) (which : Fin 2),
    let al := fineOfTime (timeOfBE (s.dev.dict.cfg.get (0x1440 + which.val) owner.val))
    let ctrl := s.dev.dict.cfg.nat 0x1442 owner.val
    let cause := if owner.val = 8 then 5 else 4
    ((vget (vget s.dev.tb.alarms owner) which).status ≠ 1 → exec (.alarmFired owner which) s = .next s) ∧
    ((vget (vget s.dev.tb.alarms owner) which).status = 1 →
      (s.settled → s.dev.tb.fast = true → s.dev.tb.slew = 0 → s.dev.tb.handover = none →
        al ≤ s.dev.tb.devFine + 8192 * (1023 - s.dev.tb.tick % 1024) → s.dev.tb.tick + 1024 < 2 ^ 64 →
        Completes (.alarmFired owner which) s fun u =>
          (vget (vget u.dev.tb.alarms owner) which).status = 2 ∧ al ≤ u.dev.tb.devFine ∧
          (s.dev.tb.devFine < al → u.dev.tb.devFine < al + 8192) ∧ (al ≤ s.dev.tb.devFine → u.dev.tb.tick = s.dev.tb.tick) ∧
          u.dev.tb.devFine = s.dev.tb.devFine + 8192 * (u.dev.tb.tick - s.dev.tb.tick) ∧ s.dev.tb.tick ≤ u.dev.tb.tick ∧
          u.mem = s.mem ∧ u.pending = s.pending) ∧
      (s.dev.tb.fast = false → Completes (.alarmFired owner which) s fun u =>
        (vget (vget u.dev.tb.alarms owner) which).status = 2 ∧ al ≤ u.dev.tb.devFine ∧
        (s.dev.tb.devFine < al → u.dev.tb.devFine < al + 14336000) ∧ u.dev.tb.tick = s.dev.tb.tick ∧
        u.mem = s.mem ∧ u.pending = s.pending) ∧
      (s.dev.stairs.now ≠ 0 → s.dev.stairs.waking = none → bit ctrl (2 + which.val) = true →
        bit (s.dev.dict.cfg.nat 0x1502 0) cause = true → (s.dev.tb.fast = false ∨ al ≤ s.dev.tb.devFine + s.dev.wakeLead) →
        Completes (.alarmWake owner which) s fun u =>
          u.dev.stairs.waking = some cause ∧ u.dev.stairs.now = s.dev.stairs.now ∧
          al ≤ u.dev.tb.devFine + s.dev.wakeLead ∧ u.mem = s.mem ∧ u.pending = s.pending))

/-! ### Pin channels (chapter 3) -/

/-- R74, R78, R79 and R631: the comparators. A comparator is high above its threshold plus half the hysteresis and low below it
less half, and 15 mV about the effective threshold are free; of the crossings that one comparator makes in one slot the TDC
reports the last where their number is odd, with its corrected time and direction, and none where it is even; two or more count
one runt. Only the channel changes. -/
def Obligations.ComparatorCrossings : Prop :=
  ∀ (s : State) (ch : Chan) (slot : Fin 64) (high : Bool) (inputs : List (Fin 128 × Int)) (cs : List Nat) (now : Bool),
    let c := vget s.dev.chans ch
    let was := if high then c.rxHigh else c.rxLow
    let half : Int := s.dev.dict.cfg.nat 0x300B ch.val * 125
    let thr := s.dev.dict.cfg.int (if high then 0x3009 else 0x300A) ch.val * 250
    (∀ v, thr + half + 15000 < v → s.dev.dict.cfg.comparator ch high false v = some true) ∧
    (∀ v, v < thr - half - 15000 → s.dev.dict.cfg.comparator ch high true v = some false) ∧
    (∀ v, thr + half - 15000 ≤ v → v ≤ thr + half + 15000 → s.dev.dict.cfg.comparator ch high false v = none) ∧
    (s.dev.decideSlot ch high was inputs = (s.dev, cs, now) →
      Completes (.comparatorCrossing ch slot high inputs true) s fun u =>
        let x := vget u.dev.chans ch
        u = s.withDev (fun d => d.modChan ch fun _ => x) ∧
        x.runt = (if 2 ≤ cs.length then satAdd 32 c.runt 1 else c.runt) ∧
        (if high then x.rxHigh else x.rxLow) = now ∧ (if high then x.rxLow else x.rxHigh) = (if high then c.rxLow else c.rxHigh) ∧
        now = (was != (cs.length % 2 == 1)) ∧ x.rx.length = c.rx.length + cs.length ∧
        (cs.length % 2 = 0 → (x.rx.filter (·.reported)).length = (c.rx.filter (·.reported)).length) ∧
        (∀ before f, cs = before ++ [f] → before.length % 2 = 0 →
          (x.rx.filter (·.reported)).length = (c.rx.filter (·.reported)).length + 1 ∧
          ({ high := high, rising := !was, reported := true
             pos := correctRx (s.dev.block ch) high (!was) (s.dev.fineNow + slot.val * 128 + f) } : RxEvent) ∈ x.rx))

/-- R69, R70, R72, R75, R77 and R89: what the lanes report. Each report with a fault makes one occurrence of its source in the
scope of the channel's owner and sets the lane's own latches; each within its limits makes none. A driver limit counts once, from
its first tick, and is a fault from the 64th. The reports concern a channel outside re-admission, while the core clock runs (R564), whose
condition was absent. -/
def Obligations.LaneReports : Prop :=
  ∀ (s : State) (ch : Chan), s.dev.stairs.now < 2 → (vget s.dev.chans ch).readmitting = false →
    let c0 := vget s.dev.chans ch
    let sc := ownerScope (s.dev.chOwner ch)
    let swing := s.dev.dict.cfg.nat 0x3004 ch.val
    let n := s.dev.newInconsistent ch
    let fresh := fun (src : Source) (res : Resource) =>
      (vget s.dev.fc.src src).present.contains res = false ∧ s.dev.fc.wires.getLsbD src.val = false
    let raises := fun (c : Instr) (src : Source) (P : Channel → Prop) => Completes c s fun u =>
      Dev.FaultOnly (s.withTb fun tb => { tb with marks := u.dev.tb.marks }).dev u.dev ∧ Dev.Occurred s.dev u.dev src sc ∧
        P (vget u.dev.chans ch) ∧ u.mem = s.mem ∧ u.pending = s.pending
    let limited := fun (n : Nat) (c : Channel) =>
      c.drvLimit = (if c0.limitTicks = 0 then satAdd 32 c0.drvLimit 1 else c0.drvLimit) ∧ c.limitTicks = max 1 n ∧
        c.limitInvalid = true ∧ c.limitClear = false
    (∀ n, 64 ≤ n → fresh 64 (.channel ch) → raises (.drvOverload ch n) 64 (limited n)) ∧
    (∀ n, n < 64 → Completes (.drvOverload ch n) s fun u =>
      limited n (vget u.dev.chans ch) ∧ u.dev.fc = s.dev.fc ∧ u.dev.tickRecs = s.dev.tickRecs ∧ u.mem = s.mem) ∧
    (∀ v, 4 * swing + 800 < 100 * (max v swing - min v swing) → fresh 65 (.channel ch) →
      raises (.swingMonitor ch v) 65 fun _ => True) ∧
    (∀ v, 100 * (max v swing - min v swing) ≤ 4 * swing + 800 →
      exec (.swingMonitor ch v) s = .next (s.withDev fun d => d.faultConditionFalls 65 (.channel ch))) ∧
    (fresh 69 (.channel ch) →
      raises (.rxOvervoltage ch) 69 fun c => c.clamp = true ∧ c.clampHiz = true ∧ c.clampClear = false) ∧
    (fresh 68 (.channel ch) → 16 < c0.inconsistFrame + n → raises (.rxInconsistent ch) 68 fun c =>
      c.inconsist = satAdd 32 c0.inconsist n ∧ c.inconsistFrame = c0.inconsistFrame + n) ∧
    (c0.inconsistFrame + n ≤ 16 → exec (.rxInconsistent ch) s = .next (s.withDev fun d => d.modChan ch fun c =>
      { c with inconsist := satAdd 32 c.inconsist n, inconsistFrame := c.inconsistFrame + n
               inconsistPos := s.dev.fineNow })) ∧
    (fresh 71 .device → Completes .vrefRange s fun u =>
      Dev.FaultOnly s.dev u.dev ∧ Dev.Occurred s.dev u.dev 71 8 ∧ u.dev.vrefInvalid = true ∧ u.mem = s.mem)

/-- R89, R91 and R92: with the reaction RETIRE, loss of lock of a lane PLL raises FS-067 for the owners of its four channels,
asks for the retirement of each of the four, which is served at the end of the tick (R90), and the records of those in service
carry INVALID from then on. -/
def Obligations.LanePllRetiresFour : Prop :=
  ∀ (s : State) (pll : Fin 13), s.dev.stairs.now < 2 → s.dev.rst.phase = 8 → s.dev.tb.fast = true →
    s.dev.reaction 67 % 16 = 2 → (vget s.dev.fc.src 67).present.contains (.lanePll pll) = false →
    s.dev.fc.wires.getLsbD 67 = false → (∀ c, (vget s.dev.chans c).readmitting = false) →
    Completes (.lanePllUnlock pll) s fun u =>
      u.mem = s.mem ∧ u.pending = s.pending ∧ Dev.FaultOnly s.dev u.dev ∧
      ∀ c : Chan, c.val / 4 = pll.val →
        (vget u.dev.fc.src 67).latched.getLsbD (ownerScope (s.dev.chOwner c)).val = true ∧ (c, 67) ∈ u.dev.retireFaults ∧
        (vget u.dev.chans c).st = (vget s.dev.chans c).st ∧
        ((vget s.dev.chans c).st = .inService → (vget u.dev.chans c).frameInvalid = true)

/-- R90, R91, R94, R95 and R96: a write of CH_RETIRE is answered at the end of the tick, where the retirements of the tick are
served, those of faults first. An accepted retirement of a channel in service reserves the lowest-numbered spare that is free;
where there is none a command is refused with MODE, nothing changed, and a fault makes the channel HELD. CH_READMIT is taken for a
RETIRED channel; an accepted recalibration stages its block and leads to PENDING_JOIN; at the timeout the channel returns to
RETIRED or HELD and FS-070 occurs. -/
def Obligations.RetireAndReadmit : Prop :=
  ∀ (s : State) (r : Req) (ch : Chan),
    let cause := match r with | .tenant _ => 0 | .mgmt => 1
    let free := fun (k : Chan) => (vget s.dev.chans k).st = .spare ∧ (vget s.dev.chans k).reserved = false ∧
      (vget s.dev.chans k).retire = none
    let retires := fun (sp : Option Chan) (cause fs : Nat) (x : Channel) =>
      { x with retire := some { cause := cause, fs := fs, spare := sp }
               retireCause := BitVec.ofNat 16 ((cause + 1) * 256 + if cause = 2 then fs % 256 else 0)
               frameInvalid := x.frameInvalid || cause == 2 }
    (s.accepts r 0x3010 ch.val [1] → s.dev.tb.fast = true →
      exec (.chRetire r ch [1]) s = .next (s.withDev fun d => { d with
        retireCmds := d.retireCmds ++ [(ch, cause)]
        heldAnswers := d.heldAnswers ++ [{ dest := .direct r, items := [{ ix := 0x3010, sub := ch.val, status := 0x100 }] }] })) ∧
    (s.dev.heldAnswers = [{ dest := .direct r, items := [{ ix := 0x3010, sub := ch.val, status := 0x100 }] }] → ∀ st,
      s.dev.answerHeld [(ch, st)] = { s.dev with heldAnswers := [] }.send (.itemStatus r 0x3010 ch.val st)) ∧
    ((vget s.dev.chans ch).st = .inService → (vget s.dev.chans ch).retire = none →
      let d0 := { s.dev with retireFaults := [], retireCmds := [] }
      (∀ sp, free sp → (∀ k, k < sp → ¬ free k) → ∀ cause,
        (s.dev.retireFaults = [] → s.dev.retireCmds = [(ch, cause)] → cause < 2 → s.dev.serveRetires =
          ((d0.modChan sp fun x => { x with reserved := true }).modChan ch (retires (some sp) cause 0xFFFF), [(ch, 0x00)])) ∧
        (∀ fs, s.dev.retireFaults = [(ch, fs)] → s.dev.retireCmds = [] → s.dev.serveRetires =
          ((d0.modChan sp fun x => { x with reserved := true }).modChan ch (retires (some sp) 2 fs), [])) ∧
        (∀ fs other, s.dev.retireFaults = [(ch, fs)] → s.dev.retireCmds = [(other, cause)] → other ≠ ch → cause < 2 →
          (vget s.dev.chans other).st = .inService → (vget s.dev.chans other).retire = none → (∀ k, free k → k = sp) →
          s.dev.serveRetires =
            ((d0.modChan sp fun x => { x with reserved := true }).modChan ch (retires (some sp) 2 fs), [(other, 0x0D)]))) ∧
      ((∀ k, ¬ free k) → ∀ cause fs, cause < 2 →
        (s.dev.retireFaults = [] → s.dev.retireCmds = [(ch, cause)] → s.dev.serveRetires = (d0, [(ch, 0x0D)])) ∧
        (s.dev.retireFaults = [(ch, fs)] → s.dev.retireCmds = [] →
          s.dev.serveRetires = (d0.modChan ch (retires none 2 fs), [])))) ∧
    (∀ a p, (vget s.dev.chans ch).retire = some a → a.spare = none → (vget s.dev.chans ch).map = some p →
      (vget (s.retireEffect ch).dev.chans ch).st = .held ∧ (vget (s.retireEffect ch).dev.chans ch).map = some p) ∧
    (∀ p, s.accepts r 0x3011 ch.val [1] → (vget s.dev.chans ch).st = .retired → (vget s.dev.chans ch).lastPin = some p →
      exec (.chReadmit r ch [1]) s = .next (s.answered r 0x3011 ch.val 0x00 fun d => d.modChan ch fun x =>
        { x with readmit := some { value := 1, cause := cause, wasHeld := false, pin := some p
                                   msLeft := s.dev.dict.cfg.nat 0x3012 ch.val } })) ∧
    (∀ a block, (vget s.dev.chans ch).readmit = some a → (vget s.dev.chans ch).st = .recal → blockOk block = true →
      block.length = 512 → Completes (.recalAccepted ch block) s fun u =>
        Dev.RecOnly (s.dev.modChan ch fun x =>
          { x with st := .pendingJoin, readmit := some { a with base := s.dev.block ch, block := block, meas := [] } }) u.dev ∧
        u.mem = s.mem ∧ u.pending = s.pending) ∧
    (∀ a, (vget s.dev.chans ch).readmit = some a → a.msLeft ≤ 1 → Completes (.readmitTimeout ch) s fun u =>
      (vget u.dev.chans ch).readmit = none ∧
      (vget u.dev.chans ch).st = (if a.wasHeld && (vget s.dev.chans ch).map.isSome then .held else .retired) ∧
      (vget u.dev.fc.src 70).count = satAdd 32 (vget s.dev.fc.src 70).count 1 ∧ Dev.FaultOnly s.dev u.dev ∧
      u.mem = s.mem ∧ u.pending = s.pending)

/-! ### Flags and event inputs by the dictionary (chapter 5) -/

/-- R161, R170 and R173: an accepted write of TF_SET or TF_CLEAR sets or clears the flags that it names in its tenant's
sequencer, of GF_SET or GF_CLEAR the device-wide flags; a write of 1 to EI_INJECT adds one event, at most one in a tick (that a
write of 0 adds none is the model's choice, notes/assumptions/27). The write is answered OK; no other flag, no memory and no
dictionary value changes. -/
def Obligations.FlagWrites : Prop :=
  ∀ (s : State) (r : Req) (t : Tenant) (v : Bytes),
    let ix := fun (o : Nat) => 0x2000 + 0x100 * t.val + o
    let done := fun (c : Instr) (index sub : Nat) (P : Dev → Prop) => Completes c s fun u =>
      P u.dev ∧ (∀ w, w ≠ t → (u.dev.seq w).tf = (s.dev.seq w).tf) ∧ u.dev.dict = s.dev.dict ∧
      u.dev.out = s.dev.out ++ [.itemStatus r index sub 0x00] ∧ u.mem = s.mem ∧ u.pending = s.pending
    (s.accepts r (ix 0x18) 1 v → done (.tfSet r t v) (ix 0x18) 1 fun d =>
      (d.seq t).tf = (s.dev.seq t).tf ||| BitVec.ofNat 16 (beNat v) ∧ d.gf = s.dev.gf) ∧
    (s.accepts r (ix 0x18) 2 v → done (.tfClear r t v) (ix 0x18) 2 fun d =>
      (d.seq t).tf = (s.dev.seq t).tf &&& ~~~BitVec.ofNat 16 (beNat v) ∧ d.gf = s.dev.gf) ∧
    (s.accepts r (ix 0x21) 1 v → done (.gfSet r t v) (ix 0x21) 1 fun d =>
      d.gf = s.dev.gf ||| BitVec.ofNat 32 (beNat v) ∧ (d.seq t).tf = (s.dev.seq t).tf) ∧
    (s.accepts r (ix 0x21) 2 v → done (.gfClear r t v) (ix 0x21) 2 fun d =>
      d.gf = s.dev.gf &&& ~~~BitVec.ofNat 32 (beNat v) ∧ (d.seq t).tf = (s.dev.seq t).tf) ∧
    (∀ i : Fin 8, s.accepts r (ix 0x26) i.val v → (vget (s.dev.seq t).ei i).count < 65535 →
      s.dev.hadEvent t (injectKey i) = false →
      done (.eiInject r t i v) (ix 0x26) i.val fun d =>
        (vget (d.seq t).ei i).count = (vget (s.dev.seq t).ei i).count + (if beNat v = 1 then 1 else 0) ∧
        (∀ k, k ≠ i → vget (d.seq t).ei k = vget (s.dev.seq t).ei k) ∧ (d.seq t).tf = (s.dev.seq t).tf ∧ d.gf = s.dev.gf)

/-! ### Vectors and the Gallery (chapters 4 and 7) -/

/-- R106, R119, R122, R123, R148 and R205: a vector that starts, at its start's tick, moves the start of the next by exactly its
period, takes the next vector number and leaves its compares pending, each with the window of its pin; a vector of a REPEAT stays
at the head of the FIFO with one repetition less. A RAW segment of n ticks starts on a tick, after a pad tick where a vector
precedes it, and one pad tick follows it. An entry without a vector leaves the FIFO. -/
def Obligations.VectorStarts : Prop :=
  ∀ (s s1 : State) (t : Tenant) (k : Nat) (v : Vec) (rest : List Vec), s.dev.startTick t = some k → s.reach k = some s1 →
    (s1.dev.seq t).fifo = v :: rest → v.effects = [] →
    let q := s1.dev.seq t
    let edge := fun (p : Nat) => (p + 8191) / 8192 * 8192
    let start := match v.release with
      | some x => max ((x + 64) * 8192) (edge q.pos)
      | none => if v.raw.isSome then edge (if q.inRun then q.pos + 8192 else q.pos) else q.pos
    let set := s1.dev.dict.cfg.tsPin t v.tset
    Completes (.vectorStart t) s fun u =>
      (v.tail = false → v.raw = none →
        (u.dev.seq t).pos = start + s1.dev.dict.cfg.period t v.tset ∧ (u.dev.seq t).vectors = satAdd 64 q.vectors 1 ∧
        (v.reps ≤ 1 → (u.dev.seq t).fifo = rest) ∧
        (1 < v.reps → ∃ w, (u.dev.seq t).fifo = w :: rest ∧ w.reps = v.reps - 1 ∧ w.codes = v.codes ∧ w.tset = v.tset) ∧
        (∃ c, (u.dev.seq t).compares = q.compares ++ [c] ∧ c.start = start ∧ c.vecNo = q.vectors ∧ c.silent = v.silent ∧
          ∀ p code a b, (p, code, a, b) ∈ c.wins ↔ (p, code) ∈ v.codes ∧ codeExpect code ≠ .none ∧
            a = start + (set p).cmpOpen ∧ b = start + (set p).cmpClose)) ∧
      (∀ n w comparing ring, v.tail = false → v.raw = some (n, w, comparing, ring) →
        (u.dev.seq t).pos = start + (n + 1) * 8192 ∧ (u.dev.seq t).vectors = q.vectors ∧ (u.dev.seq t).fifo = rest ∧
        (comparing = false → (u.dev.seq t).compares = q.compares) ∧
        (comparing = true → ∃ c, (u.dev.seq t).compares = q.compares ++ [c] ∧ c.start = start ∧ c.raw = v.raw ∧
          c.close = start + n * 8192)) ∧
      (v.tail = true → (u.dev.seq t).fifo = rest ∧ (u.dev.seq t).pos = q.pos ∧ (u.dev.seq t).compares = q.compares) ∧
      (u.dev.seq t).counters = q.counters ∧ (u.dev.seq t).pc = q.pc ∧ (u.dev.seq t).state = q.state ∧
      (∀ w, w ≠ t → u.dev.seq w = s1.dev.seq w) ∧ u.dev.gf = s1.dev.gf ∧ u.mem = s1.mem ∧
      (q.state.busy = true → v.tail = false → u.dev.gallery = s1.dev.gallery)

/-- R119, R156, R205 and R207: the results of the oldest pending vector, once its last CMP_CLOSE has come. Whatever FG_MODE
holds, each pin with a failing and not invalid result counts one fail in its accumulator of the frame, and each with an invalid
result one in INVALID_COMPARES; a pin with a passing result or none counts nothing. Compares that a MATCH-LOOP suppresses deliver
nothing, and a failing one of a pass makes the pass fail. -/
def Obligations.CompareResults : Prop :=
  ∀ (s s1 : State) (t : Tenant) (k : Nat) (c : Cmp) (rest : List Cmp), s.dev.compareTick t = some k → s.reach k = some s1 →
    (s1.dev.seq t).compares = c :: rest → c.raw = none → c.close / 8192 ≤ s1.dev.tb.tick →
    let result := fun (p : Pin) (code a b : Nat) =>
      judge code (s1.dev.statesIn p a b) !(s1.dev.crossings p a (b + 1)).isEmpty
    (c.silent = true → c.inMatch = false → exec (.compareResult t) s = .next (s1.onSeq t fun q =>
      { q with compares := rest, closed := max q.closed c.close })) ∧
    (∀ m, c.inMatch = true → (s1.dev.seq t).matching = some m → (∃ p code a b, (p, code, a, b) ∈ c.wins ∧
      result p code a b = some false) → Completes (.compareResult t) s fun u =>
        (u.dev.seq t).compares = rest ∧ (u.dev.seq t).matching = some { m with failed := true }) ∧
    (c.silent = false → (c.wins.map (·.1)).Nodup →
      Completes (.compareResult t) s fun u =>
        (u.dev.seq t).compares = rest ∧
        (∀ p code a b, (p, code, a, b) ∈ c.wins →
          let res := result p code a b
          let inv := s1.dev.pinInvalidIn p (a / 8192) (b / 8192)
          vget (vget u.dev.gallery t).accum p =
            vget (vget s1.dev.gallery t).accum p + (if res = some false ∧ inv = false then 1 else 0) ∧
          (res.isSome = true → inv = true → vget (vget u.dev.gallery t).invalidCompares p =
            satAdd 32 (vget (vget s1.dev.gallery t).invalidCompares p) 1)) ∧
        (∀ p, p ∉ c.wins.map (·.1) →
          vget (vget u.dev.gallery t).accum p = vget (vget s1.dev.gallery t).accum p ∧
          vget (vget u.dev.gallery t).invalidCompares p = vget (vget s1.dev.gallery t).invalidCompares p) ∧
        (∀ w, w ≠ t → vget u.dev.gallery w = vget s1.dev.gallery w ∧ u.dev.seq w = s1.dev.seq w) ∧
        u.mem = s1.mem)

/-- R206, R208 and R209: the flush adds the closed increment of the lowest-numbered pin that has one. Without a carry
one write of the low cell completes the update; with one, the low cell is written with CARRY_PENDING, then the high cell,
then the low cell again, and the counter holds the sum. Memory outside the pin's cells is unchanged. A read finds the value of
the last completed update. -/
def Obligations.CounterFlushAndRead : Prop :=
  ∀ (s : State) (t : Tenant) (p : Pin), s.Inv → (s.dev.areaBanks 2 t) ≠ [] → s.dev.arb.poison = [] →
    let low := leNat (s.dev.areaBytes s.mem 2 t (128 * (p.val / 8) + 8 * (p.val % 8)) 8)
    let high := leNat (s.dev.areaBytes s.mem 2 t (128 * (p.val / 8) + 8 * (p.val % 8) + 64) 8)
    let lowAt := fun (a : Nat) => ∃ i, i < 8 ∧ a = s.dev.areaAddr 2 t (128 * (p.val / 8) + 8 * (p.val % 8) + i)
    let highAt := fun (a : Nat) => ∃ i, i < 8 ∧ a = s.dev.areaAddr 2 t (128 * (p.val / 8) + 8 * (p.val % 8) + 64 + i)
    let inc := vget (vget s.dev.gallery t).closed p
    low < 2 ^ 32 → high < 2 ^ 32 → (vget s.dev.gallery t).flush = none →
    (0 < inc → inc < 2 ^ 32 → (∀ q, q < p → vget (vget s.dev.gallery t).closed q = 0) →
      (low + inc < 2 ^ 32 → Completes (.counterFlush t 1) s fun u =>
        u.counterValue t p = high * 2 ^ 32 + low + inc ∧ vget (vget u.dev.gallery t).closed p = 0 ∧
        (vget u.dev.gallery t).flush = none ∧ (∀ a, ¬ lowAt a → Mem.read u.mem a = Mem.read s.mem a) ∧ u.dev.seqs = s.dev.seqs) ∧
      (2 ^ 32 ≤ low + inc →
        (Completes (.counterFlush t 1) s fun u =>
          u.cell t (lowCell p) = low + inc ∧ u.cell t (highCell p) = high ∧
          ∀ a, ¬ lowAt a → Mem.read u.mem a = Mem.read s.mem a) ∧
        (Completes (.counterFlush t 3) s fun u =>
          u.cell t (lowCell p) = low + inc - 2 ^ 32 ∧ u.cell t (highCell p) = (high + 1) % 2 ^ 32 ∧
          vget (vget u.dev.gallery t).closed p = 0 ∧ (vget u.dev.gallery t).flush = none ∧
          ∀ a, ¬ lowAt a → ¬ highAt a → Mem.read u.mem a = Mem.read s.mem a))) ∧
    (s.dev.dict.cfg.pinOwner p = some t → ∀ r,
      exec (.failCountRead r t p) s = .next (s.withDev fun d =>
        d.send (.itemValue r (0x5002 + 16 * t.val) p.val 0x00 (natBE 8 (high * 2 ^ 32 + low)))))

/-- R210: a read that finds CARRY_PENDING returns the repaired value with status TORN, writes the high cell and clears the
bit, counts the repair and raises FS-042. -/
def Obligations.TornCounterRead : Prop :=
  ∀ (s : State) (r : Req) (t : Tenant) (p : Pin), s.Inv → (s.dev.areaBanks 2 t) ≠ [] →
    s.dev.dict.cfg.pinOwner p = some t → (vget s.dev.gallery t).flush = none →
    ∀ low high, s.cell t (lowCell p) = 2 ^ 32 + low → low < 2 ^ 32 → s.cell t (highCell p) = high → high < 2 ^ 32 - 1 →
    Completes (.failCountRead r t p) s fun u =>
      u.cell t (lowCell p) = low ∧ u.cell t (highCell p) = high + 1 ∧
      (vget u.dev.gallery t).tornRepairs = satAdd 32 (vget s.dev.gallery t).tornRepairs 1 ∧
      Dev.Occurred s.dev u.dev 42 (tenantScope t) ∧
      u.dev.out = s.dev.out ++ [.itemValue r (0x5002 + 16 * t.val) p.val 0x0C (natBE 8 ((high + 1) * 2 ^ 32 + low))] ∧
      u.pending = s.pending

/-! ### Trigger and acquisition (chapter 8) -/

/-- R236, R238, R240, R241, R242 and R243: the qualifier. TRIGGER_EVENT brings an event of the source that the stage selects, for a
pattern where it changes from false to true (ENTER); the events of a tick are judged at its end, in order of time, and of one
source at one stage the first alone. An event while ARMED counts; the TRIG_COUNT-th completes the condition, and the state becomes
POST with the trigger point TRIG_DELAY later; while FILLING, or before the qualifier's first tick, it is ignored and counted so;
in other states nothing happens. In SEQUENCE an A event opens the window, and a B event counts only strictly later and within it;
a B event after its end closes it. A write of 1 to ACQ_FORCE is kept for the edge (a write of 0 does nothing: the model's choice,
notes/assumptions/27). -/
def Obligations.TriggerQualifier : Prop :=
  ∀ (s : State) (t : Tenant),
    let c := s.dev.dict.cfg
    let a := vget s.dev.acq t
    let onAcq := fun (s : State) (f : Acq → Acq) => Host.Outcome.next (φ := Fault) (ρ := Refusal) (s.withDev fun d => d.modAcq t f)
    (∀ (fine : Fin 8192) (slot : Fin 64) (stageB : Bool),
      let src := c.trg t (if stageB then 2 else 1)
      (src = 0 → exec (.triggerEvent t stageB fine slot) s = .next s) ∧
      (1 < src → exec (.triggerEvent t stageB fine slot) s = onAcq s fun a =>
        { a with tickTrigs := a.tickTrigs ++ [{ pos := s.dev.tb.tick * 8192 + fine.val, src := src, stageB := stageB }] }) ∧
      (src = 1 → a.active = true → s.dev.patternEvent t stageB slot.val = true →
        exec (.triggerEvent t stageB fine slot) s = onAcq s fun a => { a with tickTrigs := a.tickTrigs ++
          [{ pos := s.dev.latestSample (c.caredPins t stageB) s.dev.tb.tick slot.val, src := 1, stageB := stageB }] }) ∧
      (src = 1 → bit (c.trg t 6) (if stageB then 1 else 0) = false → 0 < slot.val →
        (s.dev.patternTrue t stageB s.dev.tb.tick (slot.val - 1) = true ∨
          s.dev.patternTrue t stageB s.dev.tb.tick slot.val = false) →
        exec (.triggerEvent t stageB fine slot) s = .next s)) ∧
    (∀ (e : TrigEv) (later : List TrigEv), a.tickTrigs = e :: later → e.taken = false → a.origin ≤ s.dev.tb.tick →
      (∀ x ∈ later, x.src = e.src ∧ x.stageB = e.stageB ∧ x.taken = false ∧ e.pos ≤ x.pos) →
      let becomes := fun (f : Acq → Acq) => s.dev.endTriggers t = s.dev.modAcq t fun a => { f a with tickTrigs := [] }
      (a.st = 2 → a.armTick * 8192 ≤ e.pos →
        (c.trg t 0 = 0 → e.stageB = false → a.window = none →
          (a.count + 1 < c.trg t 3 → becomes fun a => { a with count := a.count + 1 }) ∧
          (c.trg t 3 ≤ a.count + 1 →
            let u := s.dev.endTriggers t
            (vget u.acq t).st = 3 ∧
            (∃ tp, (vget u.acq t).trig = some tp ∧ tp.pos = e.pos + c.trg t 5 ∧ tp.source = e.src ∧ tp.forced = false) ∧
            (∀ w, w ≠ t → vget u.acq w = vget s.dev.acq w) ∧ u.seqs = s.dev.seqs)) ∧
        (c.trg t 0 = 1 → e.stageB = false → (∀ w, a.window = some w → e.pos ≤ w + c.trg t 4 * 8192) →
          becomes fun a => { a with window := some e.pos }) ∧
        (c.trg t 0 = 1 → e.stageB = true → ∀ w, a.window = some w →
          (w < e.pos → e.pos ≤ w + c.trg t 4 * 8192 → a.count + 1 < c.trg t 3 → becomes fun a => { a with count := a.count + 1 }) ∧
          (e.pos ≤ w → becomes id) ∧
          (w + c.trg t 4 * 8192 < e.pos → becomes fun a => { a with window := none, count := 0 }))) ∧
      (e.stageB = false → a.st = 1 ∨ (a.st = 2 ∧ a.window = none ∧ e.pos < a.armTick * 8192) →
        becomes fun a => { a with ignored := satAdd 32 a.ignored 1, segIgnored := satAdd 32 a.segIgnored 1 }) ∧
      (a.st = 0 ∨ a.st = 3 ∨ a.st = 4 ∨ a.st = 5 → becomes id)) ∧
    (∀ s1 : State,
      (a.st = 1 → s.reach (s.dev.armTickOf t - 1) = some s1 → (vget s1.dev.acq t).st = 1 → exec (.pretriggerFull t) s =
        onAcq s1 fun a => { a with st := 2, count := 0, window := none, armTick := s1.dev.armTickOf t }) ∧
      (∀ k, s.dev.windowTick t = some k → s.reach k = some s1 → (vget s1.dev.acq t).tickTrigs = [] →
        (vget s1.dev.acq t).st = 2 → (vget s1.dev.acq t).window.isSome = true →
        exec (.trigWindowClose t) s = onAcq s1 fun a => { a with window := none, count := 0 })) ∧
    (∀ r v, s.accepts r (0x5101 + 0x10 * t.val) 0x0B v →
      exec (.acqForce r t v) s = .next (s.answered r (0x5101 + 0x10 * t.val) 0x0B 0x00 fun d =>
        d.modAcq t fun a => { a with forceDue := a.forceDue || beNat v == 1 })) ∧
    (a.st = 2 → a.forceDue = true →
      (vget (s.dev.forceTrigger t).acq t).st = 3 ∧ (vget (s.dev.forceTrigger t).acq t).forceDue = false ∧
      ∃ tp, (vget (s.dev.forceTrigger t).acq t).trig = some tp ∧ tp.pos = s.dev.tb.tick * 8192 + c.trg t 5 ∧ tp.forced = true)

/-- R239 and R261: an edge of a TRIG_IN line reaches every tenant that arms it for that direction and no other: the first in
a tick is delivered, a further one counts in TRIG_IN_EXCESS. A pulse that ends, at its tick, lets its line fall unless another cause
holds it high. -/
def Obligations.TriggerLines : Prop :=
  ∀ (s : State) (line : Fin 4),
    (∀ (rising : Bool) (fine : Fin 8192), s.dev.rst.phase = 8 → s.dev.stairs.now = 0 →
      let at_ : Int := (s.dev.tb.tick * 8192 + fine.val : Nat) - s.dev.dict.cfg.int 0x5180 line.val
      Completes (.trigInEdge line rising fine) s fun u =>
        u.mem = s.mem ∧ u.pending = s.pending ∧ ∀ t : Tenant,
          let a := vget s.dev.acq t
          (s.dev.trigInArmed line rising t = false → vget u.dev.acq t = a ∧ u.dev.seq t = s.dev.seq t) ∧
          (s.dev.trigInArmed line rising t = true → vget a.lineTick line = some s.dev.tb.tick →
            vget u.dev.acq t = { a with trigInExcess := satAdd 32 a.trigInExcess 1 } ∧ u.dev.seq t = s.dev.seq t) ∧
          (s.dev.trigInArmed line rising t = true → vget a.lineTick line ≠ some s.dev.tb.tick →
            vget (vget u.dev.acq t).lineTick line = some s.dev.tb.tick ∧
            (s.dev.dict.cfg.trg t 1 = 2 + line.val → s.dev.dict.cfg.trg t 2 ≠ 2 + line.val →
              (vget u.dev.acq t).tickTrigs = a.tickTrigs ++ [{ pos := at_.toNat, src := 2 + line.val, stageB := false }]) ∧
            (s.dev.hadEvent t line.val = false → ∀ i, (vget (s.dev.seq t).ei i).count < 65535 →
              (vget (u.dev.seq t).ei i).count =
                (vget (s.dev.seq t).ei i).count + (if (s.dev.eiSources t i).contains line.val then 1 else 0)))) ∧
    (∀ (acq : Bool) (k : Nat) (s1 : State), s.dev.pulseEnd line acq = some k → s.reach k = some s1 →
      let l := vget s1.dev.trigLines line
      let l' := if acq then { l with acqPulse := none } else { l with seqPulse := none }
      let shows := (s1.dev.rst.phase = 8 ∧ s1.dev.jtag.pins = 0 ∧ s1.dev.rst.fuseLatched = true ∧ s1.dev.modes.device ≠ 11 ∧
        (∃ t, s1.dev.dict.cfg.trigGrant t line.val = true) ∧ vget s1.dev.discrete (lineOut line) = some l.high)
      Completes (.trigoutPulseEnd line acq) s fun u =>
        vget u.dev.trigLines line = l' ∧ (∀ k, k ≠ line → vget u.dev.trigLines k = vget s1.dev.trigLines k) ∧
        (shows → u.dev.out = s1.dev.out ++
          (if l.high && !l'.high then [.discrete (lineOut line) s1.dev.tb.tick (some false)] else [])) ∧
        u.dev.acq = s1.dev.acq ∧ u.dev.seqs = s1.dev.seqs ∧ u.mem = s1.mem)

/-- R233: at its end a triggered segment is counted; the last makes the state DONE, and otherwise the next segment begins at
the next tick. Only the bytes of the segment are written. -/
def Obligations.SegmentCompletes : Prop :=
  ∀ (s s1 : State) (t : Tenant) (e : Nat), s.dev.segEnd t = some e → s.reach e = some s1 →
    let a := vget s1.dev.acq t
    let c := s1.dev.dict.cfg
    a.st = 3 → s1.dev.segEnd t = some e → e ≤ s1.dev.tb.tick → a.segBytes = c.segBytes t → c.acq t 2 ≤ 2 → s1.Inv →
    Completes (.segmentComplete t) s fun u =>
      (vget u.dev.acq t).segDone = satAdd 32 a.segDone 1 ∧
      (c.acq t 7 ≤ a.seg + 1 → (vget u.dev.acq t).st = 4) ∧
      (a.seg + 1 < c.acq t 7 → (vget u.dev.acq t).seg = a.seg + 1 ∧ (vget u.dev.acq t).origin = e + 1 ∧
        (vget u.dev.acq t).st = (if c.acq t 5 = 0 then 2 else 1)) ∧
      (∀ x, (∀ i, i < a.segBytes → x ≠ s1.dev.areaAddr 1 t (a.seg * a.segBytes + i)) → Mem.read u.mem x = Mem.read s1.mem x) ∧
      (∀ w, w ≠ t → vget u.dev.acq w = vget s1.dev.acq w) ∧ u.dev.seqs = s1.dev.seqs ∧ u.dev.gf = s1.dev.gf

/-! ### Memory and the frame arbiter (chapter 9) -/

/-- R270, R271, R272 and R283: a scrubbed row without error moves the scrubber to the next row, and the last one ends the
pass; a corrected word counts, raises FS-032 for its owner and waits for its write-back; an uncorrectable word counts, is
reported at its address and stays poisoned. A withheld tick grants the scrubber no cycle, but in bank 60. A pass beyond its limit raises FS-035 once. An overrun, the guards'
ticks of the frame beyond the quota, counts once a frame with FS-037. -/
def Obligations.ScrubbingAndOverruns : Prop :=
  ∀ (s : State) (bank : Fin 64),
    let row := vget s.dev.arb.scrubRow bank
    let arb := fun (f : Arb → Arb) => Host.Outcome.next (φ := Fault) (ρ := Refusal) (s.withDev fun d => { d with arb := f d.arb })
    let taken := bank.val = 60 ∨ s.dev.withheldTick s.dev.tb.tick = false
    (∀ l m, ¬ taken → exec (.scrubRow bank l m) s = .next s) ∧
    (taken → row < 16383 → exec (.scrubRow bank [] []) s =
      arb fun a => { a with scrubRow := vmod a.scrubRow bank fun r => r + 1 }) ∧
    (taken → row = 16383 → ∃ b : Arb, exec (.scrubRow bank [] []) s = arb (fun _ => b) ∧ vget b.scrubRow bank = 0 ∧
      b.scrubPasses = satAdd 32 s.dev.arb.scrubPasses 1 ∧ vget b.scrubLate bank = false ∧ b.poison = s.dev.arb.poison) ∧
    (∀ l : Fin 8, taken → row < 16383 →
      let addr := bank.val * 2 ^ 20 + row * 64 + l.val * 8
      (Completes (.scrubRow bank [l] []) s fun u =>
        u.dev.arb.eccCorrected = satAdd 32 s.dev.arb.eccCorrected 1 ∧ u.dev.arb.writeBack = s.dev.arb.writeBack ++ [addr] ∧
        vget u.dev.arb.scrubRow bank = row + 1 ∧ Dev.Occurred s.dev u.dev 32 (ownerScope (s.dev.wordOwner addr)) ∧ u.mem = s.mem) ∧
      (Completes (.scrubRow bank [] [l]) s fun u =>
        u.dev.arb.eccUncorrectable = satAdd 32 s.dev.arb.eccUncorrectable 1 ∧ u.dev.arb.eccLastAddr = addr ∧
        addr ∈ u.dev.arb.poison ∧ vget u.dev.arb.scrubRow bank = row + 1 ∧
        (∀ t, s.dev.wordOwner addr = some t → Dev.Occurred s.dev u.dev 33 (tenantScope t)) ∧
        (s.dev.wordOwner addr = none → Dev.Occurred s.dev u.dev 34 8) ∧ u.mem = s.mem)) ∧
    (∀ addr rest, s.dev.arb.writeBack = addr :: rest → addr / 2 ^ 20 = bank.val →
      exec (.eccWriteback bank) s = arb fun a => { a with writeBack := rest }) ∧
    (s.dev.dict.cfg.nat 0x1902 0 < s.dev.tb.ms - vget s.dev.arb.scrubStart bank → (vget s.dev.fc.src 35).cond.getLsbD 8 = false →
      s.dev.fc.wires.getLsbD 35 = false → s.dev.latches 35 = true →
      (vget s.dev.arb.scrubLate bank = false → Completes (.scrubLate bank) s fun u =>
        vget u.dev.arb.scrubLate bank = true ∧ Dev.Occurred s.dev u.dev 35 8 ∧ u.mem = s.mem) ∧
      (vget s.dev.arb.scrubLate bank = true → exec (.scrubLate bank) s = .next s)) ∧
    (∀ t, (vget s.dev.fc.src 37).cond = 0 → s.dev.fc.wires.getLsbD 37 = false → s.dev.latches 37 = true →
      let beyond := s.dev.dict.cfg.quietQuota t < (s.dev.guardTicks t s.dev.tb.tick).length
      (¬ beyond → exec (.quietOverrun t) s = .next s) ∧
      (beyond → vget s.dev.arb.overrun t = false → Completes (.quietOverrun t) s fun u =>
        vget u.dev.arb.overrun t = true ∧ vget u.dev.arb.overruns t = satAdd 32 (vget s.dev.arb.overruns t) 1 ∧
        Dev.Occurred s.dev u.dev 37 (tenantScope t) ∧ (∀ p, u.dev.pinInvalid t p = true) ∧ u.mem = s.mem) ∧
      (vget s.dev.arb.overrun t = true → exec (.quietOverrun t) s = .next s))

/-- R287 and R288: a shortfall raises FS-036 for the tenant that owns the bank, counts for its class, and is booked for the frame
edge, where one BUDGET_BREACH record per class and bank and frame goes to each tenant concerned and to management; BREACH_LAST
then holds its payload's values. -/
def Obligations.BudgetBreaches : Prop :=
  ∀ (s : State) (cls : Fin 11) (bank : Fin 64) (t : Tenant) (short lost : Nat), bank.val < 60 →
    vget s.dev.arb.bankOwner bank = t.val →
    let entry : Breach :=
      { cls := cls.val, bank := bank.val, short := short, flags := breachFlags cls lost, tenants := [t], owner := some t }
    (Completes (.budgetBreach cls bank short lost) s fun u =>
      Dev.Occurred s.dev u.dev 36 (tenantScope t) ∧
      vget u.dev.arb.breachCount cls = satAdd 32 (vget s.dev.arb.breachCount cls) 1 ∧
      ((∀ x ∈ s.dev.arb.breaches, ¬ (x.cls = cls.val ∧ x.bank = bank.val)) → u.dev.arb.breaches = s.dev.arb.breaches ++ [entry]) ∧
      (∀ x rest, s.dev.arb.breaches = x :: rest → x.cls = cls.val → x.bank = bank.val →
        u.dev.arb.breaches = { x with short := x.short + short, flags := x.flags ||| entry.flags } :: rest) ∧
      u.mem = s.mem ∧ u.pending = s.pending) ∧
    (s.dev.atEdge = true →
      let frame := s.dev.frame - 1
      let head := natLE 1 cls.val ++ natLE 1 bank.val ++ natLE 1 t.val ++ natLE 1 (breachFlags cls lost)
      let record := fun (dest : Recipient) =>
        s.dev.mkRec dest t.val 0x0E (0x7000 + bank.val) s.dev.now (head ++ natLE 4 short ++ natLE 4 frame)
      let u := s.dev.breachRecord entry
      u.edgeRecs = s.dev.edgeRecs ++ [record (.tenant t), record .mgmt] ∧
      u.arb.breachLast = head ++ natBE 4 short ++ natBE 4 frame)

/-! ### The microsequencers (chapter 6) -/

/-- R175, R177, R179, R180, R182 and Table MS-2: the next address of a plain word, fetched by a running engine that has had none in
this tick. The word at the micro-address is of the command's class, met no ECC error and no match register, its nano-word has no
operation (bits 169 to 64 zero) and a condition; no condition is latched. A taken branch adds the displacement, a taken jump goes
to the target, a call pushes the next address, a return pops, a dispatch takes its index from the head of the prefetch buffer or
from the procedure register and goes to the table's entry, or stops the engine where that is no mapped address; a word not taken
goes on. The engine is charged one tick of its sequencer's slack; a safe point ends the gap and another word lengthens it. Nothing else changes. A command whose word is of
another class, or whose engine has no clock, does nothing. -/
def Obligations.MicroInstructions : Prop :=
  ∀ (s : State) (e : Engine) (f : MicroFetch),
    let m := vget s.dev.micro.engines e
    let word := s.dev.micro.word m.upc
    let n := s.dev.micro.nano m.upc word
    let cls := mf word 23 21
    (s.dev.engineRuns e = false → ∀ c ∈ [Instr.microSeq e f, .microSafe e f, .microBr e f, .microJmp e f, .microCall e f,
      .microRet e f, .microDispatch e f, .sysStall e f, .sysResume e f, .selfReset e f], exec c s = .next s) ∧
    (s.dev.engineRuns e = true → m.fetched ≠ some s.dev.tb.tick → m.stalling = false → m.pending = 0 →
      openTo e m.upc = true → m.gap < 63 → s.dev.micro.redirect e m.upc = none → f.ecc = 0 →
      (cls ≠ 0 → exec (.microSeq e f) s = .next s) ∧ (cls ≠ 1 → exec (.microSafe e f) s = .next s) ∧
      (nanoOk n = true → nf n 169 64 = 0 →
        let c := s.dev.microCond e f n
        let target := nf n 190 176
        let goesWith := fun (a : Nat) (stack : List Nat) (safe : Bool) (f : Dev → Dev) =>
          Host.Outcome.next (φ := Fault) (ρ := Refusal) (s.withDev fun d =>
            (match engineTenant e with
              | some t => (f d).modSeq t fun q =>
                  { q with slack := q.slack - finePerTick, slackMin := min q.slackMin (q.slack - finePerTick) }
              | none => f d).modEngine e fun x =>
                { x with
                  upc := a, stack := stack, gap := if safe then 0 else m.gap + 1
                  gapMax := max m.gapMax (if safe then 0 else m.gap + 1), fetched := some s.dev.tb.tick
                  debt := m.debt + match engineTenant e with | some t => finePerTick - (s.dev.seq t).slack | none => 0 })
        let goes := fun (a : Nat) (stack : List Nat) (safe : Bool) => goesWith a stack safe id
        (mapped (m.upc + 1) = true → cls = 0 → exec (.microSeq e f) s = goes (m.upc + 1) m.stack false) ∧
        (mapped (m.upc + 1) = true → cls = 1 → exec (.microSafe e f) s = goes (m.upc + 1) m.stack true) ∧
        (cls = 2 → ∀ a, a = (if c then ofSigned 15 ((m.upc : Int) + toSigned 10 (mf word 9 0)) else m.upc + 1) →
          mapped a = true → exec (.microBr e f) s = goes a m.stack false) ∧
        (cls = 3 → ∀ a, a = (if c then target else m.upc + 1) → mapped a = true → exec (.microJmp e f) s = goes a m.stack false) ∧
        (cls = 4 → c = true → m.stack.length < 8 → mapped target = true →
          exec (.microCall e f) s = goes target ((m.upc + 1) :: m.stack) false) ∧
        (cls = 4 → c = false → mapped (m.upc + 1) = true → exec (.microCall e f) s = goes (m.upc + 1) m.stack false) ∧
        (cls = 5 → c = true → ∀ a rest, m.stack = a :: rest → mapped a = true → exec (.microRet e f) s = goes a rest false) ∧
        (cls = 5 → c = false → mapped (m.upc + 1) = true → exec (.microRet e f) s = goes (m.upc + 1) m.stack false) ∧
        let stops := Host.Outcome.next (φ := Fault) (ρ := Refusal) (s.withDev fun d =>
          (d.modEngine e fun x => { x with fetched := some s.dev.tb.tick, gap := 0 }).microFault e m.upc 0x01)
        (cls = 6 → mf word 9 0 = 0 → ∀ w rest, m.prefetch = w :: rest →
          let a := dispatchEntry 0 (bits w 63 56)
          exec (.microDispatch e f) s = if mapped a then goesWith a m.stack true fun d => d.modEngine e fun x =>
            { x with
              instr := w, prefetch := rest, prefetchPc := x.prefetchPc + 1
              ctrlReq := x.ctrlReq.orElse fun _ => some (none, s.dev.tb.tick) } else stops) ∧
        (cls = 6 → mf word 9 0 = 1 → e = 8 → ∀ k rest, s.dev.micro.procReg = k :: rest →
          let a := dispatchEntry 1 k
          exec (.microDispatch e f) s = if mapped a then goesWith a m.stack true fun d =>
            { d with micro := { d.micro with procReg := rest } } else stops)))

/-- R181, R185, R188, R189, R194, R198 and R199: SYS STALL goes on once its condition holds and waits otherwise, RESUME returns to
the resume address and ends the handler, but never that of KILL, SELF_RESET empties the engine and counts; a latched condition is
entered at a safe point, its highest priority first; an uncorrectable word stops the engine; a match register redirects the fetch
to its patch word and counts the hit. An accepted ENGINE_RESET waits for the next frame edge, which makes it. -/
def Obligations.MicroSystem : Prop :=
  ∀ (s : State) (e : Engine) (f : MicroFetch),
    let m := vget s.dev.micro.engines e
    s.dev.engineRuns e = true → m.fetched ≠ some s.dev.tb.tick → m.stalling = false → openTo e m.upc = true → m.gap < 63 →
    let word := s.dev.micro.word m.upc
    let n := s.dev.micro.nano m.upc word
    let cls := mf word 23 21
    let op := mf word 9 8
    let plain := s.dev.micro.redirect e m.upc = none ∧ f.ecc = 0 ∧ nanoOk n = true ∧ nf n 169 64 = 0
    let sys := cls = 7 ∧ mf word 7 0 = 0
    let base := { m with
      fetched := some s.dev.tb.tick
      debt := m.debt + match engineTenant e with | some t => finePerTick - (s.dev.seq t).slack | none => 0 }
    let engine := fun (c : Instr) (f : MicroEngine → MicroEngine) => Completes c s fun u =>
      vget u.dev.micro.engines e = f base ∧ (∀ k, k ≠ e → vget u.dev.micro.engines k = vget s.dev.micro.engines k) ∧
      u.dev.gf = s.dev.gf ∧ u.dev.dict = s.dev.dict ∧ u.mem = s.mem ∧ u.pending = s.pending
    (plain → sys → op = 0 → m.pending = 0 →
      (s.dev.microCond e f n = true → mapped (m.upc + 1) = true → engine (.sysStall e f) fun x =>
        { x with upc := m.upc + 1, gap := 0 }) ∧
      (s.dev.microCond e f n = false → engine (.sysStall e f) fun x => { x with gap := 0, stalling := true })) ∧
    (plain → sys → op = 1 → m.pending = 0 →
      (m.handling ≠ some 0 → mapped m.resume = true → engine (.sysResume e f) fun x =>
        { x with upc := m.resume, handling := none, gap := 0 }) ∧
      (m.handling = some 0 → engine (.sysResume e f) fun x => { x with gap := 0, stalling := true })) ∧
    (plain → sys → op = 2 → engine (.selfReset e f) fun x =>
      { x with upc := 0, stack := [], resume := 0, handling := none, gap := 0, gapMax := max m.gapMax (m.gap + 1)
               selfResets := satAdd 32 m.selfResets 1 }) ∧
    (plain → cls = 1 → m.handling = none → ∀ k : Fin 8, m.pending.getLsbD k.val = true →
      (∀ j : Fin 8, j < k → m.pending.getLsbD j.val = false) → engine (.microSafe e f) fun x =>
        { x with upc := 0x100 + 0x20 * k.val, resume := m.upc + 1, handling := some k.val, gap := 0
                 pending := setBit m.pending k.val false }) ∧
    (s.dev.micro.redirect e m.upc = none → f.ecc = 2 → Completes (.microSeq e f) s fun u =>
      (vget u.dev.micro.engines e).stopped = true ∧ (vget u.dev.micro.engines e).upc = m.upc ∧
      (∀ t, engineTenant e = some t → Dev.Occurred s.dev u.dev 53 (tenantScope t)) ∧
      (engineTenant e = none → Dev.Occurred s.dev u.dev 54 8) ∧ u.mem = s.mem) ∧
    (∀ k, s.dev.micro.redirect e m.upc = some k →
      let at_ := 0x4000 + bits (vget s.dev.micro.matchRegs k).toNat 8 0
      let w := sparse s.dev.micro.patchWords (at_ - 0x4000)
      let n := s.dev.micro.nano at_ w
      m.pending = 0 → mf w 23 21 = 0 → f.ecc = 0 → nanoOk n = true → nf n 169 64 = 0 → at_ < 0x41FF →
      Completes (.microSeq e f) s fun u =>
        (vget u.dev.micro.engines e).upc = at_ + 1 ∧
        vget u.dev.micro.patchHits k = satAdd 32 (vget s.dev.micro.patchHits k) 1 ∧ u.mem = s.mem) ∧
    (∀ r, s.accepts r 0x7F15 e.val [1] → s.dev.modes.device = 10 →
      exec (.engineReset r e [1]) s = .next (s.answered r 0x7F15 e.val 0x00 fun d =>
        d.modEngine e fun m => { m with resetDue := true })) ∧
    (m.resetDue = true → let n := vget s.dev.engineEdge.micro.engines e
      n.upc = 0 ∧ n.stack = [] ∧ n.handling = none ∧ n.resetDue = false ∧ n.selfResets = satAdd 32 m.selfResets 1)

/-! ### Calibration and the archive (chapters 10 and 11) -/

/-- R297, R301, R302, R304, R306 and R307: an accepted CAL_REQ starts Self-Calibration at step SC1 with the items it names, or
Reference Transfer at step RT1 with all; an ABORT by its writer abandons the procedure and raises FS-107. Of the attempts at an
item, the last is compared with each earlier one in ascending order, and with the first that differs in no element by more than
the tolerance the item is accepted with their sum, twice the mean; without one the attempt is kept and the item measured
again. A REFEDGE without edges abandons Reference Transfer in RT1. Nothing lands by any of these. -/
def Obligations.CalibrationProcedures : Prop :=
  ∀ s : State,
    (∀ (r : Req) (v : Bytes), s.accepts r 0x6020 (reqCode r) v →
      let chans := BitVec.ofNat 52 (fieldBE v 4 7)
      let started := fun (c : Instr) (code items step : Nat) => Completes c s fun u =>
        (∃ p, u.dev.cal.proc = some p ∧ p.who = reqWho r ∧ p.code = code ∧ p.items = items ∧ p.chans = chans ∧ p.step = step ∧
          p.staged = false ∧ p.autoCommit = bit (fieldBE v 1 1) 0 ∧ p.allOrNothing = bit (fieldBE v 1 1) 1) ∧
        vget u.dev.cal.results (reqWho r) = { proc := code, state := 1, step := step } ∧
        (∀ w, w ≠ reqWho r → vget u.dev.cal.results w = vget s.dev.cal.results w) ∧
        u.dev.cal.corr = s.dev.cal.corr ∧ u.dev.chans = s.dev.chans ∧ u.dev.dict = s.dev.dict ∧ u.dev.fc = s.dev.fc ∧
        u.dev.out = s.dev.out ++ [.itemStatus r 0x6020 (reqCode r) 0x00] ∧ u.mem = s.mem ∧ u.pending = s.pending
      (fieldBE v 1 1 < 4 → fieldBE v 2 2 < 128 → fieldBE v 11 5 = 0 → 0 < fieldBE v 4 7 → fieldBE v 4 7 < 2 ^ 52 →
        s.dev.cal.proc = none → s.dev.heater.state ≠ 2 → s.dev.cal.clamped = false →
        (vget s.dev.mgmt.locks 0).holder = some r →
        (∀ t, r = .tenant t → ∀ c : Chan, chans.getLsbD c.val = true → s.dev.chOwner c = some t) →
        (r = .mgmt → ∀ c : Chan, chans.getLsbD c.val = true → (vget s.dev.chans c).st = .spare ∨
          (vget s.dev.chans c).st = .retired ∨ (vget s.dev.chans c).st = .disabled) →
        (fieldBE v 0 1 = 1 → fieldBE v 2 2 ≠ 0 → (∀ t, r = .tenant t → vget s.dev.modes.mode t = 7) →
          started (.calReqSelfCal r v) 1 (fieldBE v 2 2) 1) ∧
        (fieldBE v 0 1 = 2 → ∀ t, r = .tenant t → vget s.dev.modes.mode t = 8 → s.dev.tb.trace = 0 →
          (vget s.dev.mgmt.locks 1).holder = some r → started (.calReqRefTransfer r v) 2 0x7F 0x11)) ∧
      (∀ p, fieldBE v 0 1 = 0xFF → s.dev.cal.proc = some p → p.who = reqWho r → Completes (.calReqAbort r v) s fun u =>
        u.dev.cal.proc = none ∧ u.dev.cal.corr = s.dev.cal.corr ∧
        vget u.dev.cal.results p.who = { vget s.dev.cal.results p.who with state := 4, reason := 6, frames := p.frames } ∧
        Dev.Occurred s.dev u.dev 107 (ownerScope (whoTenant p.who)) ∧ u.dev.dict = s.dev.dict ∧ u.mem = s.mem ∧
        u.pending = s.pending)) ∧
    (∀ (p : Proc) (m : Measured) (old : CalMeas), s.dev.cal.proc = some p → p.staged = false → p.step ≠ 5 → p.step < 0x15 →
      Measured.ok m = true → (vget s.dev.chans m.ch).st ≠ .recal → (m.item.val, m.part.val, m.ch) ∈ p.outstanding p.step →
      let mine := fun (x : CalMeas) => x.item == m.item.val && x.part == m.part.val && x.ch == m.ch
      let scale := itemScale m.item.val
      let agrees := fun (a : List Int) =>
        ∃ d, spreadOf a m.values = some d ∧ (Q.mk d scale).le (s.dev.dict.cfg.tolerance m.item.val) = true
      let keeps := fun (P : Proc → Prop) => Completes (.calAttempt m) s fun u =>
        (∃ p', u.dev.cal.proc = some p' ∧ p'.step = p.step ∧ p'.kept = p.kept ∧ p'.staged = false ∧ P p') ∧
        u.dev.cal.corr = s.dev.cal.corr ∧ u.dev.chans = s.dev.chans ∧ u.dev.dict = s.dev.dict ∧ u.dev.fc = s.dev.fc ∧
        u.mem = s.mem ∧ u.pending = s.pending
      (p.meas.find? mine = some old ∨ (p.meas.find? mine = none ∧ old = { item := m.item.val, part := m.part.val, ch := m.ch })) →
      (m.short = true → old.lost < 15 → keeps fun p' => p'.accepted = p.accepted ∧
        p'.meas.find? mine = some { old with lost := old.lost + 1 }) ∧
      (m.short = false → (∀ a ∈ old.tries, ¬ agrees a) → old.tries.length + 1 < s.dev.dict.cfg.nat 0x6004 3 →
        keeps fun p' => p'.accepted = p.accepted ∧ p'.meas.find? mine = some { old with tries := old.tries ++ [m.values] }) ∧
      (m.short = false → ∀ before a after, old.tries = before ++ a :: after → (∀ x ∈ before, ¬ agrees x) → agrees a →
        (∃ x ∈ p.outstanding p.step, x ≠ (m.item.val, m.part.val, m.ch) ∧ x.1 ≠ 7) →
        keeps fun p' => ∃ i, p'.accepted = p.accepted ++ [i] ∧ i.ch = m.ch ∧ i.item = m.item.val ∧ i.part = m.part.val ∧
          i.sum = (a.zip m.values).map (fun x => x.1 + x.2) ∧ spreadOf a m.values = some i.diff ∧ i.sel = m.sel)) ∧
    (∀ p, s.dev.cal.proc = some p → p.code = 2 → p.step = 0x11 → p.staged = false → (vget s.dev.fc.src 106).cond = 0 →
      s.dev.fc.wires.getLsbD 106 = false → s.dev.latches 106 = true →
      Completes .refedgeFail s fun u =>
        u.dev.cal.proc = none ∧ u.dev.cal.corr = s.dev.cal.corr ∧
        vget u.dev.cal.results p.who = { vget s.dev.cal.results p.who with state := 4, reason := 5, frames := p.frames } ∧
        (vget u.dev.fc.src 106).count = satAdd 32 (vget s.dev.fc.src 106).count 1 ∧
        (vget u.dev.fc.src 107).count = satAdd 32 (vget s.dev.fc.src 107).count 1 ∧ u.dev.dict = s.dev.dict ∧ u.mem = s.mem)

/-- R313, R314, R315, R316 and R323: a sensor reading is taken; elements that differ by more than 0.5 K raise FS-103 and stop
re-application, until 16 readings agree; a reading outside the setpoints of the sets clamps and raises FS-097; a
re-application falls due where the temperature has moved by REAPPLY_STEP from T_APPLIED, and is pending once computed; one
pending for REAPPLY_DEFER_MAX frames raises FS-098 and then lands whatever windows are open. RT_DUE raises FS-105. -/
def Obligations.SensorAndReapplication : Prop :=
  ∀ s : State,
    (∀ (milliC : Int) (diff : Nat), Completes (.sensorRead milliC diff) s fun u =>
      u.dev.cal.tSensor = milliC ∧ u.dev.cal.tDiff = diff ∧ u.dev.cal.tApplied = s.dev.cal.tApplied ∧
      u.dev.cal.clamped = s.dev.outside milliC ∧
      (500 < diff → u.dev.cal.sensorFault = true ∧ u.dev.cal.reapplyDue = s.dev.cal.reapplyDue ∧
        ((vget s.dev.fc.src 103).cond.getLsbD 8 = false → s.dev.fc.wires.getLsbD 103 = false → s.dev.latches 103 = true →
          (vget u.dev.fc.src 103).latched.getLsbD 8 = true ∧
          (vget u.dev.fc.src 103).count = satAdd 32 (vget s.dev.fc.src 103).count 1)) ∧
      (diff ≤ 500 → u.dev.cal.sensorFault = (s.dev.cal.sensorFault && decide (s.dev.cal.agreeRun + 1 < 16)) ∧
        (vget u.dev.fc.src 103).count = (vget s.dev.fc.src 103).count) ∧
      (diff ≤ 500 → s.dev.cal.sensorFault = false → s.dev.cal.reapplyDue = false → s.dev.cal.reapply = none →
        u.dev.cal.reapplyDue = (s.dev.dict.cfg.q 0x6003 0).le (milli (milliC - s.dev.cal.tApplied)).abs) ∧
      (s.dev.outside milliC = true → (vget s.dev.fc.src 97).cond.getLsbD 8 = false → s.dev.fc.wires.getLsbD 97 = false →
        s.dev.latches 97 = true →
        (vget u.dev.fc.src 97).latched.getLsbD 8 = true ∧
        (vget u.dev.fc.src 97).count = satAdd 32 (vget s.dev.fc.src 97).count 1) ∧
      u.dev.cal.corr = s.dev.cal.corr ∧ u.dev.dict = s.dev.dict ∧ u.mem = s.mem ∧ u.pending = s.pending) ∧
    (s.dev.cal.reapplyDue = true → s.dev.cal.sensorFault = false →
      exec .reapplyComputed s = .next (s.withDev fun d =>
        { d with cal := { d.cal with reapplyDue := false, reapply := some 0 }
                 micro := { d.micro with procReg := d.micro.procReg.filter fun c => c != 0x03 } })) ∧
    (∀ n, s.dev.cal.reapply = some n → s.dev.dict.cfg.nat 0x6003 1 ≤ n + 1 → s.dev.cal.reapplyLate = false →
      s.dev.cal.sensorFault = false → Completes .calReapplyLate s fun u =>
        u.dev.cal = { s.dev.cal with reapplyLate := true } ∧ u.dev.reapplyLands = true ∧ Dev.Occurred s.dev u.dev 98 8 ∧
        u.dev.dict = s.dev.dict ∧ u.mem = s.mem ∧ u.pending = s.pending) ∧
    (∀ due, due = Time.toSub (timeOfBE (s.dev.dict.cfg.get 0x6110 4)) →
      (due ≠ 0 → due < Time.toSub s.dev.now → s.dev.cal.due = false → (vget s.dev.fc.src 105).cond.getLsbD 8 = false →
        s.dev.fc.wires.getLsbD 105 = false → s.dev.latches 105 = true →
        Completes .calDue s fun u => u.dev.cal = { s.dev.cal with due := true } ∧ Dev.Occurred s.dev u.dev 105 8 ∧
          u.dev.dict = s.dev.dict ∧ u.mem = s.mem ∧ u.pending = s.pending) ∧
      (due = 0 ∨ Time.toSub s.dev.now ≤ due → exec .calDue s = .next s))

/-- R281, R325, R327, R329 and R330: an accepted archive command becomes busy and queues its records, or waits for the next
frame edge with its restore; the pulses write one queued item each, copy A before copy B with a SEQ above both, and a second
mismatch raises FS-102 and leaves copy B alone; no pulse begins in a quiet window. An hour is journalled before its counter. -/
def Obligations.ArchiveCommands : Prop :=
  ∀ s : State,
    (∀ (r : Req) (v : Bytes), s.accepts r 0x6100 1 v → fieldBE v 1 7 = 0 → s.dev.cal.proc = none → s.dev.modes.device ≠ 11 →
      s.dev.cal.cmd = none →
      let queues := fun (c : Instr) (code : Nat) (l : List NvWrite) (restore : Option Nat) => Completes c s fun u =>
        u.dev.cal.cmd = some code ∧ u.dev.cal.cmdStatus = 1 ∧ u.dev.cal.nvQueue = s.dev.cal.nvQueue ++ l ∧
        u.dev.cal.restoreDue = restore ∧ u.dev.cal.arch = s.dev.cal.arch ∧ u.dev.cal.corr = s.dev.cal.corr ∧
        u.dev.dict = s.dev.dict ∧ u.dev.out = s.dev.out ++ [.itemStatus r 0x6100 1 0x00] ∧ u.mem = s.mem ∧ u.pending = s.pending
      let trace := NvWrite.record 0x21 0 s.dev.tracePayload false 0
      (fieldBE v 0 1 = 1 → ∃ sets, sets.map (fun w => match w with | .record typ i _ _ _ => (typ, i) | _ => (0, 0)) =
          s.dev.liveSets.map (fun i => (0x11, i)) ∧
        queues (.saveSets r v) 1 (sets ++ [.record 0x20 0 s.dev.rtPayload false 0, trace]) s.dev.cal.restoreDue) ∧
      (fieldBE v 0 1 = 4 → queues (.writeTrace r v) 4 [trace] s.dev.cal.restoreDue) ∧
      (fieldBE v 0 1 = 2 → queues (.restoreLab r v) 2 [] (some 2)) ∧
      (fieldBE v 0 1 = 3 → queues (.restoreFactory r v) 3 [] (some 3))) ∧
    (∀ first second, s.dev.quietOpen = true ∨ s.dev.cal.pulse = true → exec (.nvWritePulse first second) s = .next s) ∧
    (∀ (first second : Bool) (rest : List NvWrite), s.dev.quietOpen = false → s.dev.cal.pulse = false →
      (vget s.dev.fc.src 9).actives = 0 → s.dev.stairs.now ≤ 4 →
      let pulses := fun (P : Dev → Prop) => Completes (.nvWritePulse first second) s fun u =>
        u.dev.cal.pulse = true ∧ u.dev.dict = s.dev.dict.bumpGen 0x610200 ∧ P u.dev ∧ u.mem = s.mem ∧ u.pending = s.pending
      (∀ typ key payload seq0, s.dev.cal.nvQueue = .record typ key payload false seq0 :: rest →
        let seq := (((s.dev.cal.copies typ key).map (·.seq)).foldl Nat.max 0 + 1) % 2 ^ 32
        (first = true ∨ second = true → pulses fun d =>
          archWrite typ key false seq payload ∈ d.cal.arch ∧
          (∀ a ∈ s.dev.cal.arch, a.copyB = true ∨ a.typ ≠ typ ∨ a.key ≠ key → a ∈ d.cal.arch) ∧
          d.cal.nvQueue.head? = some (.record typ key payload true seq)) ∧
        (first = false → second = false → s.dev.cal.cmd = none → pulses fun d =>
          Dev.Occurred s.dev d 102 8 ∧ bit d.cal.nvStatus.toNat 2 = true ∧
          (∃ a ∈ d.cal.arch, a.typ = typ ∧ a.key = key ∧ a.copyB = false ∧ a.payload = payload ∧ a.valid = false) ∧
          ∃ l, d.cal.nvQueue = rest ++ l ∧ ∀ w ∈ l, ∀ a b c e f, w ≠ .record a b c e f)) ∧
      (∀ (k : Fin 4) (seq value : Nat), s.dev.cal.nvQueue = .journal k.val seq value :: rest → pulses fun d =>
        d.cal.journal.head? = some ({ counter := k.val, seq := seq, value := value } : JournalEntry) ∧ d.cal.nvQueue = rest ∧ d.cal.life = s.dev.cal.life) ∧
      (∀ (k : Fin 4) (seq value : Nat), s.dev.cal.nvQueue = .counter k.val seq value :: rest → pulses fun d =>
        vget d.cal.life k = ({ value := value, seq := seq } : LifeCtr) ∧ (∀ j, j ≠ k → vget d.cal.life j = vget s.dev.cal.life j) ∧
        d.cal.nvQueue = rest)) ∧
    (s.dev.rst.requests = [] →
      exec .nvPulseEnd s = .next (s.withDev fun d => { d with cal := { d.cal with pulse := false } })) ∧
    (∀ k : Fin 2, (∀ w ∈ s.dev.cal.nvQueue, ∀ q v, w ≠ .counter k.val q v) →
      ∀ l, l = vget s.dev.cal.life ⟨k.val, by omega⟩ →
      exec (.lifetimeHour k) s = .next (s.withDev fun d => { d with cal := { d.cal with
        nvQueue := d.cal.nvQueue ++ [.journal k.val ((l.seq + 1) % 2 ^ 32) (l.value + 1),
                                     .counter k.val ((l.seq + 1) % 2 ^ 32) (l.value + 1)] } }))

/-! ### The dictionary and its requests (chapters 11, 12 and 14) -/

/-- R338, R347, R356, R357, R358, R369, R370, R371, R382 and R449: a request of one item, as a management message or a tenant's
frame, and its reply. A READ returns the entry's value and changes nothing; a WRITE of an RWC entry enters the requester's
shadow and leaves the value in force; a READ_BLOCK from offset 0 marks the generation and returns the bytes stored; a
WRITE_BLOCK of the retained memory stores its bytes; a SNAPSHOT stands under tick and time of one instant. -/
def Obligations.DictionaryRequests : Prop :=
  ∀ (s : State) (ix sub : Nat) (e : EntryRow), lookupEntry ix sub = some e → ix < 2 ^ 16 → sub < 2 ^ 8 →
    let key := keyOf ix sub
    let plain := e.acc ≠ .wo ∧ e.isDomain = false ∧ ¬ (0x5000 ≤ ix ∧ ix < 0x5080 ∧ ix % 16 = 2) ∧ ix ≠ 0x6101
    (plain → ∀ (m : Vdm), s.dev.takesVdm m → m.count = 1 → m.area = requestItem ix sub 0 [] →
      let v := s.dev.value .mgmt ix sub
      v.length ≤ 960 →
      exec (.read (.smbus m)) s = .next (s.withDev fun d =>
        d.send (vdmReply d m.tag 1 0x00 1 (replyItem ix sub 0x00 v))) ∧
      exec (.snapshot (.smbus m)) s = .next (s.withDev fun d => d.send (vdmReply d m.tag 1 0x00 1
        (natBE 8 d.tb.tick ++ timeBE d.now ++ zeros 4 ++ replyItem ix sub 0x00 v)))) ∧
    (plain → ∀ (f : Frame) (t : Tenant) (x1 : Session), f.itemCount = 1 → f.area = requestItem ix sub 0 [] →
      let v := (s.inService t x1).dev.value (.tenant t) ix sub
      (s.dev.servesFrame 1 f t x1 → exec (.read (.odp f)) s = .next (s.withDev fun d =>
        (d.modSess t fun _ => x1).send (d.odpPart f 1 1 0x00 x1.key [] [replyItem ix sub 0x00 v]))) ∧
      (s.dev.servesFrame 5 f t x1 → v.length ≤ 2048 → exec (.snapshot (.odp f)) s = .next (s.withDev fun d =>
        (d.modSess t fun _ => x1).send (d.odpPart f 5 1 0x00 x1.key (natBE 8 d.tb.tick ++ timeBE d.now ++ zeros 4)
          [replyItem ix sub 0x00 v])))) ∧
    (e.acc = .rwc → ∀ (v : Bytes), v.length < 2 ^ 16 →
      (∀ (m : Vdm), s.dev.takesVdm m → m.count = 1 → m.area = requestItem ix sub 0 v → s.dev.checkWrite .mgmt ix sub v = stOK →
        shadowSize (s.dev.dict.mgmtShadow.insert key v) ≤ 65536 →
        exec (.write (.smbus m)) s = .next (s.withDev fun d =>
          { d with dict := { d.dict with mgmtShadow := d.dict.mgmtShadow.insert key v } }.send
            (vdmReply d m.tag 1 0x00 1 (replyItem ix sub 0x00 [])))) ∧
      (∀ (f : Frame) (t : Tenant) (x1 : Session), s.dev.servesFrame 2 f t x1 → f.itemCount = 1 →
        f.area = requestItem ix sub 0 v → (s.inService t x1).dev.checkWrite (.tenant t) ix sub v = stOK →
        shadowSize ((vget s.dev.dict.shadow t).insert key v) ≤ 4096 →
        exec (.write (.odp f)) s = .next (s.withDev fun d =>
          ({ d with dict := { d.dict with shadow := vmod d.dict.shadow t fun c => c.insert key v } }.modSess t fun _ => x1).send
            (d.odpPart f 2 1 0x00 x1.key [] [replyItem ix sub 0x00 []])))) ∧
    (∀ (m : Vdm), s.dev.takesVdm m → m.count = 1 → ix = 0x1603 → sub = 0 →
      (∀ n, 1 ≤ n → n ≤ 960 → m.area = requestItem ix sub 0 (natBE 4 0 ++ natBE 4 n) →
        exec (.readBlock (.smbus m)) s = .next (s.withDev fun d =>
          { d with dict := { d.dict with genMarks :=
              { req := .mgmt, key := key, gen := d.dict.gen key } ::
                (d.dict.genMarks.filter (fun g => !(g.req == Req.mgmt && g.key == key))) } }.send
            (vdmReply d m.tag 1 0x00 1 (replyItem ix sub 0x00
              (natBE 4 0 ++ natBE 4 (d.dict.gen key) ++ (List.range n).map fun i => Mem.read d.rst.retained i))))) ∧
      (∀ data, 1 ≤ data.length → data.length ≤ 960 → m.area = requestItem ix sub 0 (natBE 4 0 ++ natBE 4 8192 ++ data) →
        s.dev.modes.device ≠ 11 → Completes (.writeBlock (.smbus m)) s fun u =>
          u.dev.rst.retained = Mem.writeBytes s.dev.rst.retained 0 data ∧
          u.dev.dict.gen key = (s.dev.dict.gen key + 1) % 2 ^ 32 ∧ u.dev.dict.cfg = s.dev.dict.cfg ∧
          u.dev.dict.mgmtShadow = s.dev.dict.mgmtShadow ∧
          u.dev.out = s.dev.out ++ [vdmReply s.dev m.tag 1 0x00 1 (replyItem ix sub 0x00 [])] ∧
          u.mem = s.mem ∧ u.pending = s.pending))

/-- R347, R348, R349, R351, R441, R442 and R443: a COMMIT that passes its checks moves the requester's shadow into a pending
commit and is answered at its Landing; AT_IDLE gives it the frames of its timeout; a conflict is answered at once. A free lock
is granted with its lease, one that another holds is answered LOCKED; UNLOCK frees it; a lease's warning is given once, and
its last millisecond ends in the release at step 2. -/
def Obligations.CommitsAndLocks : Prop :=
  ∀ s : State,
    let pends := fun (s : State) (r : Req) (atIdle : Bool) (n : Nat) (reply : ReplyTo) =>
      Host.Outcome.next (φ := Fault) (ρ := Refusal) (s.withDev fun d =>
        { d with dict := { d.dict.setShadow r [] with commits := d.dict.commits ++
            [{ req := r, entries := d.dict.shadowOf r, atIdle := atIdle, framesLeft := n, reply := reply }] } })
    (∀ m : Vdm, s.dev.takesVdm m → m.count = 1 →
      (m.area = zeros 8 → (s.dev.commitCheck .mgmt false).2 = stOK →
        exec (.commitNext (.smbus m)) s = pends s .mgmt false 0 (.smbus m.tag 6)) ∧
      (∀ n, 1 ≤ n → n < 2 ^ 32 → m.area = [1, 0, 0, 0] ++ natBE 4 n → (s.dev.commitCheck .mgmt true).2 = stOK →
        exec (.commitAtIdle (.smbus m)) s = pends s .mgmt true n (.smbus m.tag 6)) ∧
      (m.area = zeros 8 → s.dev.commitConflict (s.dev.judge .mgmt s.dev.dict.mgmtShadow) = true →
        exec (.commitNext (.smbus m)) s = .next (s.withDev fun d => d.send (vdmReply d m.tag 1 stConflict 1 (zeros 16)))) ∧
      (∀ (k : Fin 34) (lease : Nat), lease < 2 ^ 32 → m.area = natBE 1 k.val ++ zeros 3 ++ natBE 4 lease → 1 ≤ lease →
        lease ≤ s.dev.dict.cfg.nat 0x1109 0 → s.dev.modes.device ≠ 11 →
        let taken : Lock := { vget s.dev.mgmt.locks k with
          holder := some .mgmt, warned := false, lease := lease, remaining := lease
          grants := satAdd 32 (vget s.dev.mgmt.locks k).grants 1 }
        ((vget s.dev.mgmt.locks k).holder = none → Completes (.lock (.smbus m)) s fun u =>
          vget u.dev.mgmt.locks k = taken ∧ (∀ j, j ≠ k → vget u.dev.mgmt.locks j = vget s.dev.mgmt.locks j) ∧
          u.dev.out = s.dev.out ++ [vdmReply s.dev m.tag 1 0x00 1 taken.bytes] ∧ u.dev.dict = s.dev.dict ∧ u.mem = s.mem ∧
          u.pending = s.pending) ∧
        (∀ t, (vget s.dev.mgmt.locks k).holder = some (.tenant t) →
          exec (.lock (.smbus m)) s = .next (s.withDev fun d =>
            d.send (vdmReply d m.tag 1 stLocked 1 (vget d.mgmt.locks k).bytes)))) ∧
      (∀ (k : Fin 34) (h : Req), m.area = natBE 1 k.val ++ zeros 7 → (vget s.dev.mgmt.locks k).holder = some h →
        s.dev.cal.proc = none → Completes (.unlock (.smbus m)) s fun u =>
          (vget u.dev.mgmt.locks k).holder = none ∧ (vget u.dev.mgmt.locks k).grants = (vget s.dev.mgmt.locks k).grants ∧
          (∀ j, j ≠ k → vget u.dev.mgmt.locks j = vget s.dev.mgmt.locks j) ∧ u.dev.dict = s.dev.dict ∧ u.mem = s.mem ∧
          u.pending = s.pending)) ∧
    (∀ (f : Frame) (t : Tenant) (x1 : Session), f.itemCount = 1 → s.dev.servesFrame 6 f t x1 →
      let s1 := s.inService t x1
      let reply := ReplyTo.odp f.port f.src t 6 f.credential f.session f.sequence false x1.key
      (f.area = zeros 8 → (s1.dev.commitCheck (.tenant t) false).2 = stOK →
        exec (.commitNext (.odp f)) s = pends s1 (.tenant t) false 0 reply) ∧
      (∀ n, 1 ≤ n → n < 2 ^ 32 → f.area = [1, 0, 0, 0] ++ natBE 4 n → (s1.dev.commitCheck (.tenant t) true).2 = stOK →
        exec (.commitAtIdle (.odp f)) s = pends s1 (.tenant t) true n reply)) ∧
    (∀ k : Fin 34, (vget s.dev.mgmt.locks k).holder.isSome = true →
      let l := vget s.dev.mgmt.locks k
      (2000 < l.lease → 0 < l.remaining → l.remaining ≤ 1000 →
        (l.warned = false → Completes (.leaseWarning k) s fun u =>
          Dev.RecOnly (s.dev.modLock k fun l => { l with warned := true }) u.dev ∧ u.mem = s.mem ∧ u.pending = s.pending) ∧
        (l.warned = true → exec (.leaseWarning k) s = .next s)) ∧
      (l.remaining ≤ 1 →
        exec (.leaseExpiry k) s = .next (s.withDev fun d => d.modLock k fun l => { l with remaining := 0 })) ∧
      (l.remaining = 0 → (vget s.dev.expireLocks.mgmt.locks k).holder = none))

/-- R372, R373, R375, R376, R377, R379, R384, R388 and R389: PING answers the state of the device; a frame that is not
authentic is answered AUTH without a valid tag and has no effect, a repeated sequence number REPLAY, an opcode of no row TYPE;
TENANT_RESET and an authorised RESET are requested of Tahr. A held frame is served after the exit with HELD set. ODP_KEY opens a
new session; FLASH_UPDATE begins with the inactive slot erased, and one that does not complete fails with FS-120. -/
def Obligations.ProtocolCommands : Prop :=
  ∀ s : State,
    (∀ (f : Frame) (t : Tenant) (x1 : Session),
      let d := s.dev
      let block := natBE 1 0 ++ natBE 1 d.modes.device ++ natBE 1 d.traceShown ++ natBE 1 (d.modeOf t) ++ natBE 4 d.epoch
        ++ timeBE d.now ++ natBE 8 d.tb.tick ++ zeros 4
      let replies := fun (op st : Nat) (items : List Bytes) => Host.Outcome.next (φ := Fault) (ρ := Refusal) (s.withDev fun d =>
        (d.modSess t fun _ => x1).send (d.odpPart f op 1 st x1.key [] items))
      (s.dev.servesFrame 0x0B f t x1 → exec (.ping f) s = replies 0x0B 0x00 [block]) ∧
      (∀ op, op = 0 ∨ 0x0B < op → s.dev.takesFrame op f t x1 → exec (.unknownOpcode op f) s = replies op stType []) ∧
      (s.dev.servesFrame 0x09 f t x1 → exec (.tenantReset f) s = .next ((s.inService t x1).withDev fun d =>
        { d with rst := { d.rst with requests := d.rst.requests ++ [{ source := 0x11, reach := 2, target := t.val }] }
                 odp := { d.odp with resetReplies := d.odp.resetReplies ++
                   [.odp f.port f.src t 0x09 f.credential f.session f.sequence false x1.key] } })) ∧
      (s.dev.servesFrame 0x0A f t x1 →
        (s.dev.rst.key = f.area → exec (.deviceReset f) s = .next (s.withDev fun d =>
          { (d.modSess t fun _ => x1).send (d.odpPart f 0x0A 1 0x00 x1.key [] []) with
            rst := { d.rst with requests := d.rst.requests ++ [{ source := 0x04, reach := 1 }] } })) ∧
        (s.dev.rst.key ≠ f.area → exec (.deviceReset f) s = replies 0x0A stNoRight [])) ∧
      (∀ rest, s.dev.odp.held = { opcode := 0x0B, frame := f } :: rest → s.dev.servesFrame 0x0B f t x1 →
        exec .heldFrame s = .next (s.withDev fun d =>
          ({ d with odp := { d.odp with held := rest } }.modSess t fun _ => x1).send (d.odpPart f 0x0B 5 0x00 x1.key [] [block]))) ∧
      (s.dev.discards f = false → s.dev.rst.phase = 8 → s.dev.stairs.now = 0 → s.dev.stairs.accepted = none →
        tenantOf f.tenant = some t →
        (s.dev.authentic 0x0B f t = false → (vget s.dev.odp.port f.port).lastUnauthMs ≠ some s.dev.tb.ms →
          exec (.ping f) s = .next (s.withDev fun d =>
            { d.modSess t fun x => { x with authFails := satAdd 32 x.authFails 1 } with
              odp := { (d.modSess t fun x => { x with authFails := satAdd 32 x.authFails 1 }).odp with
                port := vmod d.odp.port f.port fun p => { p with lastUnauthMs := some d.tb.ms } } }.send
              (.odpReply f.port f.src (d.vlanOf f.port) (natBE 1 1 ++ natBE 1 3 ++ natBE 1 f.tenant ++ natBE 1 0x0B ++ natBE 8 f.credential
                ++ natBE 2 f.session ++ natBE 2 0 ++ natBE 4 f.sequence ++ natBE 1 stAuth ++ [0, 0, 0] ++ zeros 16)))) ∧
        (s.dev.authentic 0x0B f t = true → (vget s.dev.odp.sess t).accept f.sequence = none →
          exec (.ping f) s = .next (s.withDev fun d =>
            (d.modSess t fun x => { x with replays := satAdd 32 x.replays 1 }).send
              (d.odpPart f 0x0B 1 stReplay (vget d.odp.sess t).key [] []))))) ∧
    (∀ (t : Tenant) (key : Bytes), key.length = 32 → s.dev.served .mgmt = stOK → s.dev.modes.device ≠ 11 →
      Completes (.odpKey t 0 32 key) s fun u =>
        (∀ x, x = vget u.dev.odp.sess t →
          x.key = key ∧ x.isOpen = !allZero key ∧ x.inFlight = 0 ∧ x.seqHigh = 0 ∧ x.window = 0 ∧
          x.number = if (vget s.dev.odp.sess t).number = 0xFFFF then 1 else (vget s.dev.odp.sess t).number + 1) ∧
        (∀ w, w ≠ t → vget u.dev.odp.sess w = vget s.dev.odp.sess w) ∧ u.dev.dict.cfg = s.dev.dict.cfg ∧
        u.dev.out = s.dev.out ++ [.itemStatus .mgmt 0x1211 t.val 0x00] ∧ u.mem = s.mem ∧ u.pending = s.pending) ∧
    (s.dev.served .mgmt = stOK → s.dev.modes.device = 10 → s.dev.boot.reasonA ≠ 1 →
      ∀ (total : Nat) (data : Bytes), 4112 ≤ total → total ≤ 65536 → 1 ≤ data.length → data.length ≤ 1024 →
        Completes (.flashUpdate .mgmt 0 total data) s fun u =>
          (∀ slot, slot = s.dev.inactiveSlot →
            u.dev.boot.update = some { slot := slot, total := total, next := data.length, header := data } ∧
            vget u.dev.boot.flash slot = List.replicate 4096 0xFF ∧
            ∀ k, k ≠ slot → vget u.dev.boot.flash k = vget s.dev.boot.flash k) ∧
          u.dev.boot.updState = 1 ∧ u.dev.out = s.dev.out ++ [.itemStatus .mgmt 0x1702 0 0x00] ∧
          u.dev.dict.cfg = s.dev.dict.cfg ∧ u.mem = s.mem ∧ u.pending = s.pending) ∧
    (∀ w : FlashUpd, s.dev.boot.update = some w → Completes .flashWriteTimeout s fun u =>
      u.dev.boot.update = none ∧ u.dev.boot.updState = 4 ∧ u.dev.boot.updReason = 10 ∧
      (vget u.dev.boot.flash w.slot).take 4096 = List.replicate 4096 0xFF ∧
      (∀ k, k ≠ w.slot → vget u.dev.boot.flash k = vget s.dev.boot.flash k) ∧ Dev.Occurred s.dev u.dev 120 8 ∧
      u.dev.out = s.dev.out ++ [.itemStatus .mgmt 0x1702 0 stRange] ∧ u.dev.dict = s.dev.dict ∧ u.mem = s.mem)

/-! ### The Ethernet ports (chapter 12) -/

/-- R363, R364, R365 and R366: a port comes up at the rate that it tries, and a lost link raises FS-080 or FS-081; after 500 ms
without block lock the other rate is tried. A request for an address that the port holds is answered, any other is not; an
address that another station claims sets DUP_ADDR and raises FS-082. -/
def Obligations.EthernetPorts : Prop :=
  ∀ (s : State) (p : Fin 2),
    let x := vget s.dev.odp.port p
    let set := s.dev.dict.cfg.nat 0x1200 p.val
    (bit set 3 = true → 4 ≤ s.dev.rst.phase → s.dev.stairs.now < 3 → x.link = false →
      (vget s.dev.fc.src 22).cond = 0 →
      ∀ rate, (set % 4 = 0 → rate = x.trying) → (set % 4 ≠ 0 → rate = set % 4) →
        exec (.linkUp p rate) s = .next (s.withDev fun d =>
          (d.modPort p fun x => { x with link := true, rate := rate, fec := rate == 1 && bit set 2 }).condFall (portSource p) 8)) ∧
    (x.link = true → (vget s.dev.fc.src (portSource p)).cond.getLsbD 8 = false → s.dev.fc.wires.getLsbD (portSource p).val = false →
      s.dev.latches (portSource p) = true →
      Completes (.linkDown p) s fun u =>
      Dev.FaultOnly ((s.dev.modPort p fun x => { lastUnauthMs := x.lastUnauthMs }).synceLinkDown p.val) u.dev ∧
      Dev.Occurred (s.dev.linkLost p) u.dev (portSource p) 8 ∧ u.mem = s.mem ∧ u.pending = s.pending) ∧
    (bit set 3 = true → set % 4 = 0 → x.link = false →
      exec (.rateTryTimeout p) s = .next (s.withDev fun d => d.modPort p fun x =>
        { x with trying := if x.trying = 1 then 2 else 1 })) ∧
    (x.link = true →
      (∀ target sender, exec (.arpRequest p target sender false) s = .next (if s.dev.ownsV4 p target then
        s.withDev fun d => d.send (.netFrame p 0x0806 sender (d.vlanOf p) (natBE 4 target ++ natBE 6 (d.macOf p))) else s)) ∧
      (∀ target, exec (.neighborDiscovery p target) s = .next (if s.dev.ownsV6 p target then
        s.withDev fun d => d.send (.netFrame p 0x86DD target (d.vlanOf p) (natBE 1 136 ++ natBE 16 target ++ natBE 6 (d.macOf p))) else s)) ∧
      (∀ dest data, bit (fieldBE (s.dev.dict.cfg.get 0x1202 p.val) 13 1) 2 = true →
        exec (.echoRequest p true dest data) s = .next (if s.dev.ownsV6 p dest then
          s.withDev fun d => d.send (.netFrame p 58 dest (d.vlanOf p) (natBE 1 129 ++ data)) else s) ∧
        exec (.echoRequest p false dest data) s = .next (if s.dev.ownsV4 p dest then
          s.withDev fun d => d.send (.netFrame p 1 dest (d.vlanOf p) (natBE 1 0 ++ data)) else s)) ∧
      (∀ v6 dest data, bit (fieldBE (s.dev.dict.cfg.get 0x1202 p.val) 13 1) 2 = false →
        exec (.echoRequest p v6 dest data) s = .next s) ∧
      exec (.dadComplete p false) s = .next (s.withDev fun d => d.modPort p fun x => { x with ipv6Ready := true }) ∧
      ((vget s.dev.fc.src 82).cond.getLsbD 8 = false → s.dev.fc.wires.getLsbD 82 = false → s.dev.latches 82 = true →
        let claimed := fun (c : Instr) (f : Port → Port) => Completes c s fun u =>
          Dev.FaultOnly (s.dev.modPort p f) u.dev ∧ (vget u.dev.odp.port p).dup = true ∧ Dev.Occurred s.dev u.dev 82 8 ∧
          u.mem = s.mem ∧ u.pending = s.pending
        claimed (.dadComplete p true) (fun x => { x with dupAddr := true }) ∧
        (∀ target sender, s.dev.ownsV4 p sender = true →
          claimed (.arpRequest p target sender true) fun x => { x with v4Conflict := true })))

/-! ### The PCI Express functions (chapter 13) -/

/-- R395, R396, R397, R399, R401, R402, R403, R405 and R419: the requests that a function serves. The index registers take a
value that moves forward within what they bound, and any other write is refused and counted; the doorbell delivers event
source 6; TIME_SNAP latches the end of the tick; a BAR2 write into words that the host owns is buffered, and the staging
write stores a buffered block at the ring's addresses, and nothing else. -/
def Obligations.HostRegisters : Prop :=
  ∀ (s : State) (t : Tenant), s.dev.gate t = .serve → s.dev.stairs.accepted = none →
    let h := vget s.dev.host t
    let becomes := fun (c : Instr) (f : HostIf → HostIf) => exec c s = .next (s.withDev fun d => d.modHost t f)
    let refused := fun (c : Instr) => becomes c fun h => { h with badAccess := satAdd 32 h.badAccess 1 }
    (∀ (n : Fin 4) (v : Nat), v < 2 ^ 32 →
      (sub32 v (vget h.evq n).head ≤ sub32 (vget h.evq n).tail (vget h.evq n).head →
        becomes (.evqHead t n v) fun h => { h with evq := vmod h.evq n fun q => { q with head := v } }) ∧
      (sub32 (vget h.evq n).tail (vget h.evq n).head < sub32 v (vget h.evq n).head → refused (.evqHead t n v)) ∧
      exec (.bar0Write t (0x100 + 0x20 * n.val) 4 v false) s = exec (.evqHead t n v) s) ∧
    (∀ v, v < 2 ^ 32 →
      (sub32 v h.dmaCons ≤ 64 → sub32 h.dmaProd h.dmaCons ≤ sub32 v h.dmaCons →
        becomes (.dmaProd t v) fun h => { h with dmaProd := v }) ∧
      (64 < sub32 v h.dmaCons → refused (.dmaProd t v)) ∧
      (sub32 v h.ringCons ≤ s.dev.ringSize t → sub32 h.ringProd h.ringCons ≤ sub32 v h.ringCons →
        Completes (.ringProd t v) s fun u =>
          (vget u.dev.host t).ringProd = v ∧ (vget u.dev.host t).ringCons = h.ringCons ∧
          (vget u.dev.host t).bar2 = h.bar2 ∧ (∀ w, w ≠ t → vget u.dev.host w = vget s.dev.host w) ∧
          u.dev.seqs = s.dev.seqs ∧ u.dev.dict = s.dev.dict ∧ u.mem = s.mem ∧ u.pending = s.pending) ∧
      (s.dev.ringSize t < sub32 v h.ringCons → refused (.ringProd t v))) ∧
    (Completes (.eventDoorbell t) s fun u =>
      (∀ i, (vget (s.dev.seq t).ei i).count < 65535 → (vget (u.dev.seq t).ei i).count =
        (vget (s.dev.seq t).ei i).count + (if (s.dev.eiSources t i).contains 6 then 1 else 0)) ∧
      (∀ w, w ≠ t → u.dev.seq w = s.dev.seq w) ∧ (∀ w, vget u.dev.host w = { vget s.dev.host w with
        hold := (vget u.dev.host w).hold }) ∧ u.dev.dict = s.dev.dict ∧ u.mem = s.mem ∧ u.pending = s.pending) ∧
    exec (.timeSnap t) s = .next (s.withDev fun d =>
      (d.modHost t fun h => { h with timeSnap := d.timeAt 8192, snapTrace := BitVec.ofNat 2 d.traceShown }).send
        (.completion t 0 (natLE 4 (fieldLE (timeLE (d.timeAt 8192)) 0 4)))) ∧
    exec (.bar0Write t 0 4 0 true) s = .next (s.withDev fun d => d.send (.completion t 0 (natLE 4 (0x48520100 + t.val)))) ∧
    (∀ (k : Fin 64) (j : Fin 8) (v word : Nat), v < 2 ^ 32 → word = systemAddr (0x10000 + 0x2000 * t.val + 32 * k.val + 8 * (j.val / 2)) →
      exec (.bar0Write t (0x800 + 32 * k.val + 4 * j.val) 4 v false) s = .next (s.withDev fun d =>
        { d with arb := { d.arb with poison := d.arb.poison.filter fun w => w != word } }.modHost t fun h =>
          { h with dmaSlots := vmod h.dmaSlots k fun e => putDword e j.val v })) ∧
    (∀ o v, o % 4 ≠ 0 → refused (.bar0Write t o 4 v false)) ∧
    (∀ (o : Nat) (data : Bytes), 1 ≤ data.length → s.dev.dict.cfg.ringEnabled t = true →
      o + data.length ≤ min (8 * s.dev.ringSize t) (2 ^ 20) →
      (s.dev.touchesOwned t o data.length = false →
        (h.buffered + data.length ≤ 65536 → becomes (.bar2Write t o data false) fun h => { h with bar2 := h.bar2 ++ [(o, data)] }) ∧
        (65536 < h.buffered + data.length → Completes (.bar2Write t o data false) s fun u =>
          Dev.FaultOnly (s.dev.dropPosted t) u.dev ∧ Dev.Occurred s.dev u.dev 90 (tenantScope t) ∧ u.mem = s.mem)) ∧
      (s.dev.touchesOwned t o data.length = true → becomes (.bar2Write t o data false) fun h =>
        { h with ringDropped := satAdd 32 h.ringDropped 1 })) ∧
    (∀ (o : Nat) (data : Bytes), s.Inv → h.bar2 = [(o, data)] → 1 ≤ data.length → o % 64 + data.length ≤ 64 →
      s.dev.dict.cfg.ringEnabled t = true → (o / 64 + 1) * 64 ≤ 8 * s.dev.ringSize t →
      h.stagedCycles < s.dev.dict.cfg.nat 0x1910 t.val → s.dev.withheldTick s.dev.tb.tick = false → Completes (.stagingWrite t) s fun u =>
        (vget u.dev.host t).bar2 = [] ∧ (vget u.dev.host t).ringLanded = satAdd 32 h.ringLanded data.length ∧
        (vget u.dev.host t).stagedCycles = h.stagedCycles + 1 ∧ (vget u.dev.host t).ringDropped = h.ringDropped ∧
        u.mem = Mem.writeMapped s.mem (s.dev.ringAddr t) o data ∧
        (∀ a, (∀ i, i < data.length → a ≠ s.dev.ringAddr t (o + i)) → Mem.read u.mem a = Mem.read s.mem a) ∧
        (∀ w, w ≠ t → vget u.dev.host w = vget s.dev.host w) ∧ u.dev.seqs = s.dev.seqs ∧ u.dev.dict = s.dev.dict ∧
        u.pending = s.pending)

/-- R398, R405, R406, R407, R408, R417, R418, R420 and R421: the transfers, and the event writer. A descriptor that cannot run
ends at once with its DMA_DONE record; a download issues its reads, each completion stores its bytes and the last ends the
transfer, and an error or a timeout raises FS-089 and ends it; an upload delivers its region's bytes. A record enters each
queue that accepts it at its tail, or is lost to a full one. An unmasked vector sends the message that waits. -/
def Obligations.HostTransfers : Prop :=
  ∀ (s : State) (t : Tenant),
    let h := vget s.dev.host t
    let others := fun (u : State) => (∀ w, w ≠ t → (vget u.dev.host w).dma = (vget s.dev.host w).dma) ∧
      u.dev.seqs = s.dev.seqs ∧ u.dev.dict = s.dev.dict ∧ u.pending = s.pending
    let ended := fun (u : State) => (vget u.dev.host t).dma = none ∧ (vget u.dev.host t).dmaDone = satAdd 32 h.dmaDone 1 ∧ others u
    (s.dev.mayIssue t = true → h.dma = none → h.dmaProd ≠ h.dmaCons →
      let raw := at_ h.dmaSlots (h.dmaCons % 64) 0
      let x := parseDescriptor raw (h.dmaCons % 64) h.maxPayload
      (∀ w ∈ slotWords t (h.dmaCons % 64), w ∉ s.dev.arb.poison) →
      (descriptorForm raw = false → s.dev.atEdge = false →
        Completes (.dmaDescriptor t) s fun u => ended u ∧ (vget u.dev.host t).dmaCons = add32 h.dmaCons 1 ∧ u.mem = s.mem ∧
          ∃ r, u.dev.tickRecs = s.dev.tickRecs ++ [r] ∧ r.dest = .tenant t ∧ r.type = 0x10 ∧ r.time = s.dev.now ∧
            r.payload = natLE 4 x.tag ++ natLE 4 0 ++ natLE 1 4 ++ natLE 1 x.source ++ natLE 2 0) ∧
      (descriptorForm raw = true → x.upload = false → x.first % 64 = 0 → x.count % 64 = 0 → 0 < x.count →
        x.first + x.count ≤ s.dev.areaSize 0 t → x.count ≤ x.hostLen → s.dev.seqBusy t = false → s.dev.modes.device ≠ 11 →
        Completes (.dmaDescriptor t) s fun u =>
          (∃ y, (vget u.dev.host t).dma = some y ∧ y.total = x.count ∧ y.hostAddr = x.hostAddr ∧ y.first = x.first ∧
            y.done = 0 ∧ 1 ≤ y.outstanding ∧ y.truncated = false) ∧
          (vget u.dev.host t).dmaCons = add32 h.dmaCons 1 ∧ (vget u.dev.host t).dmaDone = h.dmaDone ∧ others u ∧ u.mem = s.mem)) ∧
    (∀ x, h.dma = some x → x.upload = false → x.outstanding ≠ 0 →
      (∀ data, s.Inv → s.dev.areaBanks 0 t ≠ [] → data.length = x.piece x.done →
        Completes (.downloadCompletion t .success data) s fun u =>
          u.mem = Mem.writeMapped s.mem (s.dev.areaAddr 0 t) (x.first + x.done) data ∧
          (∀ a, (∀ i, i < data.length → a ≠ s.dev.areaAddr 0 t (x.first + x.done + i)) → Mem.read u.mem a = Mem.read s.mem a) ∧
          (x.done + data.length = x.total → ended u) ∧
          (x.done + data.length ≠ x.total → others u ∧
            ∃ y, (vget u.dev.host t).dma = some y ∧ y.done = x.done + data.length ∧ y.total = x.total)) ∧
      (let fails := fun (c : Instr) => Completes c s fun u =>
        ended u ∧ Dev.Occurred s.dev u.dev 89 (tenantScope t) ∧ u.mem = s.mem
      (∀ data, fails (.downloadCompletion t .unsupported data) ∧ fails (.downloadCompletion t .abort data) ∧
        fails (.downloadCompletion t .poisoned data)) ∧ fails (.completionTimeout t))) ∧
    (∀ x, h.dma = some x → x.upload = true → x.source = 0x13 → s.dev.mayIssue t = true → 1 ≤ x.unit → s.dev.arb.poison = [] →
      s.dev.withheldTick s.dev.tb.tick = false →
      Completes (.dmaDone t) s fun u => ended u ∧ u.mem = s.mem ∧
        ∃ w, u.dev.out = s.dev.out ++ w ∧
          (w.flatMap fun o => match o with | .hostWrite f _ b => if f = t then b else [0] | _ => [0]) =
            s.dev.areaBytes s.mem 1 t x.first x.total) ∧
    (∀ (n : Fin 4) (r : EventRec) (rest : List EventRec), s.dev.mayIssue t = true → s.dev.link.written < 128 →
      h.resetLost = none → s.dev.liveQueues t = [n] → (vget h.evq n).lostPending = false → h.hold.recs = r :: rest →
      h.hold.dropsUnreported = 0 → r.type ≠ 0x0C →
      (∀ w ∈ holdWords t r.seq, w ∉ s.dev.arb.poison) → bit (fieldBE (s.dev.dict.cfg.evqCfg t n.val) 12 4) r.type = true →
      let q := vget h.evq n
      let size := s.dev.dict.cfg.evqSize t n.val
      (sub32 q.tail q.head < size → Completes (.eventWrite t) s fun u =>
        u.dev.out = s.dev.out ++ [.hostWrite t (fieldBE (s.dev.dict.cfg.evqCfg t n.val) 0 8 + 32 * (q.tail % size))
          (r.bytes ((q.tail / size) % 2 == 0))] ∧
        (vget (vget u.dev.host t).evq n).tail = add32 q.tail 1 ∧ (vget (vget u.dev.host t).evq n).wrote = true ∧
        (vget u.dev.host t).hold.recs = rest ∧ u.dev.link.written = s.dev.link.written + 1 ∧ others u ∧ u.mem = s.mem) ∧
      (size ≤ sub32 q.tail q.head → Completes (.eventWrite t) s fun u =>
        vget (vget u.dev.host t).evq n = { q with
          lost := satAdd 32 q.lost 1, lostPending := true, lostSince := q.lostSince + 1, lostFirst := r.seq, lostLast := r.seq } ∧
        (vget u.dev.host t).hold.recs = rest ∧ u.dev.out = s.dev.out ∧ others u ∧ u.mem = s.mem)) ∧
    (∀ v : Fin 64,
      let e := (vget h.msixTable v).toNat
      let unmasked := fun (h : HostIf) => { h with msixTable := vmod h.msixTable v fun e => setBit e 96 false }
      (h.msixPba.getLsbD v.val = false →
        exec (.msixUnmask t (some v)) s = .next (s.withDev fun d => d.modHost t unmasked)) ∧
      (h.msixPba.getLsbD v.val = true → h.functionMask = false → h.msixEnable = true → h.busMaster = true →
        exec (.msixUnmask t (some v)) s = .next (s.withDev fun d =>
          (d.modHost t fun h => { unmasked h with msixPba := setBit h.msixPba v.val false }).send
            (.msix t v.val (bits e 63 0) (bits e 95 64))))) ∧
    (h.msixPba = 0 → exec (.msixUnmask t none) s = .next (s.withDev fun d => d.modHost t fun h => { h with functionMask := false }))

/-- R393, R409, R423, R424, R425, R426 and R429: configuration requests, and the link. A request during bring-up or an FLR is
answered with Retry Status; an FLR ends the transfer and asks for the tenant's reset; a hot reset asks for a device reset. The
link in L0 releases WAKE_N, and raises FS-086 below full rate or width; an exit from L1 is a wake source. -/
def Obligations.HostLink : Prop :=
  ∀ (s : State) (t : Tenant),
    (s.dev.rst.phase ≠ 8 ∨ (vget s.dev.host t).flr = true →
      let retry := Host.Outcome.next (φ := Fault) (ρ := Refusal) (s.withDev fun d => d.send (.completion t 5 []))
      (∀ q, exec (.configRequest t q) s = retry) ∧ (∀ on, exec (.busMasterEnable t on) s = retry) ∧
        (s.dev.rst.phase ≠ 8 ∨ s.dev.stairs.now = 0 → exec (.flr t) s = retry)) ∧
    (s.dev.rst.phase = 8 → (vget s.dev.host t).flr = false →
      let done := fun (c : Instr) (f : HostIf → HostIf) => exec c s = .next (s.withDev fun d => (d.modHost t f).send (.completion t 0 []))
      ((vget s.dev.host t).dma = none → ∀ on,
        done (.busMasterEnable t on) (fun h => { h with busMaster := on }) ∧
        (∀ mem, done (.configRequest t (.command mem on)) fun h => { h with memSpace := mem, busMaster := on }) ∧
        done (.configRequest t (.power on)) fun h => { h with d3hot := on }) ∧
      (∀ n, n = 128 ∨ n = 256 ∨ n = 512 → done (.configRequest t (.maxPayload n)) fun h => { h with maxPayload := n }) ∧
      (∀ on, done (.configRequest t (.msix on true)) fun h => { h with msixEnable := on, functionMask := true }) ∧
      exec (.configRequest t (.read 0)) s = .next (s.withDev fun d =>
        d.send (.completion t 0 (natLE 4 (d.fuses.vendorId.toNat + 0x4852 * 65536)))) ∧
      (s.dev.stairs.now = 0 → exec (.flr t) s = .next (s.withDev fun d =>
        { d.modHost t fun h => { h with flr := true, dma := none, bar2 := [] } with
          rst := { d.rst with requests := d.rst.requests ++ [{ source := 0x10, reach := 2, target := t.val }] } }))) ∧
    (s.dev.rst.phase = 8 → s.dev.stairs.now = 0 →
      (s.dev.link.l0 = false → exec .hotReset s = .next (s.withDev fun d =>
        { d with link := { d.link with l0 := false, l1 := false }
                 rst := { d.rst with requests := d.rst.requests ++ [{ source := 0x06, reach := 1 }] } })) ∧
      (s.dev.link.l0 = true → (vget s.dev.fc.src 83).cond.getLsbD 8 = false → s.dev.fc.wires.getLsbD 83 = false →
        Completes .hotReset s fun u =>
        u.dev.link.l0 = false ∧ u.dev.link.l1 = false ∧ Dev.Occurred s.dev u.dev 83 8 ∧
        (∃ q ∈ u.dev.rst.requests, q.source = 0x06 ∧ q.reach = 1) ∧ u.dev.dict = s.dev.dict ∧ u.mem = s.mem)) ∧
    (s.dev.link.l1 = false → exec .l1Exit s = .next s) ∧
    (s.dev.link.l1 = true → bit (s.dev.dict.cfg.nat 0x1502 0) 1 = true → s.dev.stairs.now ≠ 0 → s.dev.stairs.waking = none →
      Completes .l1Exit s fun u => u.dev.stairs = { s.dev.stairs with waking := some 1, wakeMs := s.dev.tb.ms } ∧
        u.dev.link = s.dev.link ∧ u.dev.dict = s.dev.dict ∧ u.dev.fc = s.dev.fc ∧ u.mem = s.mem ∧ u.pending = s.pending) ∧
    (∀ rate width, s.dev.rst.phase ≠ 0 → 1 ≤ rate → rate ≤ 5 → width ∈ [1, 2, 4, 8, 16] →
      (∀ w, (vget s.dev.host w).dma = none) → (vget s.dev.fc.src 86).cond = 0 → s.dev.fc.wires.getLsbD 86 = false →
      s.dev.latches 86 = true →
      Completes (.pcieLinkReachesL0 rate width) s fun u =>
        u.dev.link = { s.dev.link with l0 := true, l1 := false, rate := rate, width := width, wakeN := false } ∧
        (vget u.dev.fc.src 83).cond.getLsbD 8 = false ∧
        (rate < 5 ∨ width < 16 → (vget u.dev.fc.src 86).latched.getLsbD 8 = true ∧
          (vget u.dev.fc.src 86).count = satAdd 32 (vget s.dev.fc.src 86).count 1) ∧
        (rate = 5 → width = 16 → (vget u.dev.fc.src 86).count = (vget s.dev.fc.src 86).count) ∧
        u.dev.out = s.dev.out ∧ u.dev.dict = s.dev.dict ∧ u.mem = s.mem ∧ u.pending = s.pending) ∧
    exec .wakeNTimeout s = .next (s.withDev fun d => { d with link := { d.link with wakeN := false } })

/-! ### The management plane (chapter 14) -/

/-- R415, R448, R450, R451 and R538: GET_EVENTS drops the records acknowledged and answers up to 31 of the rest, the LOST record
of drops not yet reported among them. RESET of the device answers at once and requests the reset; RESET of a tenant, a block or
the endpoint requests it and answers after it, and a tenant or a block that does not exist is answered RANGE. A transaction
with a wrong PEC is discarded, with FS-087. -/
def Obligations.ManagementMessages : Prop :=
  ∀ s : State,
    (∀ m : Vdm, s.dev.takesVdm m →
      (∀ (ackValid : Bool) (h : Hold) (kept : List EventRec), h = s.dev.mgmt.hold →
        kept = (if ackValid then h.recs.filter (fun r => decide (2 ^ 15 ≤ (m.count % 2 ^ 16 + 2 ^ 16 - r.seq) % 2 ^ 16)) else h.recs) →
        let answer := fun (l : List EventRec) => vdmReply s.dev m.tag 2 0x00 l.length (l.flatMap fun r => r.bytes false)
        (h.dropsUnreported = 0 → exec (.getEvents m ackValid) s = .next (s.withDev fun d =>
          { d with mgmt := { d.mgmt with hold := { h with recs := kept } } }.send (answer (kept.take 31)))) ∧
        (h.dropsUnreported ≠ 0 → kept.length < 256 → Completes (.getEvents m ackValid) s fun u =>
          (∃ r : EventRec, r.type = 0x0C ∧ r.seq = h.seq ∧ r.time = s.dev.now ∧
            r.payload = zeros 4 ++ natLE 4 (min h.dropsUnreported (2 ^ 32 - 1)) ++ natLE 2 h.dropFirst ++ natLE 2 h.dropLast ∧
            u.dev.mgmt.hold.recs = kept ++ [r] ∧ u.dev.out = s.dev.out ++ [answer ((kept ++ [r]).take 31)]) ∧
          u.dev.mgmt.hold.dropsUnreported = 0 ∧ u.dev.mgmt.hold.drops = h.drops ∧ u.dev.dict = s.dev.dict ∧
          u.dev.host = s.dev.host ∧ u.mem = s.mem ∧ u.pending = s.pending)) ∧
      (∀ ask : ResetReq → State,
        ask = (fun q => s.withDev fun d =>
          { d with rst := { d.rst with requests := d.rst.requests ++ [q] }
                   mgmt := { d.mgmt with resetReplies := d.mgmt.resetReplies ++ [m.tag] } }) →
        let refused := Host.Outcome.next (φ := Fault) (ρ := Refusal) (s.withDev fun d => d.send (vdmReply d m.tag 3 stRange 0 []))
        (m.count ≤ 7 → exec (.mctpResetTenant m) s = .next (ask { source := 0x12, reach := 2, target := m.count })) ∧
        (7 < m.count → exec (.mctpResetTenant m) s = refused) ∧
        (blockCode m.count = true → exec (.mctpResetBlock m) s =
          .next (ask { source := 0x20, reach := 3, target := m.count, busy := s.dev.blockBusy m.count })) ∧
        (blockCode m.count = false → exec (.mctpResetBlock m) s = refused) ∧
        exec (.mctpResetEndpoint m) s = .next (ask { source := 0x21, reach := 4 })) ∧
      exec (.mctpResetDevice m) s = .next (s.withDev fun d =>
        { d.send (vdmReply d m.tag 3 0x00 0 []) with
          rst := { d.rst with requests := d.rst.requests ++ [{ source := 0x05, reach := 1 }] } })) ∧
    (s.dev.rst.phase = 8 → Completes .smbusPecFail s fun u =>
      Dev.FaultOnly s.dev u.dev ∧ Dev.Occurred s.dev u.dev 87 8 ∧ u.dev.out = s.dev.out ∧ u.mem = s.mem ∧ u.pending = s.pending)

/-- R447 and R452: in every Stair after bring-up, each MCTP control and PLDM command of Table TM-4 is answered by its one
response, whose completion code is 0, and beside SET_ENDPOINT_ID it changes nothing; a command of no row is answered with
ERROR_UNSUPPORTED_CMD, or TYPE as a vendor-defined message. The message layouts are the model's, taken from the MCTP and PLDM
base specifications (assumption log 23). -/
def Obligations.MctpAndPldm : Prop :=
  ∀ (s : State) (tag : Nat), s.dev.rst.phase = 8 →
    let answers := fun (c : Instr) (ty command : Nat) => Completes c s fun u =>
      (∃ body, u.dev.out = s.dev.out ++ [.mctp tag ty command (0 :: body)]) ∧
        u = { s with dev := { s.dev with out := u.dev.out, freeCtr := u.dev.freeCtr } }
    let replies := fun (ty command : Nat) (body : Bytes) => Host.Outcome.next (φ := Fault) (ρ := Refusal)
      (s.withDev fun d => d.send (.mctp tag ty command body))
    (∀ op eid, op ≤ 1 → 8 ≤ eid → eid ≤ 0xFE → exec (.setEndpointId tag op eid) s = .next (s.withDev fun d =>
      { d with mgmt := { d.mgmt with eid := eid } }.send (.mctp tag 0 0x01 ([0, 0] ++ natLE 1 eid ++ [0])))) ∧
    exec (.getEndpointId tag) s = replies 0 0x02 ([0] ++ natLE 1 s.dev.mgmt.eid ++ [0, 0]) ∧
    (∀ ty, ty = 0 ∨ ty = 1 ∨ ty = 0x7F ∨ ty = 0xFF → answers (.getMctpVersionSupport tag ty) 0 0x04) ∧
    exec (.getMessageTypeSupport tag) s = replies 0 0x05 [0, 2, 0x01, 0x7F] ∧
    answers (.getVendorDefinedMessageSupport tag 0) 0 0x06 ∧
    answers (.getTid tag) 1 0x02 ∧
    answers (.getPldmVersion tag 0) 1 0x03 ∧ answers (.getPldmVersion tag 2) 1 0x03 ∧
    exec (.getPldmTypes tag) s = replies 1 0x04 ([0, 5] ++ zeros 7) ∧
    exec (.getPldmCommands tag 0) s = replies 1 0x05 ([0] ++ natLE 32 (2 ^ 2 + 2 ^ 3 + 2 ^ 4 + 2 ^ 5)) ∧
    exec (.getPldmCommands tag 2) s = replies 1 0x05 ([0] ++ natLE 32 (2 ^ 0x11 + 2 ^ 0x21 + 2 ^ 0x51)) ∧
    exec (.getSensorReading tag 1) s =
      replies 1 0x11 ([0, 5, 0, 0, 0, 0, 0] ++ natLE 4 (ofSigned 32 (roundDiv s.dev.cal.tSensor 10))) ∧
    answers (.getSensorReading tag 2) 1 0x11 ∧ answers (.getSensorReading tag 3) 1 0x11 ∧ answers (.getSensorReading tag 4) 1 0x11 ∧
    exec (.getStateSensorReadings tag 5) s = replies 1 0x21 ([0, 1, 0] ++ natLE 1 s.dev.stairs.now ++ natLE 1 s.dev.stairs.now ++ [0]) ∧
    exec (.getStateSensorReadings tag 6) s = replies 1 0x21 ([0, 1, 0] ++ natLE 1 s.dev.traceShown ++ natLE 1 s.dev.traceShown ++ [0]) ∧
    (∀ handle, handle ≤ 6 → answers (.getPdr tag handle) 1 0x51) ∧
    (∀ ty command, ty ≤ 1 → mctpSupported ty command = false → exec (.mctpUnsupportedCommand tag ty command) s = replies ty command [5]) ∧
    (∀ command, 3 < command → command < 0x80 → s.dev.stairs.now = 0 → s.dev.stairs.accepted = none →
      exec (.mctpUnsupportedCommand tag 0x7F command) s = .next (s.withDev fun d => d.send (vdmReply d tag command stType 0 [])))

/-! ### Operating modes, Stairs and isothermal hold (chapters 15 and 16) -/

/-- R470, R471, R472, R473, R474, R477 and R479: SERVICE_REQ enters M10 at the next edge where every present tenant is in M0, and
leaves it with every tenant in M0. A free converter takes the housekeeping request first, then the queued tenant that follows
the one served last. A conversion whose frames have passed writes its result, clamped at the range of the converter, and a
repeated series queues the next until its count is done. -/
def Obligations.ModesAndConverter : Prop :=
  ∀ s : State,
    (∀ r : Req, s.accepts r 0x7000 1 [1] → s.dev.modes.device = 0 → (∀ t, s.dev.present t = true → vget s.dev.modes.mode t = 0) →
      s.dev.dict.commits = [] → exec (.serviceReqEnter r [1]) s =
        .next (s.answered r 0x7000 1 0x00 fun d => { d with modes := { d.modes with serviceReq := true } })) ∧
    (∀ r : Req, s.accepts r 0x7000 1 [0] → s.dev.modes.device = 10 → s.dev.boot.update = none → s.dev.dict.incomplete .mgmt = false →
      exec (.serviceReqLeave r [0]) s =
        .next (s.answered r 0x7000 1 0x00 fun d => { d with modes := { d.modes with serviceLeave := true } })) ∧
    (s.dev.modes.device = 0 → s.dev.modes.serviceReq = true → s.dev.serviceEdge.modes.device = 10) ∧
    (s.dev.modes.device = 10 → s.dev.modes.serviceLeave = true →
      s.dev.serviceEdge.modes.device = 0 ∧ ∀ t, vget s.dev.serviceEdge.modes.mode t = 0) ∧
    (s.dev.modes.dc = none →
      let first := ceilDiv s.dev.tb.tick ticksPerFrame * ticksPerFrame + 16 * ticksPerFrame
      let toEdge := if s.dev.tb.tick % ticksPerFrame = 0 then 0 else 1
      (0 < s.dev.modes.dcHouse → exec .dcConversionStart s = .next (s.withDev fun d => { d with modes := { d.modes with
        dcHouse := d.modes.dcHouse - 1
        dc := some { tenant := none, frames := 48 + toEdge, integ := 32, source := 0, tick := first } } })) ∧
      (s.dev.modes.dcHouse = 0 → ∀ t : Tenant, vget s.dev.modes.dcQueued t = true →
        (∀ w : Tenant, vget s.dev.modes.dcQueued w = true →
          (t.val + 7 - s.dev.modes.dcLast.val) % 8 ≤ (w.val + 7 - s.dev.modes.dcLast.val) % 8) →
        exec .dcConversionStart s = .next (s.withDev fun d => { d with modes := { d.modes with
          dcQueued := vmod d.modes.dcQueued t fun _ => false, dcLast := t
          dc := some { tenant := some t, frames := 16 + d.dict.cfg.dcInteg t + toEdge, integ := d.dict.cfg.dcInteg t
                       source := d.dict.cfg.dcSource t, tick := first } } }))) ∧
    (∀ (x : DcConv) (nv : Int), s.dev.modes.dc = some x →
      (x.frames ≠ 0 → exec (.dcConversionDone nv) s = .next s) ∧
      (x.frames = 0 → x.tenant = none →
        exec (.dcConversionDone nv) s = .next (s.withDev fun d => { d with modes := { d.modes with dc := none } })) ∧
      (∀ t, x.frames = 0 → x.tenant = some t → Completes (.dcConversionDone nv) s fun u =>
        (∀ (lim : Int) (r : DcResult), lim = (if 0x80 ≤ x.source ∧ x.source ≤ 0x85 then 5120000000 else 1280000000) →
          r = vget u.dev.modes.dcResult t →
          (nv.natAbs ≤ lim.natAbs → r.value = f64OfQ (volts nv) ∧ r.overrange = false ∧ r.invalid = x.invalid) ∧
          (lim < nv → r.value = f64OfQ (volts lim) ∧ r.overrange = true ∧ r.invalid = true) ∧
          (nv < -lim → r.value = f64OfQ (volts (-lim)) ∧ r.overrange = true ∧ r.invalid = true) ∧
          r.valid = true ∧ r.abandoned = false ∧ r.source = x.source ∧
          r.time = s.dev.timeOfPos ((x.tick + 512 * x.integ) * 8192) ∧ r.et = s.dev.etOfPos ((x.tick + 512 * x.integ) * 8192) ∧
          r.epochSpan = s.dev.epochSpan x.tick (s.dev.dcEnd x) ∧ r.traceSpan = s.dev.traceSpan x.tick (s.dev.dcEnd x)) ∧
        (∀ w, w ≠ t → vget u.dev.modes.dcResult w = vget s.dev.modes.dcResult w ∧
          vget u.dev.modes.dcQueued w = vget s.dev.modes.dcQueued w) ∧
        u.dev.modes.dc = none ∧ u.dev.modes.mode = s.dev.modes.mode ∧ u.mem = s.mem ∧ u.pending = s.pending ∧
        vget u.dev.modes.dcDone t = vget s.dev.modes.dcDone t + 1 ∧
        (s.dev.dict.cfg.dcRun t ≠ 2 → u.dev.dict = s.dev.dict ∧ vget u.dev.modes.dcQueued t = vget s.dev.modes.dcQueued t) ∧
        (s.dev.dict.cfg.dcRun t = 2 → s.dev.dict.cfg.dcRepeat t ≠ vget s.dev.modes.dcDone t + 1 →
          u.dev.dict = s.dev.dict ∧ vget u.dev.modes.dcQueued t = true) ∧
        (s.dev.dict.cfg.dcRun t = 2 → s.dev.dict.cfg.dcRepeat t = vget s.dev.modes.dcDone t + 1 →
          u.dev.dict.cfg.dcRun t = 0 ∧ vget u.dev.modes.dcQueued t = vget s.dev.modes.dcQueued t)))

/-- R486, R487, R491, R494, R496, R497, R498, R501 and R502: a requester's standing request; an accepted descent enters its Stair at the
edge, or is cancelled by a wake source that is not masked; below Stair 0 the source begins the wake. From Stair 4 down the
context is saved, and the exit restores it. The completed exit is in Stair 0, keeps the memory that the Stair kept and reads zeros
elsewhere, and starts the dwell period; from Stair 3 and deeper it completes at the edge that ends the handover, in that edge's
own order. A late exit is FS-003. -/
def Obligations.StairsAndWakes : Prop :=
  ∀ s : State,
    (∀ n : Byte,
      (∀ t : Tenant, s.accepts (.tenant t) 0x1500 1 [n] → exec (.stairReq (.tenant t) [n]) s =
        .next (s.answered (.tenant t) 0x1500 1 0x00 fun d =>
          { d with stairs := { d.stairs with req := vmod d.stairs.req t fun _ => n.toNat } })) ∧
      (s.accepts .mgmt 0x1500 1 [n] → exec (.stairReq .mgmt [n]) s =
        .next (s.answered .mgmt 0x1500 1 0x00 fun d => { d with stairs := { d.stairs with mgmtReq := n.toNat } }))) ∧
    (∀ (tgt : Nat) (forced : Bool), s.dev.stairs.accepted = some (tgt, forced) → s.dev.stairs.cancelled = none →
      s.dev.modes.device ≠ 11 → s.dev.stairTarget = tgt → s.dev.stairStatus tgt = 1 → s.dev.stairBusy = false →
      s.stairEdge.dev.stairs.now = tgt ∧ s.stairEdge.dev.stairs.accepted = none ∧ s.stairEdge.mem = s.mem ∧
      (3 ≤ tgt → s.stairEdge.dev.tb.fast = false ∧ ∀ p, (vget s.stairEdge.dev.odp.port p).link = false) ∧
      (4 ≤ tgt → ∃ x, s.stairEdge.dev.stairs.context = some x ∧ x.dict = s.dev.dict ∧ x.seqs = s.dev.seqs ∧
        x.sets = s.dev.cal.sets ∧ x.corr = s.dev.cal.corr)) ∧
    (∀ cause : Fin 7,
      (bit (s.dev.dict.cfg.nat 0x1502 0) cause.val = false → exec (.stairWake cause) s = .next s) ∧
      (bit (s.dev.dict.cfg.nat 0x1502 0) cause.val = true →
        (∀ tgt forced, s.dev.stairs.now = 0 → s.dev.stairs.accepted = some (tgt, forced) →
          exec (.stairWake cause) s = .next (s.withDev fun d => { d with stairs := { d.stairs with
            accepted := none, cancelled := some (tgt, cause.val), dwell := d.dict.cfg.dwell } })) ∧
        (s.dev.stairs.now = 0 → s.dev.stairs.accepted = none → exec (.stairWake cause) s = .next s) ∧
        (s.dev.stairs.now ≠ 0 → s.dev.stairs.waking = none → (cause.val = 0 → s.dev.stairs.now ≤ 2) →
          exec (.stairWake cause) s = .next (s.withDev fun d =>
            { d with
              stairs := { d.stairs with waking := some cause.val, wakeMs := d.tb.ms }
              link := { d.link with
                wakeN := d.link.wakeN || (decide (3 ≤ d.stairs.now) && cause.val != 1 && d.link.l1) } })))) ∧
    (∀ cause : Nat, s.dev.stairs.waking = some cause →
      (s.dev.stairs.now = 1 ∨ s.dev.stairs.now = 2 → s.dev.link.held = [] → s.dev.mgmt.heldVdm = [] →
        s.dev.stairs.context = none → s.dev.fc.missed = [] → Completes .stairExitComplete s fun u =>
        let clears := s.dev.dict.cfg.wakeClears && (cause == 3 || cause == 4 || cause == 5 || cause == 6)
        u.dev.stairs = { s.dev.stairs with
          now := 0, waking := none, woke := some (s.dev.stairs.now, cause, s.dev.stairs.wakeMs - s.dev.stairs.enteredMs, 0)
          dwell := s.dev.dict.cfg.dwell, req := if clears then Vector.replicate 8 0 else s.dev.stairs.req
          mgmtReq := if clears then 0 else s.dev.stairs.mgmtReq } ∧
        u.dev.dict = s.dev.dict ∧ u.dev.tb = s.dev.tb ∧ u.dev.seqs = s.dev.seqs ∧ u.dev.cal = s.dev.cal ∧ u.dev.fc = s.dev.fc ∧
        u.mem = s.mem ∧ u.pending = s.pending) ∧
      (3 ≤ s.dev.stairs.now → exec .stairExitComplete s =
        .next (State.toNextEdge { s with dev := s.dev.handoverSeed }).exitStair.frameActions.afterExit) ∧
      (3 ≤ s.dev.stairs.now → s.dev.stairs.now ≤ 6 → s.Inv → ∀ u, u = s.exitStair →
        u.dev.stairs.now = 0 ∧ u.dev.stairs.waking = none ∧ u.dev.stairs.context = none ∧
        u.dev.stairs.dwell = s.dev.dict.cfg.dwell ∧ u.pending = s.pending ∧
        (∀ x, s.dev.stairs.context = some x → (s.dev.stairs.now ≤ 5 → u.dev.dict = x.dict ∧ u.dev.cal.corr = x.corr) ∧
          ∀ t, u.dev.seq t = { vget x.seqs t with scratch := (u.dev.seq t).scratch }) ∧
        (∀ (a : Nat) (b : Fin 64), b.val < 60 → a / 2 ^ 20 = b.val → Mem.read u.mem a =
          if s.dev.stairs.now ≤ 4 ∧ vget s.dev.arb.bankOwner b < 8 ∧ s.dev.dict.cfg.retains (bankRegion b) = true
          then Mem.read s.mem a else 0) ∧
        ∀ t, (u.dev.seq t).scratch = if s.dev.stairs.now ≤ 4 then (s.dev.seq t).scratch else [])) ∧
    (∀ cause, s.dev.stairs.waking = some cause → (vget s.dev.fc.src 3).cond &&& scopeBit 8 = 0 → s.dev.fc.wires.getLsbD 3 = false →
      Completes .stairExitLate s fun u =>
        Dev.FaultOnly s.dev u.dev ∧ Dev.Occurred s.dev u.dev 3 8 ∧ u.mem = s.mem ∧ u.pending = s.pending) ∧
    (s.dev.stairs.dwell ≤ 1 → exec .dwellEnd s = .next (s.withDev fun d => { d with stairs := { d.stairs with dwell := 0 } }))

/-- R281, R503, R504, R505, R507 and R508: a servo update keeps the drive code at 0 for heat or VHTR out of range, ramps it down with
the servo off, and otherwise moves it by at most 16 codes, or not at all with SENSOR_FAULT, in a withheld tick, or until B6 after
a reset other than power-on; the first update of a setpoint is warming. WARMING_DONE, HEATER_LIMIT and HEATER_CLEAR change the state, with their STAIR records and FS-001 or
FS-002. -/
def Obligations.HeaterServo : Prop :=
  ∀ s : State,
    (∀ (milliC : Int) (diff : Nat) (hottest : Int) (vhtr : Nat) (power : BitVec 64),
      Completes (.heaterUpdate milliC diff hottest vhtr power) s fun u =>
        u = { s with dev := { s.dev with heater := u.dev.heater, freeCtr := u.dev.freeCtr } } ∧
        ∀ h g, h = s.dev.heater → g = u.dev.heater →
          g.power = power ∧ (g.hot = true ↔ 90000 ≤ hottest) ∧ (g.vhtrOk = true ↔ 1080 ≤ vhtr ∧ vhtr ≤ 1320) ∧
          g.state = (if s.dev.servoRuns = false then 0 else if h.state = 3 then 3
            else if h.state = 0 ∨ h.tIso ≠ s.dev.tIso then 2 else h.state) ∧
          (s.dev.codeFrozen = true → g.code = h.code) ∧
          (s.dev.codeFrozen = false → g.hot = true ∨ g.vhtrOk = false → g.code = 0) ∧
          (s.dev.codeFrozen = false → g.hot = false → g.vhtrOk = true →
            (s.dev.servoRuns = false → g.code = h.code - 16) ∧
            (s.dev.servoRuns = true → s.dev.cal.sensorFault = true ∨ 500 < diff → g.code = h.code) ∧
            (s.dev.servoRuns = true → s.dev.cal.sensorFault = false → diff ≤ 500 →
              (s.dev.withheldTick s.dev.tb.tick = true → s.dev.stairs.now = 0 → g.code = h.code ∧ g.frozen = true) ∧
              (s.dev.withheldTick s.dev.tb.tick = false ∨ s.dev.stairs.now ≠ 0 → h.code ≤ 4095 →
                g.code ≤ h.code + 16 ∧ h.code ≤ g.code + 16 ∧ g.code ≤ 4095)))) ∧
    (∀ h : Heater, s.dev.heater = h →
      let record := fun (action state ms : Nat) (d : Dev) => d.emitAll 0x0A 0x8000 d.now
        (natLE 1 action ++ natLE 1 d.stairs.now ++ natLE 1 d.stairs.now ++ natLE 1 0xFF ++ natLE 4 (min ms (2 ^ 32 - 1)) ++
          natLE 1 0 ++ natLE 1 state ++ zeros 2)
      (h.state = 2 → s.dev.cal.tSettle ≤ h.bandMs + 1 → exec .warmingDone s = .next (s.withDev fun d =>
        record 0x05 1 ((h.stateMs + 1) / 1000) { d with heater := { h with state := 1, stateMs := 0, bandMs := 0 } })) ∧
      (h.state = 1 ∨ h.state = 2 → 999 ≤ h.edgeMs ∨ s.dev.cal.sensorFault = true ∨ h.hot = true ∨ h.vhtrOk = false →
        ∀ src : Source, src = (if h.vhtrOk then 1 else 2) → (vget s.dev.fc.src src).cond &&& scopeBit 8 = 0 →
        s.dev.fc.wires.getLsbD src.val = false → Completes .heaterLimit s fun u =>
          (∀ d : Dev, d = { s.dev with heater := { h with state := 3, absentMs := 0, stateMs := 0, bandMs := 0 } } →
            Dev.FaultOnly d u.dev) ∧
          Dev.Occurred s.dev u.dev src 8 ∧ u.mem = s.mem ∧ u.pending = s.pending) ∧
      (h.state = 3 → 999 ≤ h.absentMs → exec .heaterClear s = .next (s.withDev fun d =>
        let falls := fun (f : FaultSrc) => { f with cond := f.cond &&& ~~~scopeBit 8 }
        record 0x07 2 0 { d with
          heater := { h with state := 2, stateMs := 0, bandMs := 0, edgeMs := 0, absentMs := 0 }
          fc := { d.fc with src := vmod (vmod d.fc.src 1 falls) 2 falls } })))

/-! ### Resets, faults and the test port (chapters 17, 19 and 21) -/

/-- R516, R523, R524, R526, R527, R528, R531, R534, R537 and R538: a power-on reset keeps the fuses, the archive and the flash alone, and
leaves every output in high impedance; RESET_N and PWRGD reset the device at once, keep what Table RB-3 keeps and enter the history, or wait for a write pulse. The watchdog
restarts at a kick or a new timeout and expires with FS-113; BLOCK_RESET is requested of Tahr; a tenant reset leaves the tenant
idle, in M0 and without locks; the phases of bring-up lead to Ready, or halt. -/
def Obligations.ResetCommands : Prop :=
  ∀ s : State,
    (Completes .powerOn s fun u =>
      u.dev.fuses = s.dev.fuses ∧ u.dev.cal.arch = s.dev.cal.arch ∧ u.dev.cal.checkpoints = s.dev.cal.checkpoints ∧
      u.dev.cal.life = s.dev.cal.life ∧ u.dev.cal.journal = s.dev.cal.journal ∧ u.dev.boot.flash = s.dev.boot.flash ∧
      u.dev.rst.phase = 0 ∧ u.dev.rst.history = [] ∧ u.dev.rst.retained = [] ∧ u.dev.rst.backup = Vector.replicate 32 0 ∧
      u.dev.tb = {} ∧ u.dev.dict = {} ∧ u.dev.fc = {} ∧ u.dev.stairs = {} ∧ u.dev.heater = {} ∧ u.dev.mgmt = {} ∧
      u.dev.modes = {} ∧ (∀ t, u.dev.seq t = {}) ∧ (∀ c, (vget u.dev.chans c).ball = .hiZ) ∧ (∀ k, vget u.dev.discrete k = none) ∧
      u.pending = s.pending) ∧
    (let resets := fun (c : Instr) (source : Nat) =>
      (s.dev.cal.pulse = false → s.dev.rst.requests = [] → s.dev.stairs.accepted = none → Completes c s fun u =>
        (∃ e : ResetEntry, e.source = source ∧ e.reach = 1 ∧ e.target = 0 ∧ e.time = s.dev.now ∧
          u.dev.rst.history = (e :: s.dev.rst.history).take 8) ∧
        u.dev.rst.phase = 0 ∧ u.dev.rst.backup = s.dev.rst.backup ∧ u.dev.rst.retained = s.dev.rst.retained ∧
        u.dev.rst.requests = [] ∧ u.dev.rst.key = [] ∧ u.dev.dict.cfg = [] ∧ u.dev.fuses = s.dev.fuses ∧
        u.dev.cal.arch = s.dev.cal.arch ∧ u.dev.fc.last = s.dev.fc.last ∧ u.dev.heater.code = s.dev.heater.code ∧
        u.dev.stairs.now = 0 ∧ (∀ t, u.dev.seq t = {}) ∧ u.mem = s.mem ∧ u.pending = s.pending)
     (resets .resetN 0x01 ∧ (s.dev.cal.pulse = true → exec .resetN s = .next (s.withDev fun d =>
        { d with rst := { d.rst with resetNLow := true, requests := d.rst.requests ++ [{ source := 0x01, reach := 1, heldOff := true }] } }))) ∧
     (resets .pwrgdLow 0x07 ∧ (s.dev.cal.pulse = true → exec .pwrgdLow s = .next (s.withDev fun d =>
        { d with rst := { d.rst with pwrgdLow := true, requests := d.rst.requests ++ [{ source := 0x07, reach := 1, heldOff := true }] } })))) ∧
    (s.dev.dict.cfg.nat 0x1605 0 = s.dev.rst.wdt + 1 → s.dev.rst.phase = 8 → s.dev.stairs.now = 0 →
      (vget s.dev.fc.src 113).cond &&& scopeBit 8 = 0 → s.dev.fc.wires.getLsbD 113 = false → Completes .watchdogExpired s fun u =>
        (∀ d : Dev, d = { s.dev with rst := { s.dev.rst with wdt := s.dev.rst.wdt + 1 } } → Dev.FaultOnly d u.dev) ∧
        Dev.Occurred s.dev u.dev 113 8 ∧ u.dev.fc.aliveToggling = false ∧ u.dev.fc.alive = s.dev.fc.alive ∧
        (s.dev.reaction 113 % 16 = 5 → u.dev.rst.requests = s.dev.rst.requests ++ [{ source := 0x02, reach := 1 }]) ∧
        (s.dev.reaction 113 % 16 = 4 → u.dev.rst.requests = s.dev.rst.requests ∧ u.dev.fc.safeHoldDue = true) ∧
        u.mem = s.mem ∧ u.pending = s.pending) ∧
    (∀ r : Req,
      (s.accepts r 0x1605 1 [1] → exec (.watchdogKick r [1]) s =
        .next (s.answered r 0x1605 1 0x00 fun d => { d with rst := { d.rst with wdt := 0 } })) ∧
      (s.accepts r 0x1605 1 [0] → exec (.watchdogKick r [0]) s = .next (s.answered r 0x1605 1 0x00 fun d => d)) ∧
      (∀ v, s.accepts r 0x1605 0 v → exec (.watchdogTimeout r v) s = .next (s.answered r 0x1605 0 0x00 fun d =>
        { d with dict := { d.dict with cfg := d.dict.cfg.set 0x1605 0 v }, rst := { d.rst with wdt := 0 } })) ∧
      (∀ code, s.accepts r 0x1604 code [1] → exec (.blockReset r code [1]) s = .next (s.answered r 0x1604 code 0x00 fun d =>
        { d with rst := { d.rst with requests := d.rst.requests ++
            [{ source := 0x20, reach := 3, target := code, busy := d.blockBusy code }] } }))) ∧
    (∀ (q : ResetReq) (t : Tenant) (u : State), q.target = t.val → u = s.execTenant q →
      (u.dev.seq t).state = .idle ∧ vget u.dev.modes.mode t = 0 ∧ vget u.dev.dict.shadow t = [] ∧
      (∀ k, (vget u.dev.mgmt.locks k).holder ≠ some (.tenant t)) ∧ u.mem = s.mem ∧ u.pending = s.pending) ∧
    (∀ (env : BringupEnv) (us : Nat), env.us = [us] →
      (s.dev.rst.phase = 8 ∨ s.dev.rst.halted = true → exec (.bringup env) s = .next s) ∧
      (s.dev.rst.halted = false →
        (s.dev.rst.phase = 1 → env.fusesOk = false → Completes (.bringup env) s fun u =>
          u.dev.rst.halted = true ∧ u.dev.rst.phase = 1 ∧ Dev.Occurred s.dev u.dev 115 8 ∧ u.mem = s.mem ∧ u.pending = s.pending) ∧
        (s.dev.rst.phase = 5 → env.bistOk = true → Completes (.bringup env) s fun u =>
          u.mem = [] ∧ u.dev.rst.phase = 6 ∧ u.dev.arb.poison = [] ∧ u.dev.dict.cfg = s.dev.dict.cfg ∧ u.pending = s.pending) ∧
        (s.dev.rst.phase = 7 → Completes (.bringup env) s fun u =>
          u.dev.rst.phase = 8 ∧ u.dev.rst.bringupTime = s.dev.rst.bringupTime + us ∧ u.dev.rst.resetNLow = false ∧
          u.dev.fc.aliveToggling = !u.dev.fc.classDSeen ∧
          (u.dev.modes.device = if (vget u.dev.fc.src 114).latched = 0 then s.dev.modes.device else 11) ∧
          (∀ c, (vget u.dev.chans c).ball = u.dev.ballLevel c) ∧
          u.dev.dict.cfg = s.dev.dict.cfg ∧ u.mem = s.mem ∧ u.pending = s.pending)))

/-- R563, R564, R570, R575, R576, R577 and R579: a condition that rises makes one occurrence in its scope, and none while it is
present; a source of the core part latches nothing while the core clock stands; a resource's fall ends its scope where no other of it has
the condition; a broken pair makes its source active, with FS-121, until the pair is restored; forcing makes an occurrence; a clear
takes the latches that are not active in the scopes of the writer and leaves the counts; ALIVE changes its level while it
toggles. -/
def Obligations.FaultCommands : Prop :=
  ∀ s : State,
    (∀ (src : Source) (row : FaultRow) (res : Resource), faultRow src.val = some row → row.kind ≠ .trans →
      s.dev.stairs.now = 0 → s.dev.fc.wires.getLsbD src.val = false →
      let brings : Dev :=
        if src = 21 then { s.dev with tb := { s.dev.tb with corePllLock := false } }
        else if src = 80 then s.dev.linkLost 0 else if src = 81 then s.dev.linkLost 1
        else if src = 83 then { s.dev with link := { s.dev.link with l0 := false, l1 := false } } else s.dev
      (row.scope = .dev → src ≠ 22 → res ∉ (vget s.dev.fc.src src).present → Completes (.faultCondition src res) s fun u =>
        Dev.FaultOnly brings u.dev ∧ Dev.Occurred brings u.dev src 8 ∧ (vget u.dev.fc.src src).cond.getLsbD 8 = true ∧
        res ∈ (vget u.dev.fc.src src).present ∧ u.mem = s.mem ∧ u.pending = s.pending) ∧
      (src = 22 → res ∉ (vget s.dev.fc.src src).present → Completes (.faultCondition src res) s fun u =>
        (vget u.dev.fc.src src).latched.getLsbD 8 = true ∧
        (vget u.dev.fc.src src).count = satAdd 32 (vget s.dev.fc.src src).count 1 ∧
        (∀ p, (vget u.dev.odp.port p).link = false) ∧ u.dev.dict = s.dev.dict ∧ u.mem = s.mem ∧ u.pending = s.pending) ∧
      (row.scope ≠ .dev → src ≠ 64 → src ≠ 69 → ∀ t : Tenant,
        (res = .tenant t ∨ ∃ c, res = .channel c ∧ s.dev.chOwner c = some t ∧ (vget s.dev.chans c).readmitting = false) →
        res ∉ (vget s.dev.fc.src src).present → Completes (.faultCondition src res) s fun u =>
          Dev.FaultOnly s.dev u.dev ∧ Dev.Occurred s.dev u.dev src (tenantScope t) ∧ res ∈ (vget u.dev.fc.src src).present ∧
          u.mem = s.mem ∧ u.pending = s.pending)) ∧
    (∀ (src : Source) (row : FaultRow) (res : Resource), faultRow src.val = some row → row.kind = .signal →
      2 ≤ s.dev.stairs.now → s.dev.rst.requests = [] → row.scope = .dev → src ≠ 21 → src ≠ 22 → src ≠ 80 → src ≠ 81 → src ≠ 83 →
      res ∉ (vget s.dev.fc.src src).present → s.dev.fc.wires.getLsbD src.val = false → Completes (.faultCondition src res) s fun u =>
        u = { s with dev := { s.dev with fc := u.dev.fc } } ∧ (vget u.dev.fc.src src).cond.getLsbD 8 = true ∧
        (∀ k, (vget u.dev.fc.src k).latched = (vget s.dev.fc.src k).latched ∧
          (vget u.dev.fc.src k).count = (vget s.dev.fc.src k).count)) ∧
    (∀ (src : Source) (row : FaultRow) (res : Resource), faultRow src.val = some row → s.dev.stairs.now = 0 →
      (row.scope = .dev → src ≠ 21 → src ≠ 22 → src ≠ 80 → src ≠ 81 → src ≠ 83 → res ∈ (vget s.dev.fc.src src).present →
        exec (.faultCondition src res) s = .next s) ∧
      (let left := (vget s.dev.fc.src src).present.erase res
       (Completes (.faultConditionFalls src res) s fun u =>
        (vget u.dev.fc.src src).present = left ∧ (vget u.dev.fc.src src).cond = s.dev.scopeMask row left ∧
        (row.scope = .dev → (vget u.dev.fc.src src).cond = if left = [] then 0 else scopeBit 8) ∧
        (∀ k, (vget u.dev.fc.src k).latched = (vget s.dev.fc.src k).latched ∧
          (vget u.dev.fc.src k).count = (vget s.dev.fc.src k).count) ∧ u.mem = s.mem ∧ u.pending = s.pending) ∧
       (src ≠ 21 → src ≠ 64 → src ≠ 69 → src ≠ 71 → exec (.faultConditionFalls src res) s = .next (s.withDev fun d =>
        { d with fc := { d.fc with
          missed := d.fc.missed.filter fun p => p != (src, res)
          src := vmod d.fc.src src fun f => { f with present := left, cond := d.scopeMask row left } } })))) ∧
    (∀ src : Source, s.dev.stairs.now = 0 →
      let scopes := match faultRow src.val with
        | some row => if row.scope = .dev then [devScope] else s.dev.presentScopes
        | none => []
      (s.dev.fc.wires.getLsbD src.val = true → exec (.brokenPair src) s = .next s) ∧
      (s.dev.fc.wires.getLsbD src.val = false →
        (src ≠ 121 → Completes (.brokenPair src) s fun u =>
          Dev.FaultOnly s.dev u.dev ∧ u.dev.fc.wires = setBit s.dev.fc.wires src.val true ∧
          (src ≠ 122 → ∀ sc : Scope, (vget u.dev.fc.src src).broken.getLsbD sc.val = scopes.contains sc) ∧
          (∀ sc ∈ scopes, (vget u.dev.fc.src src).latched.getLsbD sc.val = true) ∧
          (scopes = [devScope] → (vget u.dev.fc.src src).count = satAdd 32 (vget s.dev.fc.src src).count 1) ∧
          (vget u.dev.fc.src 121).latched = (vget s.dev.fc.src 121).latched ||| scopeBit 8 ∧
          (vget u.dev.fc.src 121).count = satAdd 32 (vget s.dev.fc.src 121).count 1 ∧
          (vget u.dev.fc.src 121).broken = scopeBit 8 ∧
          (∀ k, k ≠ src → k ≠ 121 → k ≠ 122 →
            vget u.dev.fc.src k = { vget s.dev.fc.src k with lastMerged := (vget u.dev.fc.src k).lastMerged }) ∧
          u.mem = s.mem ∧ u.pending = s.pending) ∧
        (src = 121 → Completes (.brokenPair src) s fun u =>
          Dev.FaultOnly s.dev u.dev ∧ (vget u.dev.fc.src 122).broken = scopeBit 8 ∧
          (vget u.dev.fc.src 122).latched = (vget s.dev.fc.src 122).latched ||| scopeBit 8 ∧
          (vget u.dev.fc.src 122).count = satAdd 32 (vget s.dev.fc.src 122).count 1 ∧
          (vget u.dev.fc.src 121).count = (vget s.dev.fc.src 121).count ∧ u.mem = s.mem ∧ u.pending = s.pending))) ∧
    (∀ src : Source, Completes (.pairRestored src) s fun u =>
      u = { s with dev := { s.dev with fc := u.dev.fc } } ∧ u.dev.fc.wires = setBit s.dev.fc.wires src.val false ∧
      (src ≠ 121 → src ≠ 122 → (vget u.dev.fc.src src).broken = 0) ∧
      ((vget u.dev.fc.src 121).broken = if setBit (setBit s.dev.fc.wires src.val false) 121 false = 0 then 0 else scopeBit 8) ∧
      ∀ k, vget u.dev.fc.src k = { vget s.dev.fc.src k with broken := (vget u.dev.fc.src k).broken }) ∧
    (∀ (src : Source) (row : FaultRow), faultRow src.val = some row → row.scope = .dev →
      ∀ (r : Req) (k : Fin 4) (n : Fin 32), src.val = 32 * k.val + n.val → s.accepts r 0x7F20 k.val (natBE 4 (2 ^ n.val)) →
        (∀ i : Fin 32, s.dev.fc.force.getLsbD (32 * k.val + i.val) = false) →
        Completes (.faultForce r k (natBE 4 (2 ^ n.val))) s fun u =>
          Dev.FaultOnly (s.dev.send (.itemStatus r 0x7F20 k.val 0x00)) u.dev ∧ Dev.Occurred s.dev u.dev src 8 ∧
          u.dev.fc.force = setBit s.dev.fc.force src.val true ∧ (vget u.dev.fc.src src).forced = scopeBit 8 ∧
          (vget u.dev.fc.src src).lastForced.getLsbD 8 = true ∧ u.mem = s.mem ∧ u.pending = s.pending) ∧
    (∀ (v : Byte) (src : Source), v.toNat = src.val →
      let f := vget s.dev.fc.src src
      let cleared := fun (r : Req) (st : Nat) (u : State) =>
        u = { s with dev := { s.dev.send (.itemStatus r 0x1802 0 st) with fc := u.dev.fc } } ∧
        (vget u.dev.fc.src src).count = f.count ∧ u.dev.fc.last = s.dev.fc.last ∧ u.dev.fc.opens = s.dev.fc.opens ∧
        ∀ k, k ≠ src → vget u.dev.fc.src k = vget s.dev.fc.src k
      (s.accepts .mgmt 0x1802 0 [v] →
        ((∀ sc, f.activeIn sc = false) → Completes (.fcClear .mgmt v) s fun u =>
          cleared .mgmt 0x00 u ∧ (vget u.dev.fc.src src).latched = 0 ∧ (s.dev.fc.first = src.val → u.dev.fc.first = 0xFFFF)) ∧
        (∀ sc : Scope, f.activeIn sc = true → f.latched.getLsbD sc.val = true → Completes (.fcClear .mgmt v) s fun u =>
          cleared .mgmt stMode u ∧
          ∀ w : Scope, (vget u.dev.fc.src src).latched.getLsbD w.val = (f.latched.getLsbD w.val && f.activeIn w))) ∧
      (∀ t : Tenant, s.accepts (.tenant t) 0x1802 0 [v] →
        (f.latched.getLsbD t.val = true → f.activeIn (tenantScope t) = false → Completes (.fcClear (.tenant t) v) s fun u =>
          cleared (.tenant t) 0x00 u ∧ (vget u.dev.fc.src src).latched = f.latched &&& ~~~scopeBit (tenantScope t)) ∧
        (f.latched.getLsbD t.val = false →
          exec (.fcClear (.tenant t) v) s = .next (s.answered (.tenant t) 0x1802 0 stNoRight fun d => d)) ∧
        (f.latched.getLsbD t.val = true → f.activeIn (tenantScope t) = true →
          exec (.fcClear (.tenant t) v) s = .next (s.answered (.tenant t) 0x1802 0 stMode fun d => d)))) ∧
    (∀ r : Req, s.accepts r 0x1802 0 [0xFF] → Completes (.fcClearAll r) s fun u =>
      u = { s with dev := { s.dev.send (.itemStatus r 0x1802 0 0x00) with fc := u.dev.fc } } ∧
      ∀ k, (vget u.dev.fc.src k).count = (vget s.dev.fc.src k).count ∧ ∀ w : Scope,
        (vget u.dev.fc.src k).latched.getLsbD w.val =
          ((vget s.dev.fc.src k).latched.getLsbD w.val && (!(clearScopes r).contains w || (vget s.dev.fc.src k).activeIn w))) ∧
    (s.dev.fc.aliveToggling = true → Completes .aliveToggle s fun u =>
      u = { s with dev := { s.dev with fc := { s.dev.fc with alive := !s.dev.fc.alive, aliveCycles := 0 }
                                       discrete := u.dev.discrete, out := u.dev.out } } ∧
      (s.dev.rst.phase = 8 → s.dev.rst.fuseLatched = true → s.dev.jtag.pins = 0 →
        vget u.dev.discrete 4 = some (!s.dev.fc.alive))) ∧
    (s.dev.fc.aliveToggling = false → exec .aliveToggle s = .next s)

/-- R582, R619, R620, R621 and R622: leaving Test-Logic-Reset makes FS-123 active, returning to it ends that and the pins show
their functional states. While the TAP is active, EXTEST and its two variants drive the channels from the boundary register, which
they shift, SAMPLE_PRELOAD shifts it with the pins functional, IDCODE answers the identification, CLAMP holds the register's
levels, HIGHZ puts every channel into Z, and BYPASS or an opcode of no row selects the bypass register; an instruction that takes
the pins ends the links. In Test-Logic-Reset none of them has an effect. The level that a cell gives a channel's balls is the
model's choice (assumption log 31). -/
def Obligations.BoundaryScan : Prop :=
  ∀ (s : State) (shift capture : BitVec 271),
    let cells := fun (u : State) (b : BitVec 271) => ∀ c : Chan, (vget u.dev.chans c).ball =
      (if b.getLsbD (2 * c.val + 1) then .driven (if b.getLsbD (2 * c.val) then 400 else -400) 0 else .hiZ)
    let functional := fun (u : State) => (∀ c : Chan, (vget u.dev.chans c).ball = u.dev.ballLevel c) ∧
      ∀ k : Fin 5, vget u.dev.discrete k = u.dev.discreteLevel k
    let frame := fun (u : State) => u.dev.seqs = s.dev.seqs ∧ u.dev.dict = s.dev.dict ∧ u.dev.modes = s.dev.modes ∧ u.mem = s.mem ∧
      u.pending = s.pending
    let quietly := fun (u : State) => frame u ∧ u.dev.link = s.dev.link ∧ u.dev.odp = s.dev.odp ∧ u.dev.fc = s.dev.fc
    let noLinks := fun (u : State) => frame u ∧ u.dev.link.l0 = false ∧ ∀ p, (vget u.dev.odp.port p).link = false
    ((vget s.dev.fc.src 123).cond &&& scopeBit 8 = 0 → s.dev.fc.wires.getLsbD 123 = false → Completes .jtagActive s fun u =>
      u.dev.jtag = { s.dev.jtag with active := true } ∧ Dev.Occurred s.dev u.dev 123 8 ∧
      (vget u.dev.fc.src 123).cond.getLsbD 8 = true ∧ u.dev.allInvalid = true ∧ u.dev.out = s.dev.out ∧ u.mem = s.mem ∧
      u.pending = s.pending) ∧
    (Completes .testLogicReset s fun u =>
      u.dev.jtag = { s.dev.jtag with active := false, ir := 1, pins := 0 } ∧ functional u ∧
      u.dev.fc = { s.dev.fc with src := vmod s.dev.fc.src 123 fun f => { f with cond := f.cond &&& ~~~scopeBit 8 } } ∧ frame u) ∧
    (s.dev.jtag.active = true →
      (∀ c ir, (c = .extest shift capture ∧ ir = 0x00) ∨ (c = .extestPulse shift capture ∧ ir = 0x08) ∨
          (c = .extestTrain shift capture ∧ ir = 0x09) → Completes c s fun u =>
        u.dev.jtag = { s.dev.jtag with ir := ir, pins := 1, boundary := shift } ∧ cells u shift ∧
        Output.jtag 0 capture.toNat ∈ u.dev.out ∧ noLinks u) ∧
      (Completes (.samplePreload shift capture) s fun u =>
        u.dev.jtag = { s.dev.jtag with ir := 0x02, pins := 0, boundary := shift } ∧ functional u ∧
        Output.jtag 0 capture.toNat ∈ u.dev.out ∧ quietly u) ∧
      (Completes .idcode s fun u =>
        u.dev.jtag = { s.dev.jtag with ir := 0x01, pins := 0 } ∧ functional u ∧ quietly u ∧
        u.dev.out.getLast? = some (.jtag 1 ((s.dev.fuses.stepping.toNat / 256 % 16) * 2 ^ 28 + 0x4852 * 2 ^ 12
          + s.dev.fuses.jtagMfr.toNat * 2 + 1))) ∧
      (Completes .clamp s fun u =>
        u.dev.jtag = { s.dev.jtag with ir := 0x04, pins := 2 } ∧ cells u s.dev.jtag.boundary ∧ noLinks u ∧
        u.dev.out.getLast? = some (.jtag 2 0)) ∧
      (Completes .highz s fun u =>
        u.dev.jtag = { s.dev.jtag with ir := 0x05, pins := 3 } ∧ (∀ c, (vget u.dev.chans c).ball = .hiZ) ∧
        (∀ k, vget u.dev.discrete k = none) ∧ noLinks u ∧ u.dev.out.getLast? = some (.jtag 2 0)) ∧
      (∀ opcode : Fin 64, listedIr.contains opcode.val = false → Completes (.bypass opcode) s fun u =>
        u.dev.jtag = { s.dev.jtag with ir := opcode.val, pins := 0 } ∧ functional u ∧ quietly u ∧
        u.dev.out.getLast? = some (.jtag 2 0))) ∧
    (s.dev.jtag.active = false → ∀ c,
      c = .extest shift capture ∨ c = .extestPulse shift capture ∨ c = .extestTrain shift capture ∨
        c = .samplePreload shift capture ∨ c = .idcode ∨ c = .clamp ∨ c = .highz ∨ (∃ opcode, c = .bypass opcode) →
      exec c s = .next s)
end

