-- ==== Sys2Proof/Laws/State.lean ====
section
/-! SUPPORT. One lemma for each field and each named update of the device and of the state: what the update leaves alone,
and what a file's component reads after it. -/
namespace Sys2Proof.Machine

/-! ### Files -/

@[simp] theorem vget_vmod {α : Type} {n : Nat} (v : Vector α n) (i : Fin n) (f : α → α) : vget (vmod v i f) i = f (vget v i) := by
  simp [vget, vmod]

theorem vget_vmod_ne {α : Type} {n : Nat} (v : Vector α n) (i j : Fin n) (f : α → α) (h : j ≠ i) :
    vget (vmod v i f) j = vget v j := by
  have : i.val ≠ j.val := fun e => h (Fin.ext e.symm)
  simp [vget, vmod, Vector.getElem_set_ne, this]

@[simp] theorem vmod_vmod {α : Type} {n : Nat} (v : Vector α n) (i : Fin n) (f g : α → α) :
    vmod (vmod v i f) i g = vmod v i fun x => g (f x) := by
  simp [vmod]

/-! ### The device -/

@[simp] theorem Dev.modSeq_fuses (d : Dev) (t : Tenant) (f : Seq → Seq) : (d.modSeq t f).fuses = d.fuses := rfl
@[simp] theorem Dev.modSeq_tb (d : Dev) (t : Tenant) (f : Seq → Seq) : (d.modSeq t f).tb = d.tb := rfl
@[simp] theorem Dev.modSeq_chans (d : Dev) (t : Tenant) (f : Seq → Seq) : (d.modSeq t f).chans = d.chans := rfl
@[simp] theorem Dev.modSeq_vrefFrames (d : Dev) (t : Tenant) (f : Seq → Seq) : (d.modSeq t f).vrefFrames = d.vrefFrames := rfl
@[simp] theorem Dev.modSeq_gf (d : Dev) (t : Tenant) (f : Seq → Seq) : (d.modSeq t f).gf = d.gf := rfl
@[simp] theorem Dev.modSeq_arb (d : Dev) (t : Tenant) (f : Seq → Seq) : (d.modSeq t f).arb = d.arb := rfl
@[simp] theorem Dev.modSeq_dict (d : Dev) (t : Tenant) (f : Seq → Seq) : (d.modSeq t f).dict = d.dict := rfl
@[simp] theorem Dev.modSeq_odp (d : Dev) (t : Tenant) (f : Seq → Seq) : (d.modSeq t f).odp = d.odp := rfl
@[simp] theorem Dev.modSeq_host (d : Dev) (t : Tenant) (f : Seq → Seq) : (d.modSeq t f).host = d.host := rfl
@[simp] theorem Dev.modSeq_link (d : Dev) (t : Tenant) (f : Seq → Seq) : (d.modSeq t f).link = d.link := rfl
@[simp] theorem Dev.modSeq_mgmt (d : Dev) (t : Tenant) (f : Seq → Seq) : (d.modSeq t f).mgmt = d.mgmt := rfl
@[simp] theorem Dev.modSeq_fc (d : Dev) (t : Tenant) (f : Seq → Seq) : (d.modSeq t f).fc = d.fc := rfl
@[simp] theorem Dev.modSeq_rst (d : Dev) (t : Tenant) (f : Seq → Seq) : (d.modSeq t f).rst = d.rst := rfl
@[simp] theorem Dev.modSeq_cal (d : Dev) (t : Tenant) (f : Seq → Seq) : (d.modSeq t f).cal = d.cal := rfl
@[simp] theorem Dev.modSeq_gallery (d : Dev) (t : Tenant) (f : Seq → Seq) : (d.modSeq t f).gallery = d.gallery := rfl
@[simp] theorem Dev.modSeq_acq (d : Dev) (t : Tenant) (f : Seq → Seq) : (d.modSeq t f).acq = d.acq := rfl
@[simp] theorem Dev.modSeq_trigLines (d : Dev) (t : Tenant) (f : Seq → Seq) : (d.modSeq t f).trigLines = d.trigLines := rfl
@[simp] theorem Dev.modSeq_modes (d : Dev) (t : Tenant) (f : Seq → Seq) : (d.modSeq t f).modes = d.modes := rfl
@[simp] theorem Dev.modSeq_stairs (d : Dev) (t : Tenant) (f : Seq → Seq) : (d.modSeq t f).stairs = d.stairs := rfl
@[simp] theorem Dev.modSeq_heater (d : Dev) (t : Tenant) (f : Seq → Seq) : (d.modSeq t f).heater = d.heater := rfl
@[simp] theorem Dev.modSeq_micro (d : Dev) (t : Tenant) (f : Seq → Seq) : (d.modSeq t f).micro = d.micro := rfl
@[simp] theorem Dev.modSeq_boot (d : Dev) (t : Tenant) (f : Seq → Seq) : (d.modSeq t f).boot = d.boot := rfl
@[simp] theorem Dev.modSeq_jtag (d : Dev) (t : Tenant) (f : Seq → Seq) : (d.modSeq t f).jtag = d.jtag := rfl
@[simp] theorem Dev.modSeq_atEdge (d : Dev) (t : Tenant) (f : Seq → Seq) : (d.modSeq t f).atEdge = d.atEdge := rfl
@[simp] theorem Dev.modSeq_edgeRecs (d : Dev) (t : Tenant) (f : Seq → Seq) : (d.modSeq t f).edgeRecs = d.edgeRecs := rfl
@[simp] theorem Dev.modSeq_out (d : Dev) (t : Tenant) (f : Seq → Seq) : (d.modSeq t f).out = d.out := rfl
@[simp] theorem Dev.modSeq_freeCtr (d : Dev) (t : Tenant) (f : Seq → Seq) : (d.modSeq t f).freeCtr = d.freeCtr := rfl
@[simp] theorem Dev.modSeq_moves (d : Dev) (t : Tenant) (f : Seq → Seq) : (d.modSeq t f).moves = d.moves := rfl
@[simp] theorem Dev.modSeq_retireFaults (d : Dev) (t : Tenant) (f : Seq → Seq) : (d.modSeq t f).retireFaults = d.retireFaults := rfl
@[simp] theorem Dev.modSeq_retireCmds (d : Dev) (t : Tenant) (f : Seq → Seq) : (d.modSeq t f).retireCmds = d.retireCmds := rfl
@[simp] theorem Dev.modSeq_heldAnswers (d : Dev) (t : Tenant) (f : Seq → Seq) : (d.modSeq t f).heldAnswers = d.heldAnswers := rfl
@[simp] theorem Dev.modSeq_gf0 (d : Dev) (t : Tenant) (f : Seq → Seq) : (d.modSeq t f).gf0 = d.gf0 := rfl
@[simp] theorem Dev.modSeq_flagOps (d : Dev) (t : Tenant) (f : Seq → Seq) : (d.modSeq t f).flagOps = d.flagOps := rfl
@[simp] theorem Dev.modSeq_tickEvents (d : Dev) (t : Tenant) (f : Seq → Seq) : (d.modSeq t f).tickEvents = d.tickEvents := rfl
@[simp] theorem Dev.modSeq_discrete (d : Dev) (t : Tenant) (f : Seq → Seq) : (d.modSeq t f).discrete = d.discrete := rfl
@[simp] theorem Dev.modSeq_tickRecs (d : Dev) (t : Tenant) (f : Seq → Seq) : (d.modSeq t f).tickRecs = d.tickRecs := rfl

@[simp] theorem Dev.modChan_fuses (d : Dev) (c : Chan) (f : Channel → Channel) : (d.modChan c f).fuses = d.fuses := rfl
@[simp] theorem Dev.modChan_tb (d : Dev) (c : Chan) (f : Channel → Channel) : (d.modChan c f).tb = d.tb := rfl
@[simp] theorem Dev.modChan_vrefFrames (d : Dev) (c : Chan) (f : Channel → Channel) : (d.modChan c f).vrefFrames = d.vrefFrames := rfl
@[simp] theorem Dev.modChan_seqs (d : Dev) (c : Chan) (f : Channel → Channel) : (d.modChan c f).seqs = d.seqs := rfl
@[simp] theorem Dev.modChan_gf (d : Dev) (c : Chan) (f : Channel → Channel) : (d.modChan c f).gf = d.gf := rfl
@[simp] theorem Dev.modChan_arb (d : Dev) (c : Chan) (f : Channel → Channel) : (d.modChan c f).arb = d.arb := rfl
@[simp] theorem Dev.modChan_dict (d : Dev) (c : Chan) (f : Channel → Channel) : (d.modChan c f).dict = d.dict := rfl
@[simp] theorem Dev.modChan_odp (d : Dev) (c : Chan) (f : Channel → Channel) : (d.modChan c f).odp = d.odp := rfl
@[simp] theorem Dev.modChan_host (d : Dev) (c : Chan) (f : Channel → Channel) : (d.modChan c f).host = d.host := rfl
@[simp] theorem Dev.modChan_link (d : Dev) (c : Chan) (f : Channel → Channel) : (d.modChan c f).link = d.link := rfl
@[simp] theorem Dev.modChan_mgmt (d : Dev) (c : Chan) (f : Channel → Channel) : (d.modChan c f).mgmt = d.mgmt := rfl
@[simp] theorem Dev.modChan_fc (d : Dev) (c : Chan) (f : Channel → Channel) : (d.modChan c f).fc = d.fc := rfl
@[simp] theorem Dev.modChan_rst (d : Dev) (c : Chan) (f : Channel → Channel) : (d.modChan c f).rst = d.rst := rfl
@[simp] theorem Dev.modChan_cal (d : Dev) (c : Chan) (f : Channel → Channel) : (d.modChan c f).cal = d.cal := rfl
@[simp] theorem Dev.modChan_gallery (d : Dev) (c : Chan) (f : Channel → Channel) : (d.modChan c f).gallery = d.gallery := rfl
@[simp] theorem Dev.modChan_acq (d : Dev) (c : Chan) (f : Channel → Channel) : (d.modChan c f).acq = d.acq := rfl
@[simp] theorem Dev.modChan_trigLines (d : Dev) (c : Chan) (f : Channel → Channel) : (d.modChan c f).trigLines = d.trigLines := rfl
@[simp] theorem Dev.modChan_modes (d : Dev) (c : Chan) (f : Channel → Channel) : (d.modChan c f).modes = d.modes := rfl
@[simp] theorem Dev.modChan_stairs (d : Dev) (c : Chan) (f : Channel → Channel) : (d.modChan c f).stairs = d.stairs := rfl
@[simp] theorem Dev.modChan_heater (d : Dev) (c : Chan) (f : Channel → Channel) : (d.modChan c f).heater = d.heater := rfl
@[simp] theorem Dev.modChan_micro (d : Dev) (c : Chan) (f : Channel → Channel) : (d.modChan c f).micro = d.micro := rfl
@[simp] theorem Dev.modChan_boot (d : Dev) (c : Chan) (f : Channel → Channel) : (d.modChan c f).boot = d.boot := rfl
@[simp] theorem Dev.modChan_jtag (d : Dev) (c : Chan) (f : Channel → Channel) : (d.modChan c f).jtag = d.jtag := rfl
@[simp] theorem Dev.modChan_atEdge (d : Dev) (c : Chan) (f : Channel → Channel) : (d.modChan c f).atEdge = d.atEdge := rfl
@[simp] theorem Dev.modChan_edgeRecs (d : Dev) (c : Chan) (f : Channel → Channel) : (d.modChan c f).edgeRecs = d.edgeRecs := rfl
@[simp] theorem Dev.modChan_out (d : Dev) (c : Chan) (f : Channel → Channel) : (d.modChan c f).out = d.out := rfl
@[simp] theorem Dev.modChan_freeCtr (d : Dev) (c : Chan) (f : Channel → Channel) : (d.modChan c f).freeCtr = d.freeCtr := rfl
@[simp] theorem Dev.modChan_moves (d : Dev) (c : Chan) (f : Channel → Channel) : (d.modChan c f).moves = d.moves := rfl
@[simp] theorem Dev.modChan_retireFaults (d : Dev) (c : Chan) (f : Channel → Channel) : (d.modChan c f).retireFaults = d.retireFaults := rfl
@[simp] theorem Dev.modChan_retireCmds (d : Dev) (c : Chan) (f : Channel → Channel) : (d.modChan c f).retireCmds = d.retireCmds := rfl
@[simp] theorem Dev.modChan_heldAnswers (d : Dev) (c : Chan) (f : Channel → Channel) : (d.modChan c f).heldAnswers = d.heldAnswers := rfl
@[simp] theorem Dev.modChan_gf0 (d : Dev) (c : Chan) (f : Channel → Channel) : (d.modChan c f).gf0 = d.gf0 := rfl
@[simp] theorem Dev.modChan_flagOps (d : Dev) (c : Chan) (f : Channel → Channel) : (d.modChan c f).flagOps = d.flagOps := rfl
@[simp] theorem Dev.modChan_tickEvents (d : Dev) (c : Chan) (f : Channel → Channel) : (d.modChan c f).tickEvents = d.tickEvents := rfl
@[simp] theorem Dev.modChan_discrete (d : Dev) (c : Chan) (f : Channel → Channel) : (d.modChan c f).discrete = d.discrete := rfl
@[simp] theorem Dev.modChan_tickRecs (d : Dev) (c : Chan) (f : Channel → Channel) : (d.modChan c f).tickRecs = d.tickRecs := rfl

@[simp] theorem Dev.modAcq_fuses (d : Dev) (t : Tenant) (f : Acq → Acq) : (d.modAcq t f).fuses = d.fuses := rfl
@[simp] theorem Dev.modAcq_tb (d : Dev) (t : Tenant) (f : Acq → Acq) : (d.modAcq t f).tb = d.tb := rfl
@[simp] theorem Dev.modAcq_chans (d : Dev) (t : Tenant) (f : Acq → Acq) : (d.modAcq t f).chans = d.chans := rfl
@[simp] theorem Dev.modAcq_vrefFrames (d : Dev) (t : Tenant) (f : Acq → Acq) : (d.modAcq t f).vrefFrames = d.vrefFrames := rfl
@[simp] theorem Dev.modAcq_seqs (d : Dev) (t : Tenant) (f : Acq → Acq) : (d.modAcq t f).seqs = d.seqs := rfl
@[simp] theorem Dev.modAcq_gf (d : Dev) (t : Tenant) (f : Acq → Acq) : (d.modAcq t f).gf = d.gf := rfl
@[simp] theorem Dev.modAcq_arb (d : Dev) (t : Tenant) (f : Acq → Acq) : (d.modAcq t f).arb = d.arb := rfl
@[simp] theorem Dev.modAcq_dict (d : Dev) (t : Tenant) (f : Acq → Acq) : (d.modAcq t f).dict = d.dict := rfl
@[simp] theorem Dev.modAcq_odp (d : Dev) (t : Tenant) (f : Acq → Acq) : (d.modAcq t f).odp = d.odp := rfl
@[simp] theorem Dev.modAcq_host (d : Dev) (t : Tenant) (f : Acq → Acq) : (d.modAcq t f).host = d.host := rfl
@[simp] theorem Dev.modAcq_link (d : Dev) (t : Tenant) (f : Acq → Acq) : (d.modAcq t f).link = d.link := rfl
@[simp] theorem Dev.modAcq_mgmt (d : Dev) (t : Tenant) (f : Acq → Acq) : (d.modAcq t f).mgmt = d.mgmt := rfl
@[simp] theorem Dev.modAcq_fc (d : Dev) (t : Tenant) (f : Acq → Acq) : (d.modAcq t f).fc = d.fc := rfl
@[simp] theorem Dev.modAcq_rst (d : Dev) (t : Tenant) (f : Acq → Acq) : (d.modAcq t f).rst = d.rst := rfl
@[simp] theorem Dev.modAcq_cal (d : Dev) (t : Tenant) (f : Acq → Acq) : (d.modAcq t f).cal = d.cal := rfl
@[simp] theorem Dev.modAcq_gallery (d : Dev) (t : Tenant) (f : Acq → Acq) : (d.modAcq t f).gallery = d.gallery := rfl
@[simp] theorem Dev.modAcq_trigLines (d : Dev) (t : Tenant) (f : Acq → Acq) : (d.modAcq t f).trigLines = d.trigLines := rfl
@[simp] theorem Dev.modAcq_modes (d : Dev) (t : Tenant) (f : Acq → Acq) : (d.modAcq t f).modes = d.modes := rfl
@[simp] theorem Dev.modAcq_stairs (d : Dev) (t : Tenant) (f : Acq → Acq) : (d.modAcq t f).stairs = d.stairs := rfl
@[simp] theorem Dev.modAcq_heater (d : Dev) (t : Tenant) (f : Acq → Acq) : (d.modAcq t f).heater = d.heater := rfl
@[simp] theorem Dev.modAcq_micro (d : Dev) (t : Tenant) (f : Acq → Acq) : (d.modAcq t f).micro = d.micro := rfl
@[simp] theorem Dev.modAcq_boot (d : Dev) (t : Tenant) (f : Acq → Acq) : (d.modAcq t f).boot = d.boot := rfl
@[simp] theorem Dev.modAcq_jtag (d : Dev) (t : Tenant) (f : Acq → Acq) : (d.modAcq t f).jtag = d.jtag := rfl
@[simp] theorem Dev.modAcq_atEdge (d : Dev) (t : Tenant) (f : Acq → Acq) : (d.modAcq t f).atEdge = d.atEdge := rfl
@[simp] theorem Dev.modAcq_edgeRecs (d : Dev) (t : Tenant) (f : Acq → Acq) : (d.modAcq t f).edgeRecs = d.edgeRecs := rfl
@[simp] theorem Dev.modAcq_out (d : Dev) (t : Tenant) (f : Acq → Acq) : (d.modAcq t f).out = d.out := rfl
@[simp] theorem Dev.modAcq_freeCtr (d : Dev) (t : Tenant) (f : Acq → Acq) : (d.modAcq t f).freeCtr = d.freeCtr := rfl
@[simp] theorem Dev.modAcq_moves (d : Dev) (t : Tenant) (f : Acq → Acq) : (d.modAcq t f).moves = d.moves := rfl
@[simp] theorem Dev.modAcq_retireFaults (d : Dev) (t : Tenant) (f : Acq → Acq) : (d.modAcq t f).retireFaults = d.retireFaults := rfl
@[simp] theorem Dev.modAcq_retireCmds (d : Dev) (t : Tenant) (f : Acq → Acq) : (d.modAcq t f).retireCmds = d.retireCmds := rfl
@[simp] theorem Dev.modAcq_heldAnswers (d : Dev) (t : Tenant) (f : Acq → Acq) : (d.modAcq t f).heldAnswers = d.heldAnswers := rfl
@[simp] theorem Dev.modAcq_gf0 (d : Dev) (t : Tenant) (f : Acq → Acq) : (d.modAcq t f).gf0 = d.gf0 := rfl
@[simp] theorem Dev.modAcq_flagOps (d : Dev) (t : Tenant) (f : Acq → Acq) : (d.modAcq t f).flagOps = d.flagOps := rfl
@[simp] theorem Dev.modAcq_tickEvents (d : Dev) (t : Tenant) (f : Acq → Acq) : (d.modAcq t f).tickEvents = d.tickEvents := rfl
@[simp] theorem Dev.modAcq_discrete (d : Dev) (t : Tenant) (f : Acq → Acq) : (d.modAcq t f).discrete = d.discrete := rfl
@[simp] theorem Dev.modAcq_tickRecs (d : Dev) (t : Tenant) (f : Acq → Acq) : (d.modAcq t f).tickRecs = d.tickRecs := rfl

@[simp] theorem Dev.modGal_fuses (d : Dev) (t : Tenant) (f : Gallery → Gallery) : (d.modGal t f).fuses = d.fuses := rfl
@[simp] theorem Dev.modGal_tb (d : Dev) (t : Tenant) (f : Gallery → Gallery) : (d.modGal t f).tb = d.tb := rfl
@[simp] theorem Dev.modGal_chans (d : Dev) (t : Tenant) (f : Gallery → Gallery) : (d.modGal t f).chans = d.chans := rfl
@[simp] theorem Dev.modGal_vrefFrames (d : Dev) (t : Tenant) (f : Gallery → Gallery) : (d.modGal t f).vrefFrames = d.vrefFrames := rfl
@[simp] theorem Dev.modGal_seqs (d : Dev) (t : Tenant) (f : Gallery → Gallery) : (d.modGal t f).seqs = d.seqs := rfl
@[simp] theorem Dev.modGal_gf (d : Dev) (t : Tenant) (f : Gallery → Gallery) : (d.modGal t f).gf = d.gf := rfl
@[simp] theorem Dev.modGal_arb (d : Dev) (t : Tenant) (f : Gallery → Gallery) : (d.modGal t f).arb = d.arb := rfl
@[simp] theorem Dev.modGal_dict (d : Dev) (t : Tenant) (f : Gallery → Gallery) : (d.modGal t f).dict = d.dict := rfl
@[simp] theorem Dev.modGal_odp (d : Dev) (t : Tenant) (f : Gallery → Gallery) : (d.modGal t f).odp = d.odp := rfl
@[simp] theorem Dev.modGal_host (d : Dev) (t : Tenant) (f : Gallery → Gallery) : (d.modGal t f).host = d.host := rfl
@[simp] theorem Dev.modGal_link (d : Dev) (t : Tenant) (f : Gallery → Gallery) : (d.modGal t f).link = d.link := rfl
@[simp] theorem Dev.modGal_mgmt (d : Dev) (t : Tenant) (f : Gallery → Gallery) : (d.modGal t f).mgmt = d.mgmt := rfl
@[simp] theorem Dev.modGal_fc (d : Dev) (t : Tenant) (f : Gallery → Gallery) : (d.modGal t f).fc = d.fc := rfl
@[simp] theorem Dev.modGal_rst (d : Dev) (t : Tenant) (f : Gallery → Gallery) : (d.modGal t f).rst = d.rst := rfl
@[simp] theorem Dev.modGal_cal (d : Dev) (t : Tenant) (f : Gallery → Gallery) : (d.modGal t f).cal = d.cal := rfl
@[simp] theorem Dev.modGal_acq (d : Dev) (t : Tenant) (f : Gallery → Gallery) : (d.modGal t f).acq = d.acq := rfl
@[simp] theorem Dev.modGal_trigLines (d : Dev) (t : Tenant) (f : Gallery → Gallery) : (d.modGal t f).trigLines = d.trigLines := rfl
@[simp] theorem Dev.modGal_modes (d : Dev) (t : Tenant) (f : Gallery → Gallery) : (d.modGal t f).modes = d.modes := rfl
@[simp] theorem Dev.modGal_stairs (d : Dev) (t : Tenant) (f : Gallery → Gallery) : (d.modGal t f).stairs = d.stairs := rfl
@[simp] theorem Dev.modGal_heater (d : Dev) (t : Tenant) (f : Gallery → Gallery) : (d.modGal t f).heater = d.heater := rfl
@[simp] theorem Dev.modGal_micro (d : Dev) (t : Tenant) (f : Gallery → Gallery) : (d.modGal t f).micro = d.micro := rfl
@[simp] theorem Dev.modGal_boot (d : Dev) (t : Tenant) (f : Gallery → Gallery) : (d.modGal t f).boot = d.boot := rfl
@[simp] theorem Dev.modGal_jtag (d : Dev) (t : Tenant) (f : Gallery → Gallery) : (d.modGal t f).jtag = d.jtag := rfl
@[simp] theorem Dev.modGal_atEdge (d : Dev) (t : Tenant) (f : Gallery → Gallery) : (d.modGal t f).atEdge = d.atEdge := rfl
@[simp] theorem Dev.modGal_edgeRecs (d : Dev) (t : Tenant) (f : Gallery → Gallery) : (d.modGal t f).edgeRecs = d.edgeRecs := rfl
@[simp] theorem Dev.modGal_out (d : Dev) (t : Tenant) (f : Gallery → Gallery) : (d.modGal t f).out = d.out := rfl
@[simp] theorem Dev.modGal_freeCtr (d : Dev) (t : Tenant) (f : Gallery → Gallery) : (d.modGal t f).freeCtr = d.freeCtr := rfl
@[simp] theorem Dev.modGal_moves (d : Dev) (t : Tenant) (f : Gallery → Gallery) : (d.modGal t f).moves = d.moves := rfl
@[simp] theorem Dev.modGal_retireFaults (d : Dev) (t : Tenant) (f : Gallery → Gallery) : (d.modGal t f).retireFaults = d.retireFaults := rfl
@[simp] theorem Dev.modGal_retireCmds (d : Dev) (t : Tenant) (f : Gallery → Gallery) : (d.modGal t f).retireCmds = d.retireCmds := rfl
@[simp] theorem Dev.modGal_heldAnswers (d : Dev) (t : Tenant) (f : Gallery → Gallery) : (d.modGal t f).heldAnswers = d.heldAnswers := rfl
@[simp] theorem Dev.modGal_gf0 (d : Dev) (t : Tenant) (f : Gallery → Gallery) : (d.modGal t f).gf0 = d.gf0 := rfl
@[simp] theorem Dev.modGal_flagOps (d : Dev) (t : Tenant) (f : Gallery → Gallery) : (d.modGal t f).flagOps = d.flagOps := rfl
@[simp] theorem Dev.modGal_tickEvents (d : Dev) (t : Tenant) (f : Gallery → Gallery) : (d.modGal t f).tickEvents = d.tickEvents := rfl
@[simp] theorem Dev.modGal_discrete (d : Dev) (t : Tenant) (f : Gallery → Gallery) : (d.modGal t f).discrete = d.discrete := rfl
@[simp] theorem Dev.modGal_tickRecs (d : Dev) (t : Tenant) (f : Gallery → Gallery) : (d.modGal t f).tickRecs = d.tickRecs := rfl

@[simp] theorem Dev.modHost_fuses (d : Dev) (t : Tenant) (f : HostIf → HostIf) : (d.modHost t f).fuses = d.fuses := rfl
@[simp] theorem Dev.modHost_tb (d : Dev) (t : Tenant) (f : HostIf → HostIf) : (d.modHost t f).tb = d.tb := rfl
@[simp] theorem Dev.modHost_chans (d : Dev) (t : Tenant) (f : HostIf → HostIf) : (d.modHost t f).chans = d.chans := rfl
@[simp] theorem Dev.modHost_vrefFrames (d : Dev) (t : Tenant) (f : HostIf → HostIf) : (d.modHost t f).vrefFrames = d.vrefFrames := rfl
@[simp] theorem Dev.modHost_seqs (d : Dev) (t : Tenant) (f : HostIf → HostIf) : (d.modHost t f).seqs = d.seqs := rfl
@[simp] theorem Dev.modHost_gf (d : Dev) (t : Tenant) (f : HostIf → HostIf) : (d.modHost t f).gf = d.gf := rfl
@[simp] theorem Dev.modHost_arb (d : Dev) (t : Tenant) (f : HostIf → HostIf) : (d.modHost t f).arb = d.arb := rfl
@[simp] theorem Dev.modHost_dict (d : Dev) (t : Tenant) (f : HostIf → HostIf) : (d.modHost t f).dict = d.dict := rfl
@[simp] theorem Dev.modHost_odp (d : Dev) (t : Tenant) (f : HostIf → HostIf) : (d.modHost t f).odp = d.odp := rfl
@[simp] theorem Dev.modHost_link (d : Dev) (t : Tenant) (f : HostIf → HostIf) : (d.modHost t f).link = d.link := rfl
@[simp] theorem Dev.modHost_mgmt (d : Dev) (t : Tenant) (f : HostIf → HostIf) : (d.modHost t f).mgmt = d.mgmt := rfl
@[simp] theorem Dev.modHost_fc (d : Dev) (t : Tenant) (f : HostIf → HostIf) : (d.modHost t f).fc = d.fc := rfl
@[simp] theorem Dev.modHost_rst (d : Dev) (t : Tenant) (f : HostIf → HostIf) : (d.modHost t f).rst = d.rst := rfl
@[simp] theorem Dev.modHost_cal (d : Dev) (t : Tenant) (f : HostIf → HostIf) : (d.modHost t f).cal = d.cal := rfl
@[simp] theorem Dev.modHost_gallery (d : Dev) (t : Tenant) (f : HostIf → HostIf) : (d.modHost t f).gallery = d.gallery := rfl
@[simp] theorem Dev.modHost_acq (d : Dev) (t : Tenant) (f : HostIf → HostIf) : (d.modHost t f).acq = d.acq := rfl
@[simp] theorem Dev.modHost_trigLines (d : Dev) (t : Tenant) (f : HostIf → HostIf) : (d.modHost t f).trigLines = d.trigLines := rfl
@[simp] theorem Dev.modHost_modes (d : Dev) (t : Tenant) (f : HostIf → HostIf) : (d.modHost t f).modes = d.modes := rfl
@[simp] theorem Dev.modHost_stairs (d : Dev) (t : Tenant) (f : HostIf → HostIf) : (d.modHost t f).stairs = d.stairs := rfl
@[simp] theorem Dev.modHost_heater (d : Dev) (t : Tenant) (f : HostIf → HostIf) : (d.modHost t f).heater = d.heater := rfl
@[simp] theorem Dev.modHost_micro (d : Dev) (t : Tenant) (f : HostIf → HostIf) : (d.modHost t f).micro = d.micro := rfl
@[simp] theorem Dev.modHost_boot (d : Dev) (t : Tenant) (f : HostIf → HostIf) : (d.modHost t f).boot = d.boot := rfl
@[simp] theorem Dev.modHost_jtag (d : Dev) (t : Tenant) (f : HostIf → HostIf) : (d.modHost t f).jtag = d.jtag := rfl
@[simp] theorem Dev.modHost_atEdge (d : Dev) (t : Tenant) (f : HostIf → HostIf) : (d.modHost t f).atEdge = d.atEdge := rfl
@[simp] theorem Dev.modHost_edgeRecs (d : Dev) (t : Tenant) (f : HostIf → HostIf) : (d.modHost t f).edgeRecs = d.edgeRecs := rfl
@[simp] theorem Dev.modHost_out (d : Dev) (t : Tenant) (f : HostIf → HostIf) : (d.modHost t f).out = d.out := rfl
@[simp] theorem Dev.modHost_freeCtr (d : Dev) (t : Tenant) (f : HostIf → HostIf) : (d.modHost t f).freeCtr = d.freeCtr := rfl
@[simp] theorem Dev.modHost_moves (d : Dev) (t : Tenant) (f : HostIf → HostIf) : (d.modHost t f).moves = d.moves := rfl
@[simp] theorem Dev.modHost_retireFaults (d : Dev) (t : Tenant) (f : HostIf → HostIf) : (d.modHost t f).retireFaults = d.retireFaults := rfl
@[simp] theorem Dev.modHost_retireCmds (d : Dev) (t : Tenant) (f : HostIf → HostIf) : (d.modHost t f).retireCmds = d.retireCmds := rfl
@[simp] theorem Dev.modHost_heldAnswers (d : Dev) (t : Tenant) (f : HostIf → HostIf) : (d.modHost t f).heldAnswers = d.heldAnswers := rfl
@[simp] theorem Dev.modHost_gf0 (d : Dev) (t : Tenant) (f : HostIf → HostIf) : (d.modHost t f).gf0 = d.gf0 := rfl
@[simp] theorem Dev.modHost_flagOps (d : Dev) (t : Tenant) (f : HostIf → HostIf) : (d.modHost t f).flagOps = d.flagOps := rfl
@[simp] theorem Dev.modHost_tickEvents (d : Dev) (t : Tenant) (f : HostIf → HostIf) : (d.modHost t f).tickEvents = d.tickEvents := rfl
@[simp] theorem Dev.modHost_discrete (d : Dev) (t : Tenant) (f : HostIf → HostIf) : (d.modHost t f).discrete = d.discrete := rfl
@[simp] theorem Dev.modHost_tickRecs (d : Dev) (t : Tenant) (f : HostIf → HostIf) : (d.modHost t f).tickRecs = d.tickRecs := rfl

@[simp] theorem Dev.modEngine_fuses (d : Dev) (e : Engine) (f : MicroEngine → MicroEngine) : (d.modEngine e f).fuses = d.fuses := rfl
@[simp] theorem Dev.modEngine_tb (d : Dev) (e : Engine) (f : MicroEngine → MicroEngine) : (d.modEngine e f).tb = d.tb := rfl
@[simp] theorem Dev.modEngine_chans (d : Dev) (e : Engine) (f : MicroEngine → MicroEngine) : (d.modEngine e f).chans = d.chans := rfl
@[simp] theorem Dev.modEngine_vrefFrames (d : Dev) (e : Engine) (f : MicroEngine → MicroEngine) : (d.modEngine e f).vrefFrames = d.vrefFrames := rfl
@[simp] theorem Dev.modEngine_seqs (d : Dev) (e : Engine) (f : MicroEngine → MicroEngine) : (d.modEngine e f).seqs = d.seqs := rfl
@[simp] theorem Dev.modEngine_gf (d : Dev) (e : Engine) (f : MicroEngine → MicroEngine) : (d.modEngine e f).gf = d.gf := rfl
@[simp] theorem Dev.modEngine_arb (d : Dev) (e : Engine) (f : MicroEngine → MicroEngine) : (d.modEngine e f).arb = d.arb := rfl
@[simp] theorem Dev.modEngine_dict (d : Dev) (e : Engine) (f : MicroEngine → MicroEngine) : (d.modEngine e f).dict = d.dict := rfl
@[simp] theorem Dev.modEngine_odp (d : Dev) (e : Engine) (f : MicroEngine → MicroEngine) : (d.modEngine e f).odp = d.odp := rfl
@[simp] theorem Dev.modEngine_host (d : Dev) (e : Engine) (f : MicroEngine → MicroEngine) : (d.modEngine e f).host = d.host := rfl
@[simp] theorem Dev.modEngine_link (d : Dev) (e : Engine) (f : MicroEngine → MicroEngine) : (d.modEngine e f).link = d.link := rfl
@[simp] theorem Dev.modEngine_mgmt (d : Dev) (e : Engine) (f : MicroEngine → MicroEngine) : (d.modEngine e f).mgmt = d.mgmt := rfl
@[simp] theorem Dev.modEngine_fc (d : Dev) (e : Engine) (f : MicroEngine → MicroEngine) : (d.modEngine e f).fc = d.fc := rfl
@[simp] theorem Dev.modEngine_rst (d : Dev) (e : Engine) (f : MicroEngine → MicroEngine) : (d.modEngine e f).rst = d.rst := rfl
@[simp] theorem Dev.modEngine_cal (d : Dev) (e : Engine) (f : MicroEngine → MicroEngine) : (d.modEngine e f).cal = d.cal := rfl
@[simp] theorem Dev.modEngine_gallery (d : Dev) (e : Engine) (f : MicroEngine → MicroEngine) : (d.modEngine e f).gallery = d.gallery := rfl
@[simp] theorem Dev.modEngine_acq (d : Dev) (e : Engine) (f : MicroEngine → MicroEngine) : (d.modEngine e f).acq = d.acq := rfl
@[simp] theorem Dev.modEngine_trigLines (d : Dev) (e : Engine) (f : MicroEngine → MicroEngine) : (d.modEngine e f).trigLines = d.trigLines := rfl
@[simp] theorem Dev.modEngine_modes (d : Dev) (e : Engine) (f : MicroEngine → MicroEngine) : (d.modEngine e f).modes = d.modes := rfl
@[simp] theorem Dev.modEngine_stairs (d : Dev) (e : Engine) (f : MicroEngine → MicroEngine) : (d.modEngine e f).stairs = d.stairs := rfl
@[simp] theorem Dev.modEngine_heater (d : Dev) (e : Engine) (f : MicroEngine → MicroEngine) : (d.modEngine e f).heater = d.heater := rfl
@[simp] theorem Dev.modEngine_boot (d : Dev) (e : Engine) (f : MicroEngine → MicroEngine) : (d.modEngine e f).boot = d.boot := rfl
@[simp] theorem Dev.modEngine_jtag (d : Dev) (e : Engine) (f : MicroEngine → MicroEngine) : (d.modEngine e f).jtag = d.jtag := rfl
@[simp] theorem Dev.modEngine_atEdge (d : Dev) (e : Engine) (f : MicroEngine → MicroEngine) : (d.modEngine e f).atEdge = d.atEdge := rfl
@[simp] theorem Dev.modEngine_edgeRecs (d : Dev) (e : Engine) (f : MicroEngine → MicroEngine) : (d.modEngine e f).edgeRecs = d.edgeRecs := rfl
@[simp] theorem Dev.modEngine_out (d : Dev) (e : Engine) (f : MicroEngine → MicroEngine) : (d.modEngine e f).out = d.out := rfl
@[simp] theorem Dev.modEngine_freeCtr (d : Dev) (e : Engine) (f : MicroEngine → MicroEngine) : (d.modEngine e f).freeCtr = d.freeCtr := rfl
@[simp] theorem Dev.modEngine_moves (d : Dev) (e : Engine) (f : MicroEngine → MicroEngine) : (d.modEngine e f).moves = d.moves := rfl
@[simp] theorem Dev.modEngine_retireFaults (d : Dev) (e : Engine) (f : MicroEngine → MicroEngine) : (d.modEngine e f).retireFaults = d.retireFaults := rfl
@[simp] theorem Dev.modEngine_retireCmds (d : Dev) (e : Engine) (f : MicroEngine → MicroEngine) : (d.modEngine e f).retireCmds = d.retireCmds := rfl
@[simp] theorem Dev.modEngine_heldAnswers (d : Dev) (e : Engine) (f : MicroEngine → MicroEngine) : (d.modEngine e f).heldAnswers = d.heldAnswers := rfl
@[simp] theorem Dev.modEngine_gf0 (d : Dev) (e : Engine) (f : MicroEngine → MicroEngine) : (d.modEngine e f).gf0 = d.gf0 := rfl
@[simp] theorem Dev.modEngine_flagOps (d : Dev) (e : Engine) (f : MicroEngine → MicroEngine) : (d.modEngine e f).flagOps = d.flagOps := rfl
@[simp] theorem Dev.modEngine_tickEvents (d : Dev) (e : Engine) (f : MicroEngine → MicroEngine) : (d.modEngine e f).tickEvents = d.tickEvents := rfl
@[simp] theorem Dev.modEngine_discrete (d : Dev) (e : Engine) (f : MicroEngine → MicroEngine) : (d.modEngine e f).discrete = d.discrete := rfl
@[simp] theorem Dev.modEngine_tickRecs (d : Dev) (e : Engine) (f : MicroEngine → MicroEngine) : (d.modEngine e f).tickRecs = d.tickRecs := rfl

@[simp] theorem Dev.modSess_fuses (d : Dev) (t : Tenant) (f : Session → Session) : (d.modSess t f).fuses = d.fuses := rfl
@[simp] theorem Dev.modSess_tb (d : Dev) (t : Tenant) (f : Session → Session) : (d.modSess t f).tb = d.tb := rfl
@[simp] theorem Dev.modSess_chans (d : Dev) (t : Tenant) (f : Session → Session) : (d.modSess t f).chans = d.chans := rfl
@[simp] theorem Dev.modSess_vrefFrames (d : Dev) (t : Tenant) (f : Session → Session) : (d.modSess t f).vrefFrames = d.vrefFrames := rfl
@[simp] theorem Dev.modSess_seqs (d : Dev) (t : Tenant) (f : Session → Session) : (d.modSess t f).seqs = d.seqs := rfl
@[simp] theorem Dev.modSess_gf (d : Dev) (t : Tenant) (f : Session → Session) : (d.modSess t f).gf = d.gf := rfl
@[simp] theorem Dev.modSess_arb (d : Dev) (t : Tenant) (f : Session → Session) : (d.modSess t f).arb = d.arb := rfl
@[simp] theorem Dev.modSess_dict (d : Dev) (t : Tenant) (f : Session → Session) : (d.modSess t f).dict = d.dict := rfl
@[simp] theorem Dev.modSess_host (d : Dev) (t : Tenant) (f : Session → Session) : (d.modSess t f).host = d.host := rfl
@[simp] theorem Dev.modSess_link (d : Dev) (t : Tenant) (f : Session → Session) : (d.modSess t f).link = d.link := rfl
@[simp] theorem Dev.modSess_mgmt (d : Dev) (t : Tenant) (f : Session → Session) : (d.modSess t f).mgmt = d.mgmt := rfl
@[simp] theorem Dev.modSess_fc (d : Dev) (t : Tenant) (f : Session → Session) : (d.modSess t f).fc = d.fc := rfl
@[simp] theorem Dev.modSess_rst (d : Dev) (t : Tenant) (f : Session → Session) : (d.modSess t f).rst = d.rst := rfl
@[simp] theorem Dev.modSess_cal (d : Dev) (t : Tenant) (f : Session → Session) : (d.modSess t f).cal = d.cal := rfl
@[simp] theorem Dev.modSess_gallery (d : Dev) (t : Tenant) (f : Session → Session) : (d.modSess t f).gallery = d.gallery := rfl
@[simp] theorem Dev.modSess_acq (d : Dev) (t : Tenant) (f : Session → Session) : (d.modSess t f).acq = d.acq := rfl
@[simp] theorem Dev.modSess_trigLines (d : Dev) (t : Tenant) (f : Session → Session) : (d.modSess t f).trigLines = d.trigLines := rfl
@[simp] theorem Dev.modSess_modes (d : Dev) (t : Tenant) (f : Session → Session) : (d.modSess t f).modes = d.modes := rfl
@[simp] theorem Dev.modSess_stairs (d : Dev) (t : Tenant) (f : Session → Session) : (d.modSess t f).stairs = d.stairs := rfl
@[simp] theorem Dev.modSess_heater (d : Dev) (t : Tenant) (f : Session → Session) : (d.modSess t f).heater = d.heater := rfl
@[simp] theorem Dev.modSess_micro (d : Dev) (t : Tenant) (f : Session → Session) : (d.modSess t f).micro = d.micro := rfl
@[simp] theorem Dev.modSess_boot (d : Dev) (t : Tenant) (f : Session → Session) : (d.modSess t f).boot = d.boot := rfl
@[simp] theorem Dev.modSess_jtag (d : Dev) (t : Tenant) (f : Session → Session) : (d.modSess t f).jtag = d.jtag := rfl
@[simp] theorem Dev.modSess_atEdge (d : Dev) (t : Tenant) (f : Session → Session) : (d.modSess t f).atEdge = d.atEdge := rfl
@[simp] theorem Dev.modSess_edgeRecs (d : Dev) (t : Tenant) (f : Session → Session) : (d.modSess t f).edgeRecs = d.edgeRecs := rfl
@[simp] theorem Dev.modSess_out (d : Dev) (t : Tenant) (f : Session → Session) : (d.modSess t f).out = d.out := rfl
@[simp] theorem Dev.modSess_freeCtr (d : Dev) (t : Tenant) (f : Session → Session) : (d.modSess t f).freeCtr = d.freeCtr := rfl
@[simp] theorem Dev.modSess_moves (d : Dev) (t : Tenant) (f : Session → Session) : (d.modSess t f).moves = d.moves := rfl
@[simp] theorem Dev.modSess_retireFaults (d : Dev) (t : Tenant) (f : Session → Session) : (d.modSess t f).retireFaults = d.retireFaults := rfl
@[simp] theorem Dev.modSess_retireCmds (d : Dev) (t : Tenant) (f : Session → Session) : (d.modSess t f).retireCmds = d.retireCmds := rfl
@[simp] theorem Dev.modSess_heldAnswers (d : Dev) (t : Tenant) (f : Session → Session) : (d.modSess t f).heldAnswers = d.heldAnswers := rfl
@[simp] theorem Dev.modSess_gf0 (d : Dev) (t : Tenant) (f : Session → Session) : (d.modSess t f).gf0 = d.gf0 := rfl
@[simp] theorem Dev.modSess_flagOps (d : Dev) (t : Tenant) (f : Session → Session) : (d.modSess t f).flagOps = d.flagOps := rfl
@[simp] theorem Dev.modSess_tickEvents (d : Dev) (t : Tenant) (f : Session → Session) : (d.modSess t f).tickEvents = d.tickEvents := rfl
@[simp] theorem Dev.modSess_discrete (d : Dev) (t : Tenant) (f : Session → Session) : (d.modSess t f).discrete = d.discrete := rfl
@[simp] theorem Dev.modSess_tickRecs (d : Dev) (t : Tenant) (f : Session → Session) : (d.modSess t f).tickRecs = d.tickRecs := rfl

@[simp] theorem Dev.modPort_fuses (d : Dev) (p : Fin 2) (f : Port → Port) : (d.modPort p f).fuses = d.fuses := rfl
@[simp] theorem Dev.modPort_tb (d : Dev) (p : Fin 2) (f : Port → Port) : (d.modPort p f).tb = d.tb := rfl
@[simp] theorem Dev.modPort_chans (d : Dev) (p : Fin 2) (f : Port → Port) : (d.modPort p f).chans = d.chans := rfl
@[simp] theorem Dev.modPort_vrefFrames (d : Dev) (p : Fin 2) (f : Port → Port) : (d.modPort p f).vrefFrames = d.vrefFrames := rfl
@[simp] theorem Dev.modPort_seqs (d : Dev) (p : Fin 2) (f : Port → Port) : (d.modPort p f).seqs = d.seqs := rfl
@[simp] theorem Dev.modPort_gf (d : Dev) (p : Fin 2) (f : Port → Port) : (d.modPort p f).gf = d.gf := rfl
@[simp] theorem Dev.modPort_arb (d : Dev) (p : Fin 2) (f : Port → Port) : (d.modPort p f).arb = d.arb := rfl
@[simp] theorem Dev.modPort_dict (d : Dev) (p : Fin 2) (f : Port → Port) : (d.modPort p f).dict = d.dict := rfl
@[simp] theorem Dev.modPort_host (d : Dev) (p : Fin 2) (f : Port → Port) : (d.modPort p f).host = d.host := rfl
@[simp] theorem Dev.modPort_link (d : Dev) (p : Fin 2) (f : Port → Port) : (d.modPort p f).link = d.link := rfl
@[simp] theorem Dev.modPort_mgmt (d : Dev) (p : Fin 2) (f : Port → Port) : (d.modPort p f).mgmt = d.mgmt := rfl
@[simp] theorem Dev.modPort_fc (d : Dev) (p : Fin 2) (f : Port → Port) : (d.modPort p f).fc = d.fc := rfl
@[simp] theorem Dev.modPort_rst (d : Dev) (p : Fin 2) (f : Port → Port) : (d.modPort p f).rst = d.rst := rfl
@[simp] theorem Dev.modPort_cal (d : Dev) (p : Fin 2) (f : Port → Port) : (d.modPort p f).cal = d.cal := rfl
@[simp] theorem Dev.modPort_gallery (d : Dev) (p : Fin 2) (f : Port → Port) : (d.modPort p f).gallery = d.gallery := rfl
@[simp] theorem Dev.modPort_acq (d : Dev) (p : Fin 2) (f : Port → Port) : (d.modPort p f).acq = d.acq := rfl
@[simp] theorem Dev.modPort_trigLines (d : Dev) (p : Fin 2) (f : Port → Port) : (d.modPort p f).trigLines = d.trigLines := rfl
@[simp] theorem Dev.modPort_modes (d : Dev) (p : Fin 2) (f : Port → Port) : (d.modPort p f).modes = d.modes := rfl
@[simp] theorem Dev.modPort_stairs (d : Dev) (p : Fin 2) (f : Port → Port) : (d.modPort p f).stairs = d.stairs := rfl
@[simp] theorem Dev.modPort_heater (d : Dev) (p : Fin 2) (f : Port → Port) : (d.modPort p f).heater = d.heater := rfl
@[simp] theorem Dev.modPort_micro (d : Dev) (p : Fin 2) (f : Port → Port) : (d.modPort p f).micro = d.micro := rfl
@[simp] theorem Dev.modPort_boot (d : Dev) (p : Fin 2) (f : Port → Port) : (d.modPort p f).boot = d.boot := rfl
@[simp] theorem Dev.modPort_jtag (d : Dev) (p : Fin 2) (f : Port → Port) : (d.modPort p f).jtag = d.jtag := rfl
@[simp] theorem Dev.modPort_atEdge (d : Dev) (p : Fin 2) (f : Port → Port) : (d.modPort p f).atEdge = d.atEdge := rfl
@[simp] theorem Dev.modPort_edgeRecs (d : Dev) (p : Fin 2) (f : Port → Port) : (d.modPort p f).edgeRecs = d.edgeRecs := rfl
@[simp] theorem Dev.modPort_out (d : Dev) (p : Fin 2) (f : Port → Port) : (d.modPort p f).out = d.out := rfl
@[simp] theorem Dev.modPort_freeCtr (d : Dev) (p : Fin 2) (f : Port → Port) : (d.modPort p f).freeCtr = d.freeCtr := rfl
@[simp] theorem Dev.modPort_moves (d : Dev) (p : Fin 2) (f : Port → Port) : (d.modPort p f).moves = d.moves := rfl
@[simp] theorem Dev.modPort_retireFaults (d : Dev) (p : Fin 2) (f : Port → Port) : (d.modPort p f).retireFaults = d.retireFaults := rfl
@[simp] theorem Dev.modPort_retireCmds (d : Dev) (p : Fin 2) (f : Port → Port) : (d.modPort p f).retireCmds = d.retireCmds := rfl
@[simp] theorem Dev.modPort_heldAnswers (d : Dev) (p : Fin 2) (f : Port → Port) : (d.modPort p f).heldAnswers = d.heldAnswers := rfl
@[simp] theorem Dev.modPort_gf0 (d : Dev) (p : Fin 2) (f : Port → Port) : (d.modPort p f).gf0 = d.gf0 := rfl
@[simp] theorem Dev.modPort_flagOps (d : Dev) (p : Fin 2) (f : Port → Port) : (d.modPort p f).flagOps = d.flagOps := rfl
@[simp] theorem Dev.modPort_tickEvents (d : Dev) (p : Fin 2) (f : Port → Port) : (d.modPort p f).tickEvents = d.tickEvents := rfl
@[simp] theorem Dev.modPort_discrete (d : Dev) (p : Fin 2) (f : Port → Port) : (d.modPort p f).discrete = d.discrete := rfl
@[simp] theorem Dev.modPort_tickRecs (d : Dev) (p : Fin 2) (f : Port → Port) : (d.modPort p f).tickRecs = d.tickRecs := rfl

@[simp] theorem Dev.modLock_fuses (d : Dev) (k : Fin 34) (f : Lock → Lock) : (d.modLock k f).fuses = d.fuses := rfl
@[simp] theorem Dev.modLock_tb (d : Dev) (k : Fin 34) (f : Lock → Lock) : (d.modLock k f).tb = d.tb := rfl
@[simp] theorem Dev.modLock_chans (d : Dev) (k : Fin 34) (f : Lock → Lock) : (d.modLock k f).chans = d.chans := rfl
@[simp] theorem Dev.modLock_vrefFrames (d : Dev) (k : Fin 34) (f : Lock → Lock) : (d.modLock k f).vrefFrames = d.vrefFrames := rfl
@[simp] theorem Dev.modLock_seqs (d : Dev) (k : Fin 34) (f : Lock → Lock) : (d.modLock k f).seqs = d.seqs := rfl
@[simp] theorem Dev.modLock_gf (d : Dev) (k : Fin 34) (f : Lock → Lock) : (d.modLock k f).gf = d.gf := rfl
@[simp] theorem Dev.modLock_arb (d : Dev) (k : Fin 34) (f : Lock → Lock) : (d.modLock k f).arb = d.arb := rfl
@[simp] theorem Dev.modLock_dict (d : Dev) (k : Fin 34) (f : Lock → Lock) : (d.modLock k f).dict = d.dict := rfl
@[simp] theorem Dev.modLock_odp (d : Dev) (k : Fin 34) (f : Lock → Lock) : (d.modLock k f).odp = d.odp := rfl
@[simp] theorem Dev.modLock_host (d : Dev) (k : Fin 34) (f : Lock → Lock) : (d.modLock k f).host = d.host := rfl
@[simp] theorem Dev.modLock_link (d : Dev) (k : Fin 34) (f : Lock → Lock) : (d.modLock k f).link = d.link := rfl
@[simp] theorem Dev.modLock_fc (d : Dev) (k : Fin 34) (f : Lock → Lock) : (d.modLock k f).fc = d.fc := rfl
@[simp] theorem Dev.modLock_rst (d : Dev) (k : Fin 34) (f : Lock → Lock) : (d.modLock k f).rst = d.rst := rfl
@[simp] theorem Dev.modLock_cal (d : Dev) (k : Fin 34) (f : Lock → Lock) : (d.modLock k f).cal = d.cal := rfl
@[simp] theorem Dev.modLock_gallery (d : Dev) (k : Fin 34) (f : Lock → Lock) : (d.modLock k f).gallery = d.gallery := rfl
@[simp] theorem Dev.modLock_acq (d : Dev) (k : Fin 34) (f : Lock → Lock) : (d.modLock k f).acq = d.acq := rfl
@[simp] theorem Dev.modLock_trigLines (d : Dev) (k : Fin 34) (f : Lock → Lock) : (d.modLock k f).trigLines = d.trigLines := rfl
@[simp] theorem Dev.modLock_modes (d : Dev) (k : Fin 34) (f : Lock → Lock) : (d.modLock k f).modes = d.modes := rfl
@[simp] theorem Dev.modLock_stairs (d : Dev) (k : Fin 34) (f : Lock → Lock) : (d.modLock k f).stairs = d.stairs := rfl
@[simp] theorem Dev.modLock_heater (d : Dev) (k : Fin 34) (f : Lock → Lock) : (d.modLock k f).heater = d.heater := rfl
@[simp] theorem Dev.modLock_micro (d : Dev) (k : Fin 34) (f : Lock → Lock) : (d.modLock k f).micro = d.micro := rfl
@[simp] theorem Dev.modLock_boot (d : Dev) (k : Fin 34) (f : Lock → Lock) : (d.modLock k f).boot = d.boot := rfl
@[simp] theorem Dev.modLock_jtag (d : Dev) (k : Fin 34) (f : Lock → Lock) : (d.modLock k f).jtag = d.jtag := rfl
@[simp] theorem Dev.modLock_atEdge (d : Dev) (k : Fin 34) (f : Lock → Lock) : (d.modLock k f).atEdge = d.atEdge := rfl
@[simp] theorem Dev.modLock_edgeRecs (d : Dev) (k : Fin 34) (f : Lock → Lock) : (d.modLock k f).edgeRecs = d.edgeRecs := rfl
@[simp] theorem Dev.modLock_out (d : Dev) (k : Fin 34) (f : Lock → Lock) : (d.modLock k f).out = d.out := rfl
@[simp] theorem Dev.modLock_freeCtr (d : Dev) (k : Fin 34) (f : Lock → Lock) : (d.modLock k f).freeCtr = d.freeCtr := rfl
@[simp] theorem Dev.modLock_moves (d : Dev) (k : Fin 34) (f : Lock → Lock) : (d.modLock k f).moves = d.moves := rfl
@[simp] theorem Dev.modLock_retireFaults (d : Dev) (k : Fin 34) (f : Lock → Lock) : (d.modLock k f).retireFaults = d.retireFaults := rfl
@[simp] theorem Dev.modLock_retireCmds (d : Dev) (k : Fin 34) (f : Lock → Lock) : (d.modLock k f).retireCmds = d.retireCmds := rfl
@[simp] theorem Dev.modLock_heldAnswers (d : Dev) (k : Fin 34) (f : Lock → Lock) : (d.modLock k f).heldAnswers = d.heldAnswers := rfl
@[simp] theorem Dev.modLock_gf0 (d : Dev) (k : Fin 34) (f : Lock → Lock) : (d.modLock k f).gf0 = d.gf0 := rfl
@[simp] theorem Dev.modLock_flagOps (d : Dev) (k : Fin 34) (f : Lock → Lock) : (d.modLock k f).flagOps = d.flagOps := rfl
@[simp] theorem Dev.modLock_tickEvents (d : Dev) (k : Fin 34) (f : Lock → Lock) : (d.modLock k f).tickEvents = d.tickEvents := rfl
@[simp] theorem Dev.modLock_discrete (d : Dev) (k : Fin 34) (f : Lock → Lock) : (d.modLock k f).discrete = d.discrete := rfl
@[simp] theorem Dev.modLock_tickRecs (d : Dev) (k : Fin 34) (f : Lock → Lock) : (d.modLock k f).tickRecs = d.tickRecs := rfl

@[simp] theorem Dev.send_fuses (d : Dev) (o : Output) : (d.send o).fuses = d.fuses := rfl
@[simp] theorem Dev.send_tb (d : Dev) (o : Output) : (d.send o).tb = d.tb := rfl
@[simp] theorem Dev.send_chans (d : Dev) (o : Output) : (d.send o).chans = d.chans := rfl
@[simp] theorem Dev.send_vrefFrames (d : Dev) (o : Output) : (d.send o).vrefFrames = d.vrefFrames := rfl
@[simp] theorem Dev.send_seqs (d : Dev) (o : Output) : (d.send o).seqs = d.seqs := rfl
@[simp] theorem Dev.send_gf (d : Dev) (o : Output) : (d.send o).gf = d.gf := rfl
@[simp] theorem Dev.send_arb (d : Dev) (o : Output) : (d.send o).arb = d.arb := rfl
@[simp] theorem Dev.send_dict (d : Dev) (o : Output) : (d.send o).dict = d.dict := rfl
@[simp] theorem Dev.send_odp (d : Dev) (o : Output) : (d.send o).odp = d.odp := rfl
@[simp] theorem Dev.send_host (d : Dev) (o : Output) : (d.send o).host = d.host := rfl
@[simp] theorem Dev.send_link (d : Dev) (o : Output) : (d.send o).link = d.link := rfl
@[simp] theorem Dev.send_mgmt (d : Dev) (o : Output) : (d.send o).mgmt = d.mgmt := rfl
@[simp] theorem Dev.send_fc (d : Dev) (o : Output) : (d.send o).fc = d.fc := rfl
@[simp] theorem Dev.send_rst (d : Dev) (o : Output) : (d.send o).rst = d.rst := rfl
@[simp] theorem Dev.send_cal (d : Dev) (o : Output) : (d.send o).cal = d.cal := rfl
@[simp] theorem Dev.send_gallery (d : Dev) (o : Output) : (d.send o).gallery = d.gallery := rfl
@[simp] theorem Dev.send_acq (d : Dev) (o : Output) : (d.send o).acq = d.acq := rfl
@[simp] theorem Dev.send_trigLines (d : Dev) (o : Output) : (d.send o).trigLines = d.trigLines := rfl
@[simp] theorem Dev.send_modes (d : Dev) (o : Output) : (d.send o).modes = d.modes := rfl
@[simp] theorem Dev.send_stairs (d : Dev) (o : Output) : (d.send o).stairs = d.stairs := rfl
@[simp] theorem Dev.send_heater (d : Dev) (o : Output) : (d.send o).heater = d.heater := rfl
@[simp] theorem Dev.send_micro (d : Dev) (o : Output) : (d.send o).micro = d.micro := rfl
@[simp] theorem Dev.send_boot (d : Dev) (o : Output) : (d.send o).boot = d.boot := rfl
@[simp] theorem Dev.send_jtag (d : Dev) (o : Output) : (d.send o).jtag = d.jtag := rfl
@[simp] theorem Dev.send_atEdge (d : Dev) (o : Output) : (d.send o).atEdge = d.atEdge := rfl
@[simp] theorem Dev.send_edgeRecs (d : Dev) (o : Output) : (d.send o).edgeRecs = d.edgeRecs := rfl
@[simp] theorem Dev.send_freeCtr (d : Dev) (o : Output) : (d.send o).freeCtr = d.freeCtr := rfl
@[simp] theorem Dev.send_moves (d : Dev) (o : Output) : (d.send o).moves = d.moves := rfl
@[simp] theorem Dev.send_retireFaults (d : Dev) (o : Output) : (d.send o).retireFaults = d.retireFaults := rfl
@[simp] theorem Dev.send_retireCmds (d : Dev) (o : Output) : (d.send o).retireCmds = d.retireCmds := rfl
@[simp] theorem Dev.send_heldAnswers (d : Dev) (o : Output) : (d.send o).heldAnswers = d.heldAnswers := rfl
@[simp] theorem Dev.send_gf0 (d : Dev) (o : Output) : (d.send o).gf0 = d.gf0 := rfl
@[simp] theorem Dev.send_flagOps (d : Dev) (o : Output) : (d.send o).flagOps = d.flagOps := rfl
@[simp] theorem Dev.send_tickEvents (d : Dev) (o : Output) : (d.send o).tickEvents = d.tickEvents := rfl
@[simp] theorem Dev.send_discrete (d : Dev) (o : Output) : (d.send o).discrete = d.discrete := rfl
@[simp] theorem Dev.send_tickRecs (d : Dev) (o : Output) : (d.send o).tickRecs = d.tickRecs := rfl

@[simp] theorem Dev.setNow_fuses (d : Dev) (ix sub : Nat) (v : Bytes) : (d.setNow ix sub v).fuses = d.fuses := rfl
@[simp] theorem Dev.setNow_tb (d : Dev) (ix sub : Nat) (v : Bytes) : (d.setNow ix sub v).tb = d.tb := rfl
@[simp] theorem Dev.setNow_chans (d : Dev) (ix sub : Nat) (v : Bytes) : (d.setNow ix sub v).chans = d.chans := rfl
@[simp] theorem Dev.setNow_vrefFrames (d : Dev) (ix sub : Nat) (v : Bytes) : (d.setNow ix sub v).vrefFrames = d.vrefFrames := rfl
@[simp] theorem Dev.setNow_seqs (d : Dev) (ix sub : Nat) (v : Bytes) : (d.setNow ix sub v).seqs = d.seqs := rfl
@[simp] theorem Dev.setNow_gf (d : Dev) (ix sub : Nat) (v : Bytes) : (d.setNow ix sub v).gf = d.gf := rfl
@[simp] theorem Dev.setNow_arb (d : Dev) (ix sub : Nat) (v : Bytes) : (d.setNow ix sub v).arb = d.arb := rfl
@[simp] theorem Dev.setNow_odp (d : Dev) (ix sub : Nat) (v : Bytes) : (d.setNow ix sub v).odp = d.odp := rfl
@[simp] theorem Dev.setNow_host (d : Dev) (ix sub : Nat) (v : Bytes) : (d.setNow ix sub v).host = d.host := rfl
@[simp] theorem Dev.setNow_link (d : Dev) (ix sub : Nat) (v : Bytes) : (d.setNow ix sub v).link = d.link := rfl
@[simp] theorem Dev.setNow_mgmt (d : Dev) (ix sub : Nat) (v : Bytes) : (d.setNow ix sub v).mgmt = d.mgmt := rfl
@[simp] theorem Dev.setNow_fc (d : Dev) (ix sub : Nat) (v : Bytes) : (d.setNow ix sub v).fc = d.fc := rfl
@[simp] theorem Dev.setNow_rst (d : Dev) (ix sub : Nat) (v : Bytes) : (d.setNow ix sub v).rst = d.rst := rfl
@[simp] theorem Dev.setNow_cal (d : Dev) (ix sub : Nat) (v : Bytes) : (d.setNow ix sub v).cal = d.cal := rfl
@[simp] theorem Dev.setNow_gallery (d : Dev) (ix sub : Nat) (v : Bytes) : (d.setNow ix sub v).gallery = d.gallery := rfl
@[simp] theorem Dev.setNow_acq (d : Dev) (ix sub : Nat) (v : Bytes) : (d.setNow ix sub v).acq = d.acq := rfl
@[simp] theorem Dev.setNow_trigLines (d : Dev) (ix sub : Nat) (v : Bytes) : (d.setNow ix sub v).trigLines = d.trigLines := rfl
@[simp] theorem Dev.setNow_modes (d : Dev) (ix sub : Nat) (v : Bytes) : (d.setNow ix sub v).modes = d.modes := rfl
@[simp] theorem Dev.setNow_stairs (d : Dev) (ix sub : Nat) (v : Bytes) : (d.setNow ix sub v).stairs = d.stairs := rfl
@[simp] theorem Dev.setNow_heater (d : Dev) (ix sub : Nat) (v : Bytes) : (d.setNow ix sub v).heater = d.heater := rfl
@[simp] theorem Dev.setNow_micro (d : Dev) (ix sub : Nat) (v : Bytes) : (d.setNow ix sub v).micro = d.micro := rfl
@[simp] theorem Dev.setNow_boot (d : Dev) (ix sub : Nat) (v : Bytes) : (d.setNow ix sub v).boot = d.boot := rfl
@[simp] theorem Dev.setNow_jtag (d : Dev) (ix sub : Nat) (v : Bytes) : (d.setNow ix sub v).jtag = d.jtag := rfl
@[simp] theorem Dev.setNow_atEdge (d : Dev) (ix sub : Nat) (v : Bytes) : (d.setNow ix sub v).atEdge = d.atEdge := rfl
@[simp] theorem Dev.setNow_edgeRecs (d : Dev) (ix sub : Nat) (v : Bytes) : (d.setNow ix sub v).edgeRecs = d.edgeRecs := rfl
@[simp] theorem Dev.setNow_out (d : Dev) (ix sub : Nat) (v : Bytes) : (d.setNow ix sub v).out = d.out := rfl
@[simp] theorem Dev.setNow_freeCtr (d : Dev) (ix sub : Nat) (v : Bytes) : (d.setNow ix sub v).freeCtr = d.freeCtr := rfl
@[simp] theorem Dev.setNow_moves (d : Dev) (ix sub : Nat) (v : Bytes) : (d.setNow ix sub v).moves = d.moves := rfl
@[simp] theorem Dev.setNow_retireFaults (d : Dev) (ix sub : Nat) (v : Bytes) : (d.setNow ix sub v).retireFaults = d.retireFaults := rfl
@[simp] theorem Dev.setNow_retireCmds (d : Dev) (ix sub : Nat) (v : Bytes) : (d.setNow ix sub v).retireCmds = d.retireCmds := rfl
@[simp] theorem Dev.setNow_heldAnswers (d : Dev) (ix sub : Nat) (v : Bytes) : (d.setNow ix sub v).heldAnswers = d.heldAnswers := rfl
@[simp] theorem Dev.setNow_gf0 (d : Dev) (ix sub : Nat) (v : Bytes) : (d.setNow ix sub v).gf0 = d.gf0 := rfl
@[simp] theorem Dev.setNow_flagOps (d : Dev) (ix sub : Nat) (v : Bytes) : (d.setNow ix sub v).flagOps = d.flagOps := rfl
@[simp] theorem Dev.setNow_tickEvents (d : Dev) (ix sub : Nat) (v : Bytes) : (d.setNow ix sub v).tickEvents = d.tickEvents := rfl
@[simp] theorem Dev.setNow_discrete (d : Dev) (ix sub : Nat) (v : Bytes) : (d.setNow ix sub v).discrete = d.discrete := rfl
@[simp] theorem Dev.setNow_tickRecs (d : Dev) (ix sub : Nat) (v : Bytes) : (d.setNow ix sub v).tickRecs = d.tickRecs := rfl

@[simp] theorem Dev.setAlarm_fuses (d : Dev) (o : Fin 9) (w : Fin 2) (a : Alarm) : (d.setAlarm o w a).fuses = d.fuses := rfl
@[simp] theorem Dev.setAlarm_chans (d : Dev) (o : Fin 9) (w : Fin 2) (a : Alarm) : (d.setAlarm o w a).chans = d.chans := rfl
@[simp] theorem Dev.setAlarm_vrefFrames (d : Dev) (o : Fin 9) (w : Fin 2) (a : Alarm) : (d.setAlarm o w a).vrefFrames = d.vrefFrames := rfl
@[simp] theorem Dev.setAlarm_seqs (d : Dev) (o : Fin 9) (w : Fin 2) (a : Alarm) : (d.setAlarm o w a).seqs = d.seqs := rfl
@[simp] theorem Dev.setAlarm_gf (d : Dev) (o : Fin 9) (w : Fin 2) (a : Alarm) : (d.setAlarm o w a).gf = d.gf := rfl
@[simp] theorem Dev.setAlarm_arb (d : Dev) (o : Fin 9) (w : Fin 2) (a : Alarm) : (d.setAlarm o w a).arb = d.arb := rfl
@[simp] theorem Dev.setAlarm_dict (d : Dev) (o : Fin 9) (w : Fin 2) (a : Alarm) : (d.setAlarm o w a).dict = d.dict := rfl
@[simp] theorem Dev.setAlarm_odp (d : Dev) (o : Fin 9) (w : Fin 2) (a : Alarm) : (d.setAlarm o w a).odp = d.odp := rfl
@[simp] theorem Dev.setAlarm_host (d : Dev) (o : Fin 9) (w : Fin 2) (a : Alarm) : (d.setAlarm o w a).host = d.host := rfl
@[simp] theorem Dev.setAlarm_link (d : Dev) (o : Fin 9) (w : Fin 2) (a : Alarm) : (d.setAlarm o w a).link = d.link := rfl
@[simp] theorem Dev.setAlarm_mgmt (d : Dev) (o : Fin 9) (w : Fin 2) (a : Alarm) : (d.setAlarm o w a).mgmt = d.mgmt := rfl
@[simp] theorem Dev.setAlarm_fc (d : Dev) (o : Fin 9) (w : Fin 2) (a : Alarm) : (d.setAlarm o w a).fc = d.fc := rfl
@[simp] theorem Dev.setAlarm_rst (d : Dev) (o : Fin 9) (w : Fin 2) (a : Alarm) : (d.setAlarm o w a).rst = d.rst := rfl
@[simp] theorem Dev.setAlarm_cal (d : Dev) (o : Fin 9) (w : Fin 2) (a : Alarm) : (d.setAlarm o w a).cal = d.cal := rfl
@[simp] theorem Dev.setAlarm_gallery (d : Dev) (o : Fin 9) (w : Fin 2) (a : Alarm) : (d.setAlarm o w a).gallery = d.gallery := rfl
@[simp] theorem Dev.setAlarm_acq (d : Dev) (o : Fin 9) (w : Fin 2) (a : Alarm) : (d.setAlarm o w a).acq = d.acq := rfl
@[simp] theorem Dev.setAlarm_trigLines (d : Dev) (o : Fin 9) (w : Fin 2) (a : Alarm) : (d.setAlarm o w a).trigLines = d.trigLines := rfl
@[simp] theorem Dev.setAlarm_modes (d : Dev) (o : Fin 9) (w : Fin 2) (a : Alarm) : (d.setAlarm o w a).modes = d.modes := rfl
@[simp] theorem Dev.setAlarm_stairs (d : Dev) (o : Fin 9) (w : Fin 2) (a : Alarm) : (d.setAlarm o w a).stairs = d.stairs := rfl
@[simp] theorem Dev.setAlarm_heater (d : Dev) (o : Fin 9) (w : Fin 2) (a : Alarm) : (d.setAlarm o w a).heater = d.heater := rfl
@[simp] theorem Dev.setAlarm_micro (d : Dev) (o : Fin 9) (w : Fin 2) (a : Alarm) : (d.setAlarm o w a).micro = d.micro := rfl
@[simp] theorem Dev.setAlarm_boot (d : Dev) (o : Fin 9) (w : Fin 2) (a : Alarm) : (d.setAlarm o w a).boot = d.boot := rfl
@[simp] theorem Dev.setAlarm_jtag (d : Dev) (o : Fin 9) (w : Fin 2) (a : Alarm) : (d.setAlarm o w a).jtag = d.jtag := rfl
@[simp] theorem Dev.setAlarm_atEdge (d : Dev) (o : Fin 9) (w : Fin 2) (a : Alarm) : (d.setAlarm o w a).atEdge = d.atEdge := rfl
@[simp] theorem Dev.setAlarm_edgeRecs (d : Dev) (o : Fin 9) (w : Fin 2) (a : Alarm) : (d.setAlarm o w a).edgeRecs = d.edgeRecs := rfl
@[simp] theorem Dev.setAlarm_out (d : Dev) (o : Fin 9) (w : Fin 2) (a : Alarm) : (d.setAlarm o w a).out = d.out := rfl
@[simp] theorem Dev.setAlarm_freeCtr (d : Dev) (o : Fin 9) (w : Fin 2) (a : Alarm) : (d.setAlarm o w a).freeCtr = d.freeCtr := rfl
@[simp] theorem Dev.setAlarm_moves (d : Dev) (o : Fin 9) (w : Fin 2) (a : Alarm) : (d.setAlarm o w a).moves = d.moves := rfl
@[simp] theorem Dev.setAlarm_retireFaults (d : Dev) (o : Fin 9) (w : Fin 2) (a : Alarm) : (d.setAlarm o w a).retireFaults = d.retireFaults := rfl
@[simp] theorem Dev.setAlarm_retireCmds (d : Dev) (o : Fin 9) (w : Fin 2) (a : Alarm) : (d.setAlarm o w a).retireCmds = d.retireCmds := rfl
@[simp] theorem Dev.setAlarm_heldAnswers (d : Dev) (o : Fin 9) (w : Fin 2) (a : Alarm) : (d.setAlarm o w a).heldAnswers = d.heldAnswers := rfl
@[simp] theorem Dev.setAlarm_gf0 (d : Dev) (o : Fin 9) (w : Fin 2) (a : Alarm) : (d.setAlarm o w a).gf0 = d.gf0 := rfl
@[simp] theorem Dev.setAlarm_flagOps (d : Dev) (o : Fin 9) (w : Fin 2) (a : Alarm) : (d.setAlarm o w a).flagOps = d.flagOps := rfl
@[simp] theorem Dev.setAlarm_tickEvents (d : Dev) (o : Fin 9) (w : Fin 2) (a : Alarm) : (d.setAlarm o w a).tickEvents = d.tickEvents := rfl
@[simp] theorem Dev.setAlarm_discrete (d : Dev) (o : Fin 9) (w : Fin 2) (a : Alarm) : (d.setAlarm o w a).discrete = d.discrete := rfl
@[simp] theorem Dev.setAlarm_tickRecs (d : Dev) (o : Fin 9) (w : Fin 2) (a : Alarm) : (d.setAlarm o w a).tickRecs = d.tickRecs := rfl

@[simp] theorem Dev.clearLatch_fuses (d : Dev) (x : Source) (c : Scope) : (d.clearLatch x c).fuses = d.fuses := rfl
@[simp] theorem Dev.clearLatch_tb (d : Dev) (x : Source) (c : Scope) : (d.clearLatch x c).tb = d.tb := rfl
@[simp] theorem Dev.clearLatch_chans (d : Dev) (x : Source) (c : Scope) : (d.clearLatch x c).chans = d.chans := rfl
@[simp] theorem Dev.clearLatch_vrefFrames (d : Dev) (x : Source) (c : Scope) : (d.clearLatch x c).vrefFrames = d.vrefFrames := rfl
@[simp] theorem Dev.clearLatch_seqs (d : Dev) (x : Source) (c : Scope) : (d.clearLatch x c).seqs = d.seqs := rfl
@[simp] theorem Dev.clearLatch_gf (d : Dev) (x : Source) (c : Scope) : (d.clearLatch x c).gf = d.gf := rfl
@[simp] theorem Dev.clearLatch_arb (d : Dev) (x : Source) (c : Scope) : (d.clearLatch x c).arb = d.arb := rfl
@[simp] theorem Dev.clearLatch_dict (d : Dev) (x : Source) (c : Scope) : (d.clearLatch x c).dict = d.dict := rfl
@[simp] theorem Dev.clearLatch_odp (d : Dev) (x : Source) (c : Scope) : (d.clearLatch x c).odp = d.odp := rfl
@[simp] theorem Dev.clearLatch_host (d : Dev) (x : Source) (c : Scope) : (d.clearLatch x c).host = d.host := rfl
@[simp] theorem Dev.clearLatch_link (d : Dev) (x : Source) (c : Scope) : (d.clearLatch x c).link = d.link := rfl
@[simp] theorem Dev.clearLatch_mgmt (d : Dev) (x : Source) (c : Scope) : (d.clearLatch x c).mgmt = d.mgmt := rfl
@[simp] theorem Dev.clearLatch_rst (d : Dev) (x : Source) (c : Scope) : (d.clearLatch x c).rst = d.rst := rfl
@[simp] theorem Dev.clearLatch_cal (d : Dev) (x : Source) (c : Scope) : (d.clearLatch x c).cal = d.cal := rfl
@[simp] theorem Dev.clearLatch_gallery (d : Dev) (x : Source) (c : Scope) : (d.clearLatch x c).gallery = d.gallery := rfl
@[simp] theorem Dev.clearLatch_acq (d : Dev) (x : Source) (c : Scope) : (d.clearLatch x c).acq = d.acq := rfl
@[simp] theorem Dev.clearLatch_trigLines (d : Dev) (x : Source) (c : Scope) : (d.clearLatch x c).trigLines = d.trigLines := rfl
@[simp] theorem Dev.clearLatch_modes (d : Dev) (x : Source) (c : Scope) : (d.clearLatch x c).modes = d.modes := rfl
@[simp] theorem Dev.clearLatch_stairs (d : Dev) (x : Source) (c : Scope) : (d.clearLatch x c).stairs = d.stairs := rfl
@[simp] theorem Dev.clearLatch_heater (d : Dev) (x : Source) (c : Scope) : (d.clearLatch x c).heater = d.heater := rfl
@[simp] theorem Dev.clearLatch_micro (d : Dev) (x : Source) (c : Scope) : (d.clearLatch x c).micro = d.micro := rfl
@[simp] theorem Dev.clearLatch_boot (d : Dev) (x : Source) (c : Scope) : (d.clearLatch x c).boot = d.boot := rfl
@[simp] theorem Dev.clearLatch_jtag (d : Dev) (x : Source) (c : Scope) : (d.clearLatch x c).jtag = d.jtag := rfl
@[simp] theorem Dev.clearLatch_atEdge (d : Dev) (x : Source) (c : Scope) : (d.clearLatch x c).atEdge = d.atEdge := rfl
@[simp] theorem Dev.clearLatch_edgeRecs (d : Dev) (x : Source) (c : Scope) : (d.clearLatch x c).edgeRecs = d.edgeRecs := rfl
@[simp] theorem Dev.clearLatch_out (d : Dev) (x : Source) (c : Scope) : (d.clearLatch x c).out = d.out := rfl
@[simp] theorem Dev.clearLatch_freeCtr (d : Dev) (x : Source) (c : Scope) : (d.clearLatch x c).freeCtr = d.freeCtr := rfl
@[simp] theorem Dev.clearLatch_moves (d : Dev) (x : Source) (c : Scope) : (d.clearLatch x c).moves = d.moves := rfl
@[simp] theorem Dev.clearLatch_retireFaults (d : Dev) (x : Source) (c : Scope) : (d.clearLatch x c).retireFaults = d.retireFaults := rfl
@[simp] theorem Dev.clearLatch_retireCmds (d : Dev) (x : Source) (c : Scope) : (d.clearLatch x c).retireCmds = d.retireCmds := rfl
@[simp] theorem Dev.clearLatch_heldAnswers (d : Dev) (x : Source) (c : Scope) : (d.clearLatch x c).heldAnswers = d.heldAnswers := rfl
@[simp] theorem Dev.clearLatch_gf0 (d : Dev) (x : Source) (c : Scope) : (d.clearLatch x c).gf0 = d.gf0 := rfl
@[simp] theorem Dev.clearLatch_flagOps (d : Dev) (x : Source) (c : Scope) : (d.clearLatch x c).flagOps = d.flagOps := rfl
@[simp] theorem Dev.clearLatch_tickEvents (d : Dev) (x : Source) (c : Scope) : (d.clearLatch x c).tickEvents = d.tickEvents := rfl
@[simp] theorem Dev.clearLatch_discrete (d : Dev) (x : Source) (c : Scope) : (d.clearLatch x c).discrete = d.discrete := rfl
@[simp] theorem Dev.clearLatch_tickRecs (d : Dev) (x : Source) (c : Scope) : (d.clearLatch x c).tickRecs = d.tickRecs := rfl

@[simp] theorem Dev.condFall_fuses (d : Dev) (x : Source) (c : Scope) : (d.condFall x c).fuses = d.fuses := rfl
@[simp] theorem Dev.condFall_tb (d : Dev) (x : Source) (c : Scope) : (d.condFall x c).tb = d.tb := rfl
@[simp] theorem Dev.condFall_chans (d : Dev) (x : Source) (c : Scope) : (d.condFall x c).chans = d.chans := rfl
@[simp] theorem Dev.condFall_vrefFrames (d : Dev) (x : Source) (c : Scope) : (d.condFall x c).vrefFrames = d.vrefFrames := rfl
@[simp] theorem Dev.condFall_seqs (d : Dev) (x : Source) (c : Scope) : (d.condFall x c).seqs = d.seqs := rfl
@[simp] theorem Dev.condFall_gf (d : Dev) (x : Source) (c : Scope) : (d.condFall x c).gf = d.gf := rfl
@[simp] theorem Dev.condFall_arb (d : Dev) (x : Source) (c : Scope) : (d.condFall x c).arb = d.arb := rfl
@[simp] theorem Dev.condFall_dict (d : Dev) (x : Source) (c : Scope) : (d.condFall x c).dict = d.dict := rfl
@[simp] theorem Dev.condFall_odp (d : Dev) (x : Source) (c : Scope) : (d.condFall x c).odp = d.odp := rfl
@[simp] theorem Dev.condFall_host (d : Dev) (x : Source) (c : Scope) : (d.condFall x c).host = d.host := rfl
@[simp] theorem Dev.condFall_link (d : Dev) (x : Source) (c : Scope) : (d.condFall x c).link = d.link := rfl
@[simp] theorem Dev.condFall_mgmt (d : Dev) (x : Source) (c : Scope) : (d.condFall x c).mgmt = d.mgmt := rfl
@[simp] theorem Dev.condFall_rst (d : Dev) (x : Source) (c : Scope) : (d.condFall x c).rst = d.rst := rfl
@[simp] theorem Dev.condFall_cal (d : Dev) (x : Source) (c : Scope) : (d.condFall x c).cal = d.cal := rfl
@[simp] theorem Dev.condFall_gallery (d : Dev) (x : Source) (c : Scope) : (d.condFall x c).gallery = d.gallery := rfl
@[simp] theorem Dev.condFall_acq (d : Dev) (x : Source) (c : Scope) : (d.condFall x c).acq = d.acq := rfl
@[simp] theorem Dev.condFall_trigLines (d : Dev) (x : Source) (c : Scope) : (d.condFall x c).trigLines = d.trigLines := rfl
@[simp] theorem Dev.condFall_modes (d : Dev) (x : Source) (c : Scope) : (d.condFall x c).modes = d.modes := rfl
@[simp] theorem Dev.condFall_stairs (d : Dev) (x : Source) (c : Scope) : (d.condFall x c).stairs = d.stairs := rfl
@[simp] theorem Dev.condFall_heater (d : Dev) (x : Source) (c : Scope) : (d.condFall x c).heater = d.heater := rfl
@[simp] theorem Dev.condFall_micro (d : Dev) (x : Source) (c : Scope) : (d.condFall x c).micro = d.micro := rfl
@[simp] theorem Dev.condFall_boot (d : Dev) (x : Source) (c : Scope) : (d.condFall x c).boot = d.boot := rfl
@[simp] theorem Dev.condFall_jtag (d : Dev) (x : Source) (c : Scope) : (d.condFall x c).jtag = d.jtag := rfl
@[simp] theorem Dev.condFall_atEdge (d : Dev) (x : Source) (c : Scope) : (d.condFall x c).atEdge = d.atEdge := rfl
@[simp] theorem Dev.condFall_edgeRecs (d : Dev) (x : Source) (c : Scope) : (d.condFall x c).edgeRecs = d.edgeRecs := rfl
@[simp] theorem Dev.condFall_out (d : Dev) (x : Source) (c : Scope) : (d.condFall x c).out = d.out := rfl
@[simp] theorem Dev.condFall_freeCtr (d : Dev) (x : Source) (c : Scope) : (d.condFall x c).freeCtr = d.freeCtr := rfl
@[simp] theorem Dev.condFall_moves (d : Dev) (x : Source) (c : Scope) : (d.condFall x c).moves = d.moves := rfl
@[simp] theorem Dev.condFall_retireFaults (d : Dev) (x : Source) (c : Scope) : (d.condFall x c).retireFaults = d.retireFaults := rfl
@[simp] theorem Dev.condFall_retireCmds (d : Dev) (x : Source) (c : Scope) : (d.condFall x c).retireCmds = d.retireCmds := rfl
@[simp] theorem Dev.condFall_heldAnswers (d : Dev) (x : Source) (c : Scope) : (d.condFall x c).heldAnswers = d.heldAnswers := rfl
@[simp] theorem Dev.condFall_gf0 (d : Dev) (x : Source) (c : Scope) : (d.condFall x c).gf0 = d.gf0 := rfl
@[simp] theorem Dev.condFall_flagOps (d : Dev) (x : Source) (c : Scope) : (d.condFall x c).flagOps = d.flagOps := rfl
@[simp] theorem Dev.condFall_tickEvents (d : Dev) (x : Source) (c : Scope) : (d.condFall x c).tickEvents = d.tickEvents := rfl
@[simp] theorem Dev.condFall_discrete (d : Dev) (x : Source) (c : Scope) : (d.condFall x c).discrete = d.discrete := rfl
@[simp] theorem Dev.condFall_tickRecs (d : Dev) (x : Source) (c : Scope) : (d.condFall x c).tickRecs = d.tickRecs := rfl

@[simp] theorem Dev.modSeq_get (d : Dev) (t : Tenant) (f : Seq → Seq) : vget (d.modSeq t f).seqs t = f (vget d.seqs t) := by simp [Dev.modSeq]
@[simp] theorem Dev.modChan_get (d : Dev) (c : Chan) (f : Channel → Channel) : vget (d.modChan c f).chans c = f (vget d.chans c) := by simp [Dev.modChan]
@[simp] theorem Dev.modAcq_get (d : Dev) (t : Tenant) (f : Acq → Acq) : vget (d.modAcq t f).acq t = f (vget d.acq t) := by simp [Dev.modAcq]
@[simp] theorem Dev.modGal_get (d : Dev) (t : Tenant) (f : Gallery → Gallery) : vget (d.modGal t f).gallery t = f (vget d.gallery t) := by simp [Dev.modGal]
@[simp] theorem Dev.modHost_get (d : Dev) (t : Tenant) (f : HostIf → HostIf) : vget (d.modHost t f).host t = f (vget d.host t) := by simp [Dev.modHost]
@[simp] theorem Dev.modSeq_seq (d : Dev) (t : Tenant) (f : Seq → Seq) : (d.modSeq t f).seq t = f (d.seq t) := by
  simp [Dev.seq, Dev.modSeq]
theorem Dev.modSeq_seq_ne (d : Dev) (t u : Tenant) (f : Seq → Seq) (h : u ≠ t) : (d.modSeq t f).seq u = d.seq u := by
  simp [Dev.seq, Dev.modSeq, vget_vmod_ne _ _ _ _ h]
@[simp] theorem Dev.modSeq_modSeq (d : Dev) (t : Tenant) (f g : Seq → Seq) :
    (d.modSeq t f).modSeq t g = d.modSeq t fun x => g (f x) := by
  simp [Dev.modSeq]

/-! ### The state -/

@[simp] theorem State.withDev_mem (s : State) (f : Dev → Dev) : (s.withDev f).mem = s.mem := rfl
@[simp] theorem State.withDev_pending (s : State) (f : Dev → Dev) : (s.withDev f).pending = s.pending := rfl
@[simp] theorem State.withDev_dev (s : State) (f : Dev → Dev) : (s.withDev f).dev = f s.dev := rfl
@[simp] theorem State.onSeq_mem (s : State) (t : Tenant) (f : Seq → Seq) : (s.onSeq t f).mem = s.mem := rfl
@[simp] theorem State.onSeq_pending (s : State) (t : Tenant) (f : Seq → Seq) : (s.onSeq t f).pending = s.pending := rfl
@[simp] theorem State.onSeq_dev (s : State) (t : Tenant) (f : Seq → Seq) : (s.onSeq t f).dev = s.dev.modSeq t f := rfl
@[simp] theorem State.reset_mem : State.reset.mem = [] := rfl

end Sys2Proof.Machine
end

