-- ==== Sys2Proof/Laws/Ops.lean ====
section
/-! SUPPORT. What the shared operations do, said once: the stacked memory (read after write, the canonical form) and the
decoding of a sequencer's instruction. -/
namespace Sys2Proof.Machine

/-! ### Memory -/

/-- Every listed address is at least `k`. -/
def Mem.above (k : Nat) (m : Mem) : Prop := ∀ c ∈ m, k ≤ c.1

theorem Mem.rising_cons (k : Nat) (v : Byte) (m : Mem) :
    Mem.rising ((k, v) :: m) = true ↔ Mem.above (k + 1) m ∧ Mem.rising m = true := by
  induction m generalizing k v with
  | nil => simp [Mem.rising, Mem.above]
  | cons c m ih =>
    obtain ⟨a, w⟩ := c
    simp only [Mem.rising, Bool.and_eq_true, decide_eq_true_eq]
    constructor
    · rintro ⟨h1, h2⟩
      refine ⟨?_, h2⟩
      intro x hx
      rcases List.mem_cons.1 hx with rfl | hx
      · exact h1
      · have := ((ih a w).1 h2).1 x hx; omega
    · rintro ⟨h1, h2⟩
      exact ⟨h1 (a, w) (by simp), h2⟩

theorem Mem.wf_cons (k : Nat) (v : Byte) (m : Mem) :
    Mem.wf ((k, v) :: m) = true ↔ v ≠ 0 ∧ Mem.above (k + 1) m ∧ Mem.wf m = true := by
  simp only [Mem.wf, Bool.and_eq_true, Mem.rising_cons, List.all_cons, bne_iff_ne, ne_eq]
  tauto

theorem Mem.above_write {k a : Nat} (m : Mem) (b : Byte) (h : Mem.above k m) (ha : k ≤ a) : Mem.above k (m.write a b) := by
  induction m with
  | nil =>
    simp only [Mem.write]
    split <;> simp_all [Mem.above]
  | cons c m ih =>
    obtain ⟨x, w⟩ := c
    have hx : k ≤ x := h (x, w) (by simp)
    have hm : Mem.above k m := fun c hc => h c (by simp [hc])
    simp only [Mem.write]
    split
    · split
      · exact h
      · intro c hc; rcases List.mem_cons.1 hc with rfl | hc
        · exact ha
        · exact h c hc
    · split
      · split
        · exact hm
        · intro c hc; rcases List.mem_cons.1 hc with rfl | hc
          · exact hx
          · exact hm c hc
      · intro c hc; rcases List.mem_cons.1 hc with rfl | hc
        · exact hx
        · exact ih hm c hc

/-- A write of one byte keeps the canonical form. -/
theorem Mem.write_wf (m : Mem) (a : Nat) (b : Byte) (h : m.wf = true) : (m.write a b).wf = true := by
  induction m with
  | nil =>
    simp only [Mem.write]
    split
    · rfl
    · rename_i hb; exact (Mem.wf_cons _ _ _).2 ⟨hb, by simp [Mem.above], rfl⟩
  | cons c m ih =>
    obtain ⟨k, v⟩ := c
    have ⟨h1, h2, h3⟩ := (Mem.wf_cons k v m).1 h
    simp only [Mem.write]
    split
    · split
      · exact h
      · rename_i hak hb
        refine (Mem.wf_cons _ _ _).2 ⟨hb, ?_, h⟩
        intro c hc; rcases List.mem_cons.1 hc with rfl | hc
        · exact hak
        · have := h2 c hc; omega
    · split
      · split
        · exact h3
        · rename_i hb
          exact (Mem.wf_cons _ _ _).2 ⟨hb, h2, h3⟩
      · rename_i hak hne
        exact (Mem.wf_cons _ _ _).2 ⟨h1, Mem.above_write m b h2 (by omega), ih h3⟩

/-- A write of several bytes keeps the canonical form. -/
theorem Mem.writeBytes_wf (bs : Bytes) (m : Mem) (a : Nat) (h : m.wf = true) : (m.writeBytes a bs).wf = true := by
  induction bs generalizing m a with
  | nil => exact h
  | cons b bs ih => exact ih _ _ (Mem.write_wf m a b h)

/-- Leaving entries out keeps the canonical form. -/
theorem Mem.filter_wf (m : Mem) (p : Host.Cell → Bool) (h : m.wf = true) : Mem.wf (m.filter p) = true := by
  induction m with
  | nil => rfl
  | cons c m ih =>
    obtain ⟨k, v⟩ := c
    have ⟨h1, h2, h3⟩ := (Mem.wf_cons k v m).1 h
    simp only [List.filter_cons]
    split
    · exact (Mem.wf_cons _ _ _).2 ⟨h1, fun c hc => h2 c (List.mem_filter.1 hc).1, ih h3⟩
    · exact ih h3

/-- Setting a range to zero keeps the canonical form. -/
theorem Mem.zero_wf (m : Mem) (lo hi : Nat) (h : m.wf = true) : (m.zero lo hi).wf = true := Mem.filter_wf m _ h

/-- Below every listed address a byte reads as zero. -/
theorem Mem.read_above {k a : Nat} (m : Mem) (h : Mem.above k m) (ha : a < k) : m.read a = 0 := by
  cases m with
  | nil => rfl
  | cons c m =>
    have hk : k ≤ c.1 := h c (by simp)
    obtain ⟨x, w⟩ := c
    simp only [Mem.read]
    rw [if_neg (by simp at hk; omega), if_pos (by simp at hk; omega)]

/-- A byte written reads back. -/
theorem Mem.read_write (m : Mem) (a : Nat) (b : Byte) (h : m.wf = true) : (m.write a b).read a = b := by
  induction m with
  | nil =>
    simp only [Mem.write]
    split
    · simp [Mem.read, *]
    · simp [Mem.read]
  | cons c m ih =>
    obtain ⟨k, v⟩ := c
    have ⟨h1, h2, h3⟩ := (Mem.wf_cons k v m).1 h
    simp only [Mem.write]
    split
    · rename_i hak
      split
      · rename_i hb
        simp only [Mem.read]
        rw [if_neg (by omega), if_pos hak, hb]
      · simp [Mem.read]
    · split
      · rename_i hk
        subst hk
        split
        · rename_i hb
          rw [Mem.read_above m h2 (by omega), hb]
        · simp [Mem.read]
      · simp only [Mem.read]
        rw [if_neg (by omega), if_neg (by omega)]
        exact ih h3

/-- A write leaves every other address alone. -/
theorem Mem.read_write_ne (m : Mem) (a x : Nat) (b : Byte) (h : m.wf = true) (hx : x ≠ a) :
    (m.write a b).read x = m.read x := by
  induction m with
  | nil =>
    simp only [Mem.write]
    split
    · rfl
    · simp only [Mem.read]
      rw [if_neg (by omega)]
      split <;> rfl
  | cons c m ih =>
    obtain ⟨k, v⟩ := c
    have ⟨h1, h2, h3⟩ := (Mem.wf_cons k v m).1 h
    simp only [Mem.write]
    split
    · rename_i hak
      split
      · rfl
      · rw [Mem.read, if_neg (by omega)]
        split
        · simp only [Mem.read]
          rw [if_neg (by omega), if_pos (by omega)]
        · rfl
    · split
      · rename_i hk
        subst hk
        split
        · simp only [Mem.read]
          rw [if_neg (by omega)]
          split
          · exact Mem.read_above m h2 (by omega)
          · rfl
        · simp only [Mem.read]
          have hne : ¬ a = x := fun e => hx e.symm
          rw [if_neg hne, if_neg hne]
      · simp only [Mem.read]
        split
        · rfl
        · split
          · rfl
          · exact ih h3

/-! ### Sequencers -/

/-- An instruction that its sequencer fetches, with its fields in order, no error of its own and slack for its cost, has
its effect on the charged sequencer. -/
theorem Dev.decode_ok (d : Dev) (t : Tenant) (body : Bool) (cost : Nat) (f : Dev → Dev) (h : d.fetches t)
    (hs : d.slackFor t cost) : d.decode t body true cost none f = f (d.modSeq t fun q => q.charge cost) := by
  obtain ⟨a1, a2, a3, a4, a5, a6⟩ := h
  have a7 : ¬ (d.seq t).slack < cost * finePerTick := by simp only [Dev.slackFor] at hs; omega
  have hd : (d.seq t).decoding = true := by simp [Seq.decoding, a1, a2]
  have a5' : ¬ (d.seq t).ctrlWords ≤ (d.seq t).pc := by omega
  have a6' : ¬ (d.areaAddr 0 t ((d.seq t).ctrlOffset + 8 * (d.seq t).pc) ∈ d.arb.poison) := by
    simpa using a6
  simp only [Dev.decode]
  simp [hd, a4, a5', a6', a3, a7, Dev.modSeq_modSeq]
  rfl

end Sys2Proof.Machine
end

