-- ==== Sys2Proof/Laws/Frames.lean ====
section
/-! SUPPORT. What making a record and what an occurrence of a fault can change: one relation for each, its laws, and one
lemma for each field that it leaves alone. -/
namespace Sys2Proof.Machine

theorem Dev.RecOnly.fuses {d e : Dev} (h : Dev.RecOnly d e) : e.fuses = d.fuses := by rw [h]
theorem Dev.RecOnly.tb {d e : Dev} (h : Dev.RecOnly d e) : e.tb = d.tb := by rw [h]
theorem Dev.RecOnly.chans {d e : Dev} (h : Dev.RecOnly d e) : e.chans = d.chans := by rw [h]
theorem Dev.RecOnly.vrefFrames {d e : Dev} (h : Dev.RecOnly d e) : e.vrefFrames = d.vrefFrames := by rw [h]
theorem Dev.RecOnly.seqs {d e : Dev} (h : Dev.RecOnly d e) : e.seqs = d.seqs := by rw [h]
theorem Dev.RecOnly.gf {d e : Dev} (h : Dev.RecOnly d e) : e.gf = d.gf := by rw [h]
theorem Dev.RecOnly.arb {d e : Dev} (h : Dev.RecOnly d e) : e.arb = d.arb := by rw [h]
theorem Dev.RecOnly.dict {d e : Dev} (h : Dev.RecOnly d e) : e.dict = d.dict := by rw [h]
theorem Dev.RecOnly.odp {d e : Dev} (h : Dev.RecOnly d e) : e.odp = d.odp := by rw [h]
theorem Dev.RecOnly.host {d e : Dev} (h : Dev.RecOnly d e) : e.host = d.host := by rw [h]
theorem Dev.RecOnly.mgmt {d e : Dev} (h : Dev.RecOnly d e) : e.mgmt = d.mgmt := by rw [h]
theorem Dev.RecOnly.link {d e : Dev} (h : Dev.RecOnly d e) : e.link = d.link := by rw [h]
theorem Dev.RecOnly.fc {d e : Dev} (h : Dev.RecOnly d e) : e.fc = d.fc := by rw [h]
theorem Dev.RecOnly.rst {d e : Dev} (h : Dev.RecOnly d e) : e.rst = d.rst := by rw [h]
theorem Dev.RecOnly.cal {d e : Dev} (h : Dev.RecOnly d e) : e.cal = d.cal := by rw [h]
theorem Dev.RecOnly.gallery {d e : Dev} (h : Dev.RecOnly d e) : e.gallery = d.gallery := by rw [h]
theorem Dev.RecOnly.acq {d e : Dev} (h : Dev.RecOnly d e) : e.acq = d.acq := by rw [h]
theorem Dev.RecOnly.trigLines {d e : Dev} (h : Dev.RecOnly d e) : e.trigLines = d.trigLines := by rw [h]
theorem Dev.RecOnly.modes {d e : Dev} (h : Dev.RecOnly d e) : e.modes = d.modes := by rw [h]
theorem Dev.RecOnly.stairs {d e : Dev} (h : Dev.RecOnly d e) : e.stairs = d.stairs := by rw [h]
theorem Dev.RecOnly.heater {d e : Dev} (h : Dev.RecOnly d e) : e.heater = d.heater := by rw [h]
theorem Dev.RecOnly.micro {d e : Dev} (h : Dev.RecOnly d e) : e.micro = d.micro := by rw [h]
theorem Dev.RecOnly.boot {d e : Dev} (h : Dev.RecOnly d e) : e.boot = d.boot := by rw [h]
theorem Dev.RecOnly.jtag {d e : Dev} (h : Dev.RecOnly d e) : e.jtag = d.jtag := by rw [h]
theorem Dev.RecOnly.atEdge {d e : Dev} (h : Dev.RecOnly d e) : e.atEdge = d.atEdge := by rw [h]
theorem Dev.RecOnly.moves {d e : Dev} (h : Dev.RecOnly d e) : e.moves = d.moves := by rw [h]
theorem Dev.RecOnly.retireCmds {d e : Dev} (h : Dev.RecOnly d e) : e.retireCmds = d.retireCmds := by rw [h]
theorem Dev.RecOnly.heldAnswers {d e : Dev} (h : Dev.RecOnly d e) : e.heldAnswers = d.heldAnswers := by rw [h]
theorem Dev.RecOnly.gf0 {d e : Dev} (h : Dev.RecOnly d e) : e.gf0 = d.gf0 := by rw [h]
theorem Dev.RecOnly.flagOps {d e : Dev} (h : Dev.RecOnly d e) : e.flagOps = d.flagOps := by rw [h]
theorem Dev.RecOnly.tickEvents {d e : Dev} (h : Dev.RecOnly d e) : e.tickEvents = d.tickEvents := by rw [h]
theorem Dev.RecOnly.discrete {d e : Dev} (h : Dev.RecOnly d e) : e.discrete = d.discrete := by rw [h]
theorem Dev.RecOnly.retireFaults {d e : Dev} (h : Dev.RecOnly d e) : e.retireFaults = d.retireFaults := by rw [h]
theorem Dev.RecOnly.out {d e : Dev} (h : Dev.RecOnly d e) : e.out = d.out := by rw [h]
theorem Dev.RecOnly.freeCtr {d e : Dev} (h : Dev.RecOnly d e) : e.freeCtr = d.freeCtr := by rw [h]

theorem Dev.RecOnly.refl (d : Dev) : Dev.RecOnly d d := rfl
theorem Dev.RecOnly.trans {d e f : Dev} (h : Dev.RecOnly d e) (k : Dev.RecOnly e f) : Dev.RecOnly d f := by
  unfold Dev.RecOnly at *; rw [k, h]
theorem Dev.RecOnly.foldl {α : Type} (f : Dev → α → Dev) (h : ∀ d x, Dev.RecOnly d (f d x)) (l : List α) (d : Dev) :
    Dev.RecOnly d (l.foldl f d) := by
  induction l generalizing d with
  | nil => exact .refl d
  | cons x xs ih => exact (h d x).trans (ih _)

theorem Dev.FaultOnly.fuses {d e : Dev} (h : Dev.FaultOnly d e) : e.fuses = d.fuses := by rw [h]
theorem Dev.FaultOnly.tb {d e : Dev} (h : Dev.FaultOnly d e) : e.tb = d.tb := by rw [h]
theorem Dev.FaultOnly.vrefFrames {d e : Dev} (h : Dev.FaultOnly d e) : e.vrefFrames = d.vrefFrames := by rw [h]
theorem Dev.FaultOnly.seqs {d e : Dev} (h : Dev.FaultOnly d e) : e.seqs = d.seqs := by rw [h]
theorem Dev.FaultOnly.gf {d e : Dev} (h : Dev.FaultOnly d e) : e.gf = d.gf := by rw [h]
theorem Dev.FaultOnly.arb {d e : Dev} (h : Dev.FaultOnly d e) : e.arb = d.arb := by rw [h]
theorem Dev.FaultOnly.dict {d e : Dev} (h : Dev.FaultOnly d e) : e.dict = d.dict := by rw [h]
theorem Dev.FaultOnly.odp {d e : Dev} (h : Dev.FaultOnly d e) : e.odp = d.odp := by rw [h]
theorem Dev.FaultOnly.host {d e : Dev} (h : Dev.FaultOnly d e) : e.host = d.host := by rw [h]
theorem Dev.FaultOnly.mgmt {d e : Dev} (h : Dev.FaultOnly d e) : e.mgmt = d.mgmt := by rw [h]
theorem Dev.FaultOnly.link {d e : Dev} (h : Dev.FaultOnly d e) : e.link = d.link := by rw [h]
theorem Dev.FaultOnly.cal {d e : Dev} (h : Dev.FaultOnly d e) : e.cal = d.cal := by rw [h]
theorem Dev.FaultOnly.gallery {d e : Dev} (h : Dev.FaultOnly d e) : e.gallery = d.gallery := by rw [h]
theorem Dev.FaultOnly.acq {d e : Dev} (h : Dev.FaultOnly d e) : e.acq = d.acq := by rw [h]
theorem Dev.FaultOnly.trigLines {d e : Dev} (h : Dev.FaultOnly d e) : e.trigLines = d.trigLines := by rw [h]
theorem Dev.FaultOnly.modes {d e : Dev} (h : Dev.FaultOnly d e) : e.modes = d.modes := by rw [h]
theorem Dev.FaultOnly.heater {d e : Dev} (h : Dev.FaultOnly d e) : e.heater = d.heater := by rw [h]
theorem Dev.FaultOnly.micro {d e : Dev} (h : Dev.FaultOnly d e) : e.micro = d.micro := by rw [h]
theorem Dev.FaultOnly.boot {d e : Dev} (h : Dev.FaultOnly d e) : e.boot = d.boot := by rw [h]
theorem Dev.FaultOnly.jtag {d e : Dev} (h : Dev.FaultOnly d e) : e.jtag = d.jtag := by rw [h]
theorem Dev.FaultOnly.atEdge {d e : Dev} (h : Dev.FaultOnly d e) : e.atEdge = d.atEdge := by rw [h]
theorem Dev.FaultOnly.moves {d e : Dev} (h : Dev.FaultOnly d e) : e.moves = d.moves := by rw [h]
theorem Dev.FaultOnly.retireCmds {d e : Dev} (h : Dev.FaultOnly d e) : e.retireCmds = d.retireCmds := by rw [h]
theorem Dev.FaultOnly.heldAnswers {d e : Dev} (h : Dev.FaultOnly d e) : e.heldAnswers = d.heldAnswers := by rw [h]
theorem Dev.FaultOnly.gf0 {d e : Dev} (h : Dev.FaultOnly d e) : e.gf0 = d.gf0 := by rw [h]
theorem Dev.FaultOnly.flagOps {d e : Dev} (h : Dev.FaultOnly d e) : e.flagOps = d.flagOps := by rw [h]
theorem Dev.FaultOnly.tickEvents {d e : Dev} (h : Dev.FaultOnly d e) : e.tickEvents = d.tickEvents := by rw [h]
theorem Dev.FaultOnly.discrete {d e : Dev} (h : Dev.FaultOnly d e) : e.discrete = d.discrete := by rw [h]
theorem Dev.FaultOnly.out {d e : Dev} (h : Dev.FaultOnly d e) : e.out = d.out := by rw [h]
theorem Dev.FaultOnly.freeCtr {d e : Dev} (h : Dev.FaultOnly d e) : e.freeCtr = d.freeCtr := by rw [h]

theorem Dev.FaultOnly.refl (d : Dev) : Dev.FaultOnly d d := rfl
theorem Dev.FaultOnly.trans {d e f : Dev} (h : Dev.FaultOnly d e) (k : Dev.FaultOnly e f) : Dev.FaultOnly d f := by
  unfold Dev.FaultOnly at *; rw [k, h]
theorem Dev.FaultOnly.foldl {α : Type} (f : Dev → α → Dev) (h : ∀ d x, Dev.FaultOnly d (f d x)) (l : List α) (d : Dev) :
    Dev.FaultOnly d (l.foldl f d) := by
  induction l generalizing d with
  | nil => exact .refl d
  | cons x xs ih => exact (h d x).trans (ih _)

theorem Dev.RecOnly.fault {d e : Dev} (h : Dev.RecOnly d e) : Dev.FaultOnly d e := by
  unfold Dev.FaultOnly
  rw [h.fc, h.chans, h.retireFaults, h.rst, h.stairs]
  exact h

/-! ### Records -/

theorem Dev.emit_rec (d : Dev) (e : EdgeRec) : Dev.RecOnly d (d.emit e) := by
  unfold Dev.emit
  split <;> rfl
theorem Dev.emitMgmt_rec (d : Dev) (y x : Nat) (i : Time96) (p : Bytes) : Dev.RecOnly d (d.emitMgmt y x i p) := d.emit_rec _
theorem Dev.emitTenant_rec (d : Dev) (t : Tenant) (m : Bool) (y x : Nat) (i : Time96) (p : Bytes) :
    Dev.RecOnly d (d.emitTenant t m y x i p) := by
  unfold Dev.emitTenant
  cases m
  · exact d.emit_rec _
  · exact (d.emit_rec _).trans (Dev.emit_rec _ _)
theorem Dev.emitAll_rec (d : Dev) (y x : Nat) (i : Time96) (p : Bytes) : Dev.RecOnly d (d.emitAll y x i p) :=
  (Dev.RecOnly.foldl _ (fun d _ => d.emit_rec _) _ d).trans (Dev.emitMgmt_rec _ y x i p)
theorem Dev.channelAdmit_rec (d : Dev) (a : Nat) (c : Chan) (p : Option Pin) (q : Option Chan) (x y z : Nat) :
    Dev.RecOnly d (d.channelAdmit a c p q x y z) := by
  unfold Dev.channelAdmit
  dsimp only
  repeat' split
  all_goals first
    | exact Dev.emitTenant_rec _ _ _ _ _ _ _
    | exact Dev.emitMgmt_rec _ _ _ _ _
theorem Dev.timeStatus_rec (d : Dev) (r p v : Nat) : Dev.RecOnly d (d.timeStatus r p v) := Dev.emitAll_rec _ _ _ _ _
theorem Dev.seqHalt_rec (d : Dev) (t : Tenant) (c e v : Nat) : Dev.RecOnly d (d.seqHalt t c e v) := Dev.emitTenant_rec _ _ _ _ _ _ _

/-! ### Occurrences -/

theorem Dev.acceptRetire_fault (d : Dev) (c : Chan) (x y : Nat) : Dev.FaultOnly d (d.acceptRetire c x y).1 := by
  simp only [Dev.acceptRetire]
  repeat' split
  all_goals rfl
theorem Dev.faultRetire_fault (d : Dev) (c : Chan) (x : Nat) : Dev.FaultOnly d (d.faultRetire c x) := by
  unfold Dev.faultRetire
  split
  · exact d.acceptRetire_fault c 2 x
  · rfl
theorem Dev.react_fault (d : Dev) (x : Source) (c : Scope) (k : Nat) (l : List Chan) : Dev.FaultOnly d (d.react x c k l) := by
  simp only [Dev.react]
  repeat' split
  all_goals first
    | rfl
    | exact Dev.FaultOnly.foldl _ (fun d c => d.faultRetire_fault c x.val) l d

/-- No reaction changes the latches and counts. -/
theorem Dev.react_src (d : Dev) (x : Source) (c : Scope) (k : Nat) (l : List Chan) : (d.react x c k l).fc.src = d.fc.src := by
  have h : ∀ (l : List Chan) (d : Dev), (l.foldl (fun d c => d.faultRetire c x.val) d).fc.src = d.fc.src := by
    intro l
    induction l with
    | nil => intro d; rfl
    | cons c l ih =>
      intro d
      rw [List.foldl_cons, ih]
      simp only [Dev.faultRetire, Dev.acceptRetire]
      repeat' split
      all_goals rfl
  simp only [Dev.react]
  repeat' split
  all_goals first
    | rfl
    | exact h l d

/-- What an occurrence does to the sources other than its own: at most MERGED moves (R571). -/
theorem Collector.takeAll_src (l : List FaultOcc) (fc : Collector) (k : Source) :
    vget (fc.takeAll l).src k = { vget fc.src k with lastMerged := (vget (fc.takeAll l).src k).lastMerged } := by
  induction l generalizing fc with
  | nil => rfl
  | cons o l ih =>
    rw [Collector.takeAll, ih]
    by_cases h : k = o.src
    · subst h; simp only [vget_vmod]
    · simp only [vget_vmod_ne _ _ _ _ h]
theorem Collector.takeOcc_src (fc : Collector) (o : FaultOcc) (k : Source) :
    vget (fc.takeOcc o).src k = { vget fc.src k with lastMerged := (vget (fc.takeOcc o).src k).lastMerged } := by
  unfold Collector.takeOcc
  exact Collector.takeAll_src _ _ k

/-- An occurrence latches its source in its scope and counts once (R570). -/
theorem Dev.occur_occurred (d : Dev) (x : Source) (c : Scope) (i : FaultInfo) (row : FaultRow) (h : faultRow x.val = some row) :
    Dev.Occurred d (d.occur x c i) x c := by
  unfold Dev.Occurred
  have key : ∀ k, vget (d.occur x c i).fc.src k = { vget (vmod d.fc.src x fun _ =>
      { vget d.fc.src x with
          latched := (vget d.fc.src x).latched ||| scopeBit c, count := satAdd 32 (vget d.fc.src x).count 1
          lastForced := setBit (vget d.fc.src x).lastForced c.val i.forced }) k with
      lastMerged := (vget (d.occur x c i).fc.src k).lastMerged } := by
    intro k
    simp only [Dev.occur, h]
    repeat' split
    all_goals simp only [Dev.react_src]
    all_goals first
      | exact Collector.takeOcc_src _ _ k
      | (by_cases hk : k = x
         · subst hk; simp only [vget_vmod]
         · simp only [vget_vmod_ne _ _ _ _ hk])
  refine ⟨?_, ?_, fun k hk => ?_⟩
  · rw [key x]; simp only [vget_vmod]
  · rw [key x]; simp only [vget_vmod]
  · rw [key k]; simp only [vget_vmod_ne _ _ _ _ hk]
theorem Dev.occur_latch_fault (d : Dev) (fc : Collector) (b : Bool) (z : List FaultRec) :
    Dev.FaultOnly d { d with fc := fc, rst := if b then { d.rst with bootFaults := z } else d.rst } := by
  cases b <;> exact rfl
theorem Dev.occur_fault (d : Dev) (x : Source) (c : Scope) (i : FaultInfo) : Dev.FaultOnly d (d.occur x c i) := by
  simp only [Dev.occur]
  split
  · exact .refl _
  · split
    · exact (d.occur_latch_fault _ _ _).trans (Dev.react_fault _ _ _ _ _)
    · exact d.occur_latch_fault _ _ _
theorem Dev.raiseTrans_fault (d : Dev) (x : Source) (o : Option Tenant) (k m a c : Nat) : Dev.FaultOnly d (d.raiseTrans x o k m a c) :=
  d.occur_fault _ _ _
theorem Dev.condRise_fault (d : Dev) (x : Source) (c : Scope) (a : Nat) (l : List Chan) : Dev.FaultOnly d (d.condRise x c a l) := by
  simp only [Dev.condRise]
  repeat' split
  · exact .refl _
  · rfl
  · rfl
  · exact Dev.FaultOnly.trans (e := { d with fc := _ }) rfl (Dev.occur_fault _ _ _ _)
theorem Dev.condFall_fault (d : Dev) (x : Source) (c : Scope) : Dev.FaultOnly d (d.condFall x c) := rfl
theorem Dev.raiseDev_fault (d : Dev) (x : Source) : Dev.FaultOnly d (d.raiseDev x) := (d.condRise_fault _ _ _ _).trans rfl
theorem Dev.occurAt_fault (d : Dev) (row : FaultRow) (x : Source) (r : Resource) : Dev.FaultOnly d (d.occurAt row x r) :=
  Dev.FaultOnly.foldl _ (fun d _ => d.occur_fault _ _ _) _ d
theorem Dev.faultCondition_fault (d : Dev) (x : Source) (r : Resource) : Dev.FaultOnly d (d.faultCondition x r) := by
  simp only [Dev.faultCondition]
  repeat' split
  all_goals first
    | rfl
    | exact Dev.FaultOnly.trans (e := { d with fc := _ }) rfl (Dev.occurAt_fault _ _ _ _)
theorem Dev.faultConditionFalls_fault (d : Dev) (x : Source) (r : Resource) : Dev.FaultOnly d (d.faultConditionFalls x r) := by
  simp only [Dev.faultConditionFalls]
  split <;> rfl

end Sys2Proof.Machine
end

