-- ==== Sys2Proof/Laws/Single.lean ====
section
/-! SUPPORT. What a single write of an entry can do. -/
namespace Sys2Proof.Machine

/-- A served requester meets a device that is Ready and in Stair 0. -/
theorem Dev.served_ok (d : Dev) (r : Req) (h : d.served r = stOK) : d.rst.phase = 8 ∧ d.stairs.now = 0 := by
  unfold Dev.served at h
  by_cases h1 : d.rst.phase = 8
  · by_cases h2 : d.stairs.now = 0
    · exact ⟨h1, h2⟩
    · simp [h1, h2, stOK, stWaking] at h
  · simp [h1, stOK, stBringup] at h

/-- An accepted write meets a device that is Ready and in Stair 0. -/
theorem State.accepts_now {s : State} {r : Req} {ix sub : Nat} {v : Bytes} (h : s.accepts r ix sub v) :
    s.dev.rst.phase = 8 ∧ s.dev.stairs.now = 0 := s.dev.served_ok r h.1

/-- An accepted write of an entry that no shadow holds has the entry's effect and is answered with its status, where the answer
does not wait for the end of the tick. -/
theorem State.single_answered {s : State} {r : Req} {ix sub : Nat} {v : Bytes} {e : EntryRow} (h : s.accepts r ix sub v)
    (hl : lookupEntry ix sub = some e) (ha : e.acc ≠ .rwc) (hn : (s.dev.act r ix sub v).1.stairs.now = 0)
    (hp : (s.dev.act r ix sub v).2 ≠ stPending) :
    s.single r ix sub v = .next (s.answered r ix sub (s.dev.act r ix sub v).2 fun d => (d.act r ix sub v).1) := by
  obtain ⟨h1, h2⟩ := h
  simp only [State.single, State.writeEntry, h1, Dev.writeItem, h2, hl, ha, ne_eq, not_true_eq_false, if_false,
    State.answered, State.withDev]
  have hq : ((s.dev.act r ix sub v).2 == stPending) = false := by simpa using hp
  simp only [Dev.answerOrHold, List.any_cons, List.any_nil, hq, Bool.or_self, Bool.false_eq_true, if_false, Dev.answerItems,
    State.settle, Dev.send, List.foldl_cons, List.foldl_nil, hn, ne_eq, not_true_eq_false, decide_false, Bool.false_and]

end Sys2Proof.Machine
end

