-- ==== Sys2Proof/Tests/Slice0.lean ====
section
/-! SUPPORT. The model's own tests: an ill-formed command for each check of WellFormed, a witness for the hypotheses of each
statement, and small tests whose results the spec gives. -/
namespace Sys2Proof.Tests
open Sys2Proof Sys2Proof.Machine
set_option Elab.async false

/-! ### Small states -/

/-- A device that has come up: Ready, its fast clocks running, every entry at its default. -/
def ready : Dev := { State.reset.dev with rst := { phase := 8 }, tb := { State.reset.dev.tb with fast := true } }

/-- A state with the device changed. -/
def on (f : Dev → Dev) : State := { State.reset with dev := f ready }

/-- A device with entries in force. -/
def withCfg (l : List (Nat × Nat × Bytes)) (d : Dev) : Dev :=
  { d with dict := { d.dict with cfg := l.foldl (fun c p => c.set p.1 p.2.1 p.2.2) d.dict.cfg } }

/-- Every bank of the stacked memory is tenant 0's. -/
def withBanks (d : Dev) : Dev := { d with arb := { d.arb with bankOwner := Vector.replicate 64 0 } }

/-- A sequencer in state RUNNING with an image of 16 control words and full slack. -/
def run0 : Seq := { state := .running, ctrlWords := 16, dataWords := 8, slack := 64 * finePerTick }

/-- Tenant 0 runs a sequencer. -/
def runs (f : Seq → Seq) : State := on fun d => (withBanks d).modSeq 0 fun _ => f run0

/-- A field of the next state that a command answers. -/
def after {α : Type} (c : Instr) (s : State) (f : State → α) : Option α :=
  match exec c s with
  | .next t => some (f t)
  | _ => none

/-- A test of `State.noneDue`. -/
def calm (s : State) : Bool :=
  let d := s.dev
  (allTenants.all fun t =>
    (vget d.acq t).tickTrigs.isEmpty && (match (vget d.acq t).trig with | some p => !p.recDue | none => true) &&
    (vget d.gallery t).queue.isEmpty && (vget d.micro.engines (tenantEngine t)).ctrlReq.isNone) &&
  d.retireFaults.isEmpty && d.retireCmds.isEmpty && d.heldAnswers.isEmpty && d.flagOps.isEmpty && d.tickEvents.isEmpty &&
  d.tickRecs.isEmpty && d.micro.outs.isEmpty && !d.heater.frozen

theorem noneDue_of (s : State) (h : calm s = true) : s.noneDue := by
  simp only [calm, Bool.and_eq_true, List.all_eq_true, List.isEmpty_iff, Bool.not_eq_true', Option.isNone_iff_eq_none] at h
  obtain ⟨⟨⟨⟨⟨⟨⟨⟨h1, h2⟩, h3⟩, h4⟩, h5⟩, h6⟩, h7⟩, h8⟩, h9⟩ := h
  refine ⟨fun t => ?_, h2, h3, h4, h5, h6, h7, h8, h9⟩
  obtain ⟨⟨⟨a, b⟩, c⟩, e⟩ := h1 t (by fin_cases t <;> decide)
  exact ⟨a, fun p hp => by simpa [hp] using b, c, e⟩

/-- A test of `State.settled`. -/
def still (s : State) : Bool := calm s && allTenants.all fun t => (s.dev.seq t).wait.isNone && (s.dev.seq t).stall == 0

theorem settled_of (s : State) (h : still s = true) : s.settled := by
  simp only [still, Bool.and_eq_true, List.all_eq_true, Option.isNone_iff_eq_none, beq_iff_eq] at h
  exact ⟨noneDue_of s h.1, fun t => h.2 t (by fin_cases t <;> decide)⟩

/-! ### Ill-formed commands -/

/-- A frame with every field in its width. -/
def frame0 : Frame := { port := 0 }

theorem wf_frame : frame0.wf = true ∧ ({ frame0 with version := 256 } : Frame).wf = false ∧
    ({ frame0 with flags := 256 } : Frame).wf = false ∧ ({ frame0 with tenant := 256 } : Frame).wf = false ∧
    ({ frame0 with credential := 2 ^ 64 } : Frame).wf = false ∧ ({ frame0 with session := 65536 } : Frame).wf = false ∧
    ({ frame0 with itemCount := 65536 } : Frame).wf = false ∧ ({ frame0 with sequence := 2 ^ 32 } : Frame).wf = false ∧
    ({ frame0 with status := 256 } : Frame).wf = false ∧ ({ frame0 with detail := 256 } : Frame).wf = false ∧
    ({ frame0 with reserved := 65536 } : Frame).wf = false := by decide

theorem wf_vdm : ({ tag := 7, iana := 1 } : Vdm).wf = true ∧ ({ tag := 8, iana := 1 } : Vdm).wf = false ∧
    ({ tag := 0, iana := 2 ^ 32 } : Vdm).wf = false ∧ ({ tag := 0, iana := 0, reserved := 2 ^ 32 } : Vdm).wf = false ∧
    ({ tag := 0, iana := 0, count := 65536 } : Vdm).wf = false := by decide

theorem wf_ptp : (PtpMsg.announce 0 0 0 false 0).wf = false ∧ (PtpMsg.announce 0 0 0 false 10).wf = false ∧
    (PtpMsg.announce (2 ^ 64) 0 0 false 9).wf = false ∧ (PtpMsg.announce 0 65536 0 false 9).wf = false ∧
    (PtpMsg.announce 0 0 32768 false 9).wf = false ∧ (Instr.ptpMessage 0 0 256 .unsupported).wf = false ∧
    (Instr.esmcMessage 0 16).wf = false := by decide

theorem wf_fetch : ({ ecc := 3 } : MicroFetch).wf = false ∧ ({ ecc := 2 } : MicroFetch).wf = true := by decide

theorem wf_words : (Instr.next 0 256 0 0).wf = false ∧ (Instr.next 0 0 65536 0).wf = false ∧ (Instr.next 0 0 0 (2 ^ 32)).wf = false ∧
    (Instr.halt 0 0 0 (2 ^ 32)).wf = false ∧ (Instr.illegalOpcode 0 256).wf = false ∧ (Instr.streamGap 0 0 0).wf = false ∧
    (Instr.streamGap 0 256 1).wf = false ∧ (Instr.next 0 1 0 0).wf = false ∧ (Instr.nextRaw 0 0 1 0).wf = false ∧
    (Instr.signalClear 0 0 0 0).wf = false ∧ (Instr.trigoutHigh 0 0 1 0).wf = false ∧ (Instr.cntClr 0 0 0 0).wf = false ∧
    (Instr.eventInput 0 256 0).wf = false := by decide

theorem wf_values : (Instr.todSet .mgmt []).wf = false ∧ (Instr.chRetire .mgmt 0 []).wf = false ∧ (Instr.chReadmit .mgmt 0 []).wf = false ∧
    (Instr.tfSet .mgmt 0 [1]).wf = false ∧ (Instr.gfClear .mgmt 0 [1]).wf = false ∧ (Instr.eiInject .mgmt 0 0 []).wf = false ∧
    (Instr.engineReset .mgmt 0 []).wf = false ∧ (Instr.acqForce .mgmt 0 []).wf = false ∧ (Instr.stairReq .mgmt []).wf = false ∧
    (Instr.watchdogKick .mgmt []).wf = false ∧ (Instr.watchdogTimeout .mgmt [1]).wf = false ∧ (Instr.blockReset .mgmt 256 [1]).wf = false ∧
    (Instr.faultForce .mgmt 0 [1]).wf = false ∧ (Instr.fcClear .mgmt 0xFF).wf = false ∧ (Instr.drvOverload 0 (2 ^ 32)).wf = false := by
  decide

theorem wf_codes : (Instr.calReqSelfCal .mgmt (2 :: zeros 15)).wf = false ∧ (Instr.calReqRefTransfer .mgmt (1 :: zeros 15)).wf = false ∧
    (Instr.calReqAbort .mgmt (1 :: zeros 15)).wf = false ∧ (Instr.saveSets .mgmt (2 :: zeros 7)).wf = false ∧
    (Instr.restoreLab .mgmt (1 :: zeros 7)).wf = false ∧ (Instr.restoreFactory .mgmt (1 :: zeros 7)).wf = false ∧
    (Instr.writeTrace .mgmt (1 :: zeros 7)).wf = false ∧ (Instr.commitNext (.smbus { tag := 0, iana := 0, area := [1] })).wf = false ∧
    (Instr.commitAtIdle (.smbus { tag := 0, iana := 0, area := [0] })).wf = false := by decide

theorem wf_ports : (Instr.linkUp 0 3).wf = false ∧ (Instr.arpRequest 0 (2 ^ 32) 0 false).wf = false ∧
    (Instr.neighborDiscovery 0 (2 ^ 128)).wf = false ∧ (Instr.echoRequest 0 true (2 ^ 128) []).wf = false ∧
    (Instr.bar2Write 0 0 [] false).wf = false ∧ (Instr.ringProd 0 (2 ^ 32)).wf = false ∧ (Instr.evqHead 0 0 (2 ^ 32)).wf = false ∧
    (Instr.dmaProd 0 (2 ^ 32)).wf = false ∧ (Instr.bar0Write 0 0 0 0 false).wf = false ∧ (Instr.bar0Write 0 0 1 256 false).wf = false ∧
    (Instr.odpKey 0 1 1 [0]).wf = false ∧ (Instr.flashUpdate .mgmt 1 1 [0]).wf = false ∧ (Instr.pcieLinkReachesL0 0 1).wf = false ∧
    (Instr.pcieLinkReachesL0 1 0).wf = false := by decide

theorem wf_mctp : (Instr.setEndpointId 8 0 0).wf = false ∧ (Instr.getEndpointId 8).wf = false ∧ (Instr.getSensorReading 0 65536).wf = false ∧
    (Instr.getPdr 0 (2 ^ 32)).wf = false ∧ (Instr.getPldmVersion 0 256).wf = false ∧
    (Instr.mctpUnsupportedCommand 0 0 512).wf = false := by decide

/-! ### Witnesses: the block and the pattern instructions -/

theorem step_idle (s : State) (h : s.pending = []) : step s = .next s.tick := by unfold step; rw [h]

theorem witness_StepKeepsInvariant : ∃ t, State.reset.Inv ∧ step State.reset = .next t :=
  ⟨_, by unfold State.Inv; decide +kernel, step_idle _ (by rfl)⟩

theorem witness_IdleStep :
    ((on id).pending = [] ∧ (on id).settled ∧ (on id).dev.tb.fast = true ∧ (on id).dev.ticksLeft ≠ 1 ∧ (on id).dev.tb.tick + 1 < 2 ^ 64 ∧
      (on id).dev.tb.slew = 0) ∧
    (State.reset.pending = [] ∧ State.reset.settled ∧ State.reset.dev.tb.fast = false) :=
  ⟨⟨rfl, settled_of _ (by decide +kernel), by decide +kernel⟩, ⟨rfl, settled_of _ (by decide +kernel), rfl⟩⟩

/-- Stairs 0, 1 and 3, bring-up, the stopped clocks, and a COMMIT AT_IDLE whose count ends. -/
theorem witness_FrameEdgeOrder :
    ((on id).settled ∧ (on id).dev.tb.fast = true ∧ (on id).dev.rst.phase = 8 ∧ (on id).dev.tb.tick + 1024 < 2 ^ 64 ∧
      (on id).dev.stairs.now = 0) ∧
    (∀ n ∈ [1, 3], (on fun d => { d with stairs := { d.stairs with now := n } }).dev.stairs.now = n) ∧
    State.reset.dev.tb.fast = false ∧ (on fun d => { d with rst := { d.rst with phase := 7 } }).dev.rst.phase ≠ 8 ∧
    (∃ c ∈ (on fun d => { d with dict := { d.dict with commits := [{ req := .mgmt, entries := [], atIdle := true, framesLeft := 1
                                                                     reply := .none }] } }).dev.dict.commits,
      c.atIdle = true ∧ c.framesLeft ≤ 1) :=
  ⟨⟨settled_of _ (by decide +kernel), by decide +kernel⟩, by decide +kernel, rfl, by decide, by decide +kernel⟩

/-- The hypotheses of the instruction statements: tenant 0 runs, with slack. -/
theorem fetches0 (f : Seq → Seq) (h : (f run0).state = .running ∧ (f run0).halt = none ∧ (f run0).matching = none ∧
    (f run0).pc < (f run0).ctrlWords := by decide) : (runs f).dev.fetches 0 := by
  refine ⟨h.1, h.2.1, h.2.2.1, ?_, h.2.2.2, ?_⟩
  · show Dev.engineStopped _ _ = false
    rfl
  · rfl

theorem slack0 (f : Seq → Seq) (n : Nat) (h : n * finePerTick ≤ (f run0).slack := by decide) : (runs f).dev.slackFor 0 n := h

/-- Time stands at a tick or past it. -/
theorem reach_now (s : State) (k : Nat) (h : k ≤ s.dev.tb.tick) : s.reach k = some s := by
  unfold State.reach; rw [if_pos h]

theorem witness_CounterInstructions : (runs id).dev.fetches 0 ∧ (runs id).dev.slackFor 0 1 := ⟨fetches0 id, slack0 id 1⟩

theorem witness_LoopAndCallInstructions :
    (runs id).dev.fetches 0 ∧ (runs id).dev.slackFor 0 2 ∧ ((runs id).dev.seq 0).loops.length < 8 ∧
    ((runs id).dev.seq 0).calls.length < 16 ∧ 15 < ((runs id).dev.seq 0).ctrlWords ∧
    (let s := runs fun q => { q with loops := [(3, 2)], calls := [5] };
      s.dev.fetches 0 ∧ s.dev.slackFor 0 2 ∧ (s.dev.seq 0).loops = [(3, 2)] ∧ (s.dev.seq 0).calls = [5]) ∧
    (let s := runs fun q => { q with loops := [(3, 1)] };
      s.dev.fetches 0 ∧ s.dev.slackFor 0 1 ∧ (s.dev.seq 0).loops = [(3, 1)]) :=
  ⟨fetches0 id, slack0 id 2, by decide, by decide, by decide,
    ⟨fetches0 _, slack0 _ 2, rfl, rfl⟩, ⟨fetches0 _, slack0 _ 1, rfl⟩⟩

/-- The grant of every device-wide flag, and its lock. -/
def granted (d : Dev) : Dev :=
  let d1 := withCfg [(0x2020, 0, [0xFF, 0xFF, 0xFF, 0xFF]), (0x202C, 0, [15]), (0x1100, 0, [1])] d;
  { d1 with mgmt := { d1.mgmt with locks := Vector.replicate 34 { holder := some (.tenant 0) } } }

/-- A state in which tenant 0 runs with its grants. -/
def runsGranted : State := on fun d => granted ((withBanks d).modSeq 0 fun _ => run0)

theorem fetchesGranted : runsGranted.dev.fetches 0 := by unfold Dev.fetches; decide +kernel

theorem witness_JumpInstruction : runsGranted.dev.fetches 0 ∧ runsGranted.dev.slackFor 0 2 ∧ 15 < (runsGranted.dev.seq 0).ctrlWords ∧
    ∀ n : Fin 32, runsGranted.dev.gfGrant 0 n.val = true :=
  ⟨fetchesGranted, by unfold Dev.slackFor; decide +kernel, by decide +kernel, by decide +kernel⟩

theorem witness_SequencerErrors :
    ((Instr.loop 3 1 0x1234 9).wf = true ∧ ctrlOf (.loop 3 1 0x1234 9) = some (3, 0x0301123400000009)) ∧
    (runs id).dev.fetches 0 ∧ ((runs id).dev.seq 0).loops = [] ∧ ((runs id).dev.seq 0).calls = [] ∧
    ((runs id).dev.seq 0).ctrlWords ≤ 16 ∧ (∀ n : Fin 32, (runs id).dev.gfGrant 0 n.val = false) ∧
    (let s := runs fun q => { q with loops := List.replicate 8 (0, 2), calls := List.replicate 16 0, slack := 8191 };
      s.dev.fetches 0 ∧ 8 ≤ (s.dev.seq 0).loops.length ∧ 16 ≤ (s.dev.seq 0).calls.length ∧ (s.dev.seq 0).slack < finePerTick) :=
  ⟨by decide, fetches0 id, rfl, rfl, by decide, by decide +kernel, ⟨fetches0 _, by decide, by decide, by decide⟩⟩

/-- Tenant 0 runs with one byte group, so that a record lies within its data. -/
def runsData : State := runs fun q => { q with groups := [⟨0, by decide⟩] }

theorem witness_VectorInstructions :
    runsData.dev.fetches 0 ∧ runsData.dev.slackFor 0 1 ∧
    (let q := runsData.dev.seq 0;
      q.streamLeft = 0 ∧ q.fifoCount < 64 ∧ runsData.dev.dict.cfg.tsEnabled 0 q.tset = true ∧
      (0 + 1) * 16 * q.groups.length ≤ q.dataWords * 64 ∧
      runsData.dev.areaRead runsData.mem 0 0 (q.dataOffset + 2 * q.groups.length * 0) (2 * q.groups.length) = some [0, 0] ∧
      (recordCodes q.groups [0, 0]).any (fun c => c.2 == 15) = false) :=
  ⟨fetches0 _, slack0 _ 1, by decide +kernel⟩

theorem witness_StreamInstructions :
    runsData.dev.fetches 0 ∧ runsData.dev.slackFor 0 1 ∧
    (let q := runsData.dev.seq 0;
      q.streamLeft = 0 ∧ q.fifoCount < 64 ∧ runsData.dev.dict.cfg.tsEnabled 0 q.tset = true ∧
      0 + 1 * (runsData.dev.rawPins 0 q.tset).length ≤ q.dataWords ∧
      runsData.dev.poisoned (fun i => runsData.dev.areaAddr 0 0 (q.dataOffset + 8 * 0 + i))
        (8 * (1 * (runsData.dev.rawPins 0 q.tset).length)) = none) ∧
    (∀ gap : Bool, let s := runs fun q => { q with groups := [⟨0, by decide⟩], streamLeft := 1, streamGap := gap };
      s.dev.fetches 0 ∧ s.dev.slackFor 0 1 ∧ (s.dev.seq 0).streamLeft ≠ 0 ∧ (s.dev.seq 0).streamGap = gap ∧
      s.dev.dict.cfg.tsEnabled 0 (s.dev.seq 0).tset = true ∧ 0 < s.dev.ringNeed 0 0 ∧ s.dev.ringLevel 0 / s.dev.ringNeed 0 0 = 0) ∧
    (let s := on fun d => withCfg [(0x1102, 0, [0]), (0x4000, 0, [6])] ((withBanks d).modSeq 0 fun _ => { run0 with streamLeft := 1 });
      s.dev.ringLevel 0 / s.dev.ringNeed 0 1 = 0) :=
  ⟨fetches0 _, slack0 _ 1, by decide +kernel,
    fun gap => ⟨fetches0 _ ⟨rfl, rfl, rfl, by show 0 < 16; decide⟩, slack0 _ 1 (by cases gap <;> decide), by cases gap <;> decide +kernel⟩, by decide +kernel⟩

/-- A MATCH-LOOP of one instruction with two passes, its pass over. -/
def match0 : Match := { bodyPc := 1, len := 1, passes := 2, left := 0, event := false, err := false, input := 0 }

theorem witness_MatchLoopInstruction :
    ((runs id).dev.fetches 0 ∧ (runs id).dev.slackFor 0 1 ∧ ((runs id).dev.seq 0).pc + 15 < ((runs id).dev.seq 0).ctrlWords) ∧
    (∀ m ∈ [match0, { match0 with failed := true }, { match0 with failed := true, passes := 1 },
        { match0 with failed := true, passes := 1, err := true }, { match0 with event := true }],
      let s := runs fun q => { q with state := .matching, matching := some m, ei := vmod q.ei 0 fun e => { e with count := 1 } };
      s.reach ((s.dev.seq 0).closed / finePerTick) = some s ∧ (s.dev.seq 0).matching = some m ∧ m.left = 0 ∧
      (s.dev.seq 0).fifo = [] ∧ (s.dev.seq 0).compares = [] ∧ m.input = (0 : Fin 8).val ∧
      ((if m.event then decide (1 ≤ (vget (s.dev.seq 0).ei 0).count) else !m.failed) = true ↔ m.failed = false)) :=
  ⟨⟨fetches0 id, slack0 id 1, by decide⟩, fun m hm => ⟨reach_now _ _ (by show 0 / finePerTick ≤ 0; decide), by revert m; decide⟩⟩

/-- Tenant 0 waits with a flag of each kind set and one event. -/
def waits (w : Wait) : State := on fun d =>
  { granted ((withBanks d).modSeq 0 fun _ =>
      { run0 with state := .waiting, tf := 1, ei := vmod run0.ei 0 fun e => { e with count := 1 }, wait := some w }) with gf := 1 }

theorem witness_WaitInstruction :
    (runsGranted.dev.fetches 0 ∧ runsGranted.dev.slackFor 0 1 ∧ ∀ n : Fin 32, runsGranted.dev.gfGrant 0 n.val = true) ∧
    (∀ sel ∈ [0x1000, 0x2000, 0x3000, 0x1001], ∀ fresh : Bool,
      let w : Wait := { sel := sel, clear := false, err := false, timeout := 1, fresh := fresh }
      ((waits w).dev.seq 0).wait = some w ∧ (waits w).noneDue ∧ (∀ v : Tenant, v ≠ 0 → (waits w).dev.noWait v) ∧
      (waits w).dev.engineStopped 0 = false ∧ (waits w).dev.tb.fast = true ∧ (waits w).dev.ticksLeft ≠ 1 ∧
      ((waits w).dev.waitHolds 0 sel = true ↔ sel ≠ 0x1001)) ∧
    (∀ err : Bool, ∃ s : State, ∃ w : Wait,
      s = (on fun d => { (waits { sel := 0x1000, clear := false, err := err, timeout := 1 }).dev with tb := { d.tb with tick := 1 } }) ∧
      (s.dev.seq 0).wait.bind Wait.expiry = some 1 ∧ s.reach 1 = some s ∧ (s.dev.seq 0).wait = some w ∧ w.timeout ≠ 0 ∧
      w.since + w.timeout ≤ s.dev.tb.tick ∧ w.err = err) := by
  refine ⟨⟨fetchesGranted, by unfold Dev.slackFor; decide +kernel, by decide +kernel⟩, fun sel h fresh => ?_, fun err => ?_⟩
  · refine ⟨rfl, noneDue_of _ ?_, ?_, ?_⟩
    · revert fresh sel; decide +kernel
    · unfold Dev.noWait; revert fresh sel; decide +kernel
    · revert fresh sel; decide +kernel
  · exact ⟨_, _, rfl, rfl, reach_now _ _ (Nat.le_refl 1), rfl, Nat.one_ne_zero, Nat.le_refl 1, rfl⟩

theorem witness_SignalInstructions : runsGranted.dev.fetches 0 ∧ runsGranted.dev.slackFor 0 1 ∧ runsGranted.dev.flagOps = [] ∧
    (∀ n : Fin 32, runsGranted.dev.gfGrant 0 n.val = true ∧ runsGranted.dev.gfHolder n.val = some (.tenant 0)) ∧
    (∀ k ∈ [0, 1], let o : FlagOp := { sender := none, tf := some 0, n := 0, op := k, fine := 0 }
      let s := on fun d => { (withBanks d).modSeq 0 (fun _ => run0) with flagOps := [o] }
      s.dev.fetches 0 ∧ s.dev.slackFor 0 1 ∧ s.dev.flagOps = [o] ∧ o.op < 2) := by
  refine ⟨fetchesGranted, by unfold Dev.slackFor; decide +kernel, by decide +kernel, by decide +kernel, fun k hk => ⟨?_, ?_, rfl, ?_⟩⟩
  · unfold Dev.fetches; revert k; decide +kernel
  · unfold Dev.slackFor; revert k; decide +kernel
  · revert k; decide

theorem witness_AlignedInstructions : runsGranted.dev.fetches 0 ∧ runsGranted.dev.slackFor 0 1 ∧
    runsGranted.dev.dict.cfg.tsEnabled 0 0 = true ∧
    ∀ n : Fin 4, (15 : Fin 32).val.testBit n.val = true → runsGranted.dev.dict.cfg.trigGrant 0 n.val = true :=
  ⟨fetchesGranted, by unfold Dev.slackFor; decide +kernel, by decide +kernel, by decide +kernel⟩

/-- The last word of scratch; a load that no store, and one that a store overlaps. -/
theorem witness_ScratchInstructions :
    (let s := runs id;
      s.dev.fetches 0 ∧ s.dev.slackFor 0 5 ∧ (s.dev.seq 0).stores.length < 4 ∧ 0xFFC % 2 ^ 2 = 0 ∧ 0xFFC + 2 ^ 2 ≤ 0x1000 ∧
      s.dev.arb.poison.contains (scratchWord 0 0xFFC) = false) ∧
    (let s := runs fun q => { q with stores := [{ addr := 8, data := [1, 2, 3, 4] }] };
      s.dev.fetches 0 ∧ s.dev.slackFor 0 5 ∧ s.dev.arb.poison.contains (scratchWord 0 12) = false ∧
      (∀ w ∈ (s.dev.seq 0).stores, overlaps 12 4 w.addr w.data.length = false) ∧
      ∃ w, (s.dev.seq 0).stores = [] ++ [w] ∧ w.addr ≤ 8 ∧ 8 + 4 ≤ w.addr + w.data.length) ∧
    (∀ n ∈ [4, 8], ∃ w rest, ∃ s : State, s = (runs fun q => { q with stores := List.replicate 4 { addr := 8, data := zeros n } }) ∧
      s.dev.fetches 0 ∧ s.dev.slackFor 0 2 ∧ (s.dev.seq 0).stores = w :: rest ∧ rest.length = 3 ∧ (w.data.length = 8 ↔ n = 8)) :=
  ⟨⟨fetches0 id, slack0 id 5, by decide, by decide, by decide, rfl⟩, ⟨fetches0 _, slack0 _ 5, rfl, by decide, ⟨_, rfl, by decide⟩⟩,
    fun n hn => ⟨_, _, _, rfl, fetches0 _ ⟨rfl, rfl, rfl, by show 0 < 16; decide⟩, slack0 _ 2 (by show 2 * finePerTick ≤ 64 * finePerTick; decide), rfl, rfl, by revert n; decide⟩⟩

theorem witness_SyncAndHalt :
    ((runs id).dev.fetches 0 ∧ (runs id).dev.slackFor 0 1) ∧
    (∀ f ∈ [fun q : Seq => { q with state := .syncing, sync := some true }, fun q => { q with halt := some 7 }],
      (runs f).dev.doneTick 0 = some 0 ∧ (runs f).reach 0 = some (runs f) ∧ ((runs f).dev.seq 0).drained = true ∧
      ((runs f).dev.seq 0).drainTick ≤ (runs f).dev.tb.tick) ∧
    ((runs fun q => { q with state := .syncing, sync := some true }).dev.seq 0).sync = some true ∧
    ((runs fun q => { q with halt := some 7 }).dev.seq 0).halt = some 7 ∧ (runs fun q => { q with halt := some 7 }).dev.atEdge = false := by
  refine ⟨⟨fetches0 id, slack0 id 1⟩, fun f hf => ?_, rfl, rfl, rfl⟩
  simp only [List.mem_cons, List.not_mem_nil, or_false] at hf
  rcases hf with rfl | rfl
  · exact ⟨by decide, reach_now _ _ (Nat.zero_le _), by decide, by decide⟩
  · exact ⟨by decide, reach_now _ _ (Nat.zero_le _), by decide, by decide⟩

/-- A source of lines that its tenant arms, one that had its event, and an edge of a flag with and without the grant. -/
theorem witness_EventInputs :
    bit ((on fun d => withCfg [(0x5101, 7, [8])] d).dev.dict.cfg.nat 0x5101 7) 3 = true ∧
    (on fun d => { d with tickEvents := [(0, 5)] }).dev.hadEvent 0 5 = true ∧ (runs id).dev.hadEvent 0 5 = false ∧
    runsGranted.dev.gfGrant 0 (63 - 32) = true ∧ (runs id).dev.gfGrant 0 (63 - 32) = false ∧
    (on fun d => withCfg [(0x5101, 7, [8])] d).dev.hadEvent 0 3 = false := by decide +kernel

/-- A WAIT on a flag without timeout stalls; under HALT and under REPORT. -/
def stalled0 (code : Byte) : State := on fun d => withCfg [(0x2010, 3, [code])] (d.modSeq 0 fun _ =>
  { run0 with state := .waiting, wait := some { sel := 0x1000, clear := false, err := false, timeout := 0 }, stall := 4095 })

theorem witness_DeadlockDeclared : (∀ k ∈ [0, 1],
    (stalled0 k).dev.deadlockTick 0 = some 1 ∧ (stalled0 k).dev.stalled 0 = true ∧ ((stalled0 k).dev.seq 0).declared = false ∧
    (stalled0 k).dev.dict.cfg.nat 0x2010 3 = k.toNat) ∧
    ∀ n ∈ [4095, 5000], let w : Wait := { sel := 0x1000, clear := false, err := false, timeout := 0 };
      let s := on fun d => { d.modSeq 0 (fun _ => { run0 with state := .waiting, stall := n, wait := some w }) with
        tb := { d.tb with tick := 1 } };
      s.dev.deadlockTick 0 = some (1 + (4096 - n)) ∧ s.dev.stalled 0 = true ∧ (s.dev.seq 0).declared = false ∧
      4096 ≤ (s.dev.seq 0).stall + 1 := by decide +kernel

/-! ### Witnesses: the time base and the channels -/

/-- A state with the time base changed. -/
def onTb (f : TimeBase → TimeBase) : State := on fun d => { d with tb := f d.tb }

/-- A run of agreeing counts, each source lost while it serves, a port with its link, a Quality Level above the limit, and the
core PLL unlocked with and without a source. -/
theorem witness_FrequencyInputs :
    ((on id).dev.dict.cfg.nat 0x1410 1 = 0 ∧ (onTb fun b => { b with refinCount := 10000, refinRun := 9 }).dev.tb.refinRun = 9 ∧
      (on fun d => withCfg [(0x1410, 1, [2])] d).dev.dict.cfg.nat 0x1410 1 = 2) ∧
    (0 : Fin 2).val = (on id).dev.dict.cfg.nat 0x1290 1 ∧ (1 : Fin 2).val ≠ (on id).dev.dict.cfg.nat 0x1290 1 ∧
    ((onTb fun b => { b with synceQual := true }).dev.tb.synceQual = true ∧ (on id).dev.dict.cfg.nat 0x1290 2 < 15) ∧
    (let s := on fun d => { d with tb := { d.tb with synceQl := 2 }
                                   odp := { d.odp with port := vmod d.odp.port 0 fun p => { p with link := true } } };
      (s.dev.portOf (s.dev.dict.cfg.nat 0x1290 1)).link = true ∧ s.dev.tb.synceQl ≤ s.dev.dict.cfg.nat 0x1290 2) ∧
    ((on id).dev.portOf ((on id).dev.dict.cfg.nat 0x1290 1)).link = false ∧
    ((onTb fun b => { b with refinQual := true }).endTick.dev.freqPick ≠ 0 ∧ (on id).endTick.dev.freqPick = 0 ∧
      (vget (onTb fun b => { b with refinQual := true }).endTick.dev.fc.src 21).cond.getLsbD 8 = false ∧
      (onTb fun b => { b with refinQual := true }).endTick.dev.fc.wires.getLsbD 21 = false ∧
      (onTb fun b => { b with refinQual := true }).endTick.dev.latches 21 = true) := by
  refine ⟨by decide +kernel, by decide +kernel, by decide +kernel, by decide +kernel, by decide +kernel, by decide +kernel,
    by decide +kernel⟩

/-- A pulse that qualifies, one that takes a TOD_SET value, and offsets of a slew and a step. -/
theorem witness_TimeOfDayInputs :
    (let s := onTb fun b => { b with tick := 1750000000, ppsTick := some 0, ppsRun := 2 };
      s.dev.rst.phase = 8 ∧ s.dev.tb.fast = true ∧ s.dev.tb.ppsTick = some 0 ∧ s.dev.tb.ppsRun = 2 ∧
      s.dev.dict.cfg.nat 0x1410 4 ≠ 1 ∧
      0 + 1749998250 * 8192 ≤ s.dev.tb.tick * 8192 + 0 ∧ s.dev.tb.tick * 8192 + 0 ≤ 0 + 1750001750 * 8192) ∧
    (onTb fun b => { b with todSet := some ({}, true) }).dev.tb.todSet = some ({}, true) ∧
    (∀ o ∈ [(-5 : Int), -2000000],
      let s := onTb fun b => { b with ppsQual := true, todActive := 1, devFine := ((14336000000000 : Int) - o).toNat };
      let marked : Int := (s.dev.tb.devFine + 0 : Nat) - s.dev.dict.cfg.int 0x1410 5
      s.dev.tb.todSet = none ∧ s.dev.tb.todActive = 1 ∧ s.dev.tb.todBelow ≠ 1 ∧ s.dev.dict.cfg.nat 0x1410 3 = 0 ∧
      s.dev.tb.ppsQual = true ∧ 0 ≤ marked ∧ marked + o = 1 * 14336000000000 ∧ 2 * o.natAbs < 14336000000000 ∧
      ((s.dev.dict.cfg.int 0x1410 6).natAbs < o.natAbs ↔ o = -2000000)) ∧
    ((onTb fun b => { b with ptpState := 6 }).dev.tb.ptpState = 6 ∧ (on id).dev.tb.ptpState ≠ 6) ∧
    (let s := on fun d => withCfg [(0x1280, 1, [1]), (0x1280, 3, [7])] { d with tb := { d.tb with ptpState := 9, ptpRun := 15 } };
      s.dev.dict.cfg.nat 0x1280 1 = 1 ∧ (0 : Fin 2).val = s.dev.dict.cfg.nat 0x1280 2 ∧
      (0 : Fin 3).val = s.dev.dict.cfg.nat 0x1280 4 ∧ 7 = s.dev.dict.cfg.nat 0x1280 3 ∧ 0 ≠ s.dev.dict.cfg.nat 0x1280 3 ∧
      (1 : Fin 2).val ≠ s.dev.dict.cfg.nat 0x1280 2 ∧
      (0 - roundDiv (s.dev.dict.cfg.int 0x1280 0x0B - s.dev.dict.cfg.int 0x1280 0x0C) 2 - s.dev.dict.cfg.int 0x1280 0x0A).natAbs
        < (s.dev.dict.cfg.int 0x1410 6).natAbs ∧ s.dev.tb.ptpState = 9 ∧ s.dev.tb.ptpRun = 15) ∧
    (∀ n ∈ [9, 6], let s := on fun d => withCfg [(0x1280, 1, [1])] { d with
        tb := { d.tb with ptpState := n, ppsQual := true, todActive := 1 }
        odp := { d.odp with port := vmod d.odp.port 0 fun p => { p with link := true } } };
      s.dev.dict.cfg.nat 0x1280 1 = 1 ∧ s.dev.dict.cfg.nat 0x1280 2 = (0 : Fin 2).val ∧ (vget s.dev.odp.port 0).link = true ∧
      s.dev.tb.ptpState = n ∧ s.dev.todInUse = 1) ∧
    (onTb fun b => { b with todSet := some ({}, false) }).dev.tb.todSet = some ({}, false) := by
  refine ⟨by decide +kernel, by decide, by decide +kernel, by decide, by decide +kernel, by decide +kernel, by decide⟩

/-- TOD_SET is taken with and without pulses. -/
theorem witness_todSet : ∀ k ∈ [(0 : Byte), 3],
    let s := on fun d => withCfg [(0x1410, 3, [k])] d;
    s.accepts .mgmt 0x1403 0 (zeros 12) ∧ s.dev.tb.todActive ≠ 2 ∧ (timeOfBE (zeros 12)).ns = 0 ∧ (timeOfBE (zeros 12)).sub = 0 ∧
      (2 < s.dev.dict.cfg.nat 0x1410 3 ↔ k = 3) := by
  unfold State.accepts; decide +kernel

theorem witness_HandoverAndUncertainty :
    (State.reset.dev.tb.fast = false ∧ State.reset.dev.rst.phase ≠ 8) ∧
    (∀ r ∈ [(0 : Int), 2 ^ 40], let s := onTb fun b => { b with handover := some {}, refinQual := true };
      s.dev.tb.handover = some {} ∧ ({} : Handover).done = false ∧ s.dev.tb.refinQual = true ∧
      (2 * ((r + r).tdiv 2).natAbs ≤ refinPeriod s.dev.tb.refinFreq ↔ r = 0) ∧ (0 : Int).tdiv 2 ≤ s.dev.tb.devFine ∧
      (vget s.dev.fc.src 23).cond.getLsbD 8 = false ∧ s.dev.fc.wires.getLsbD 23 = false ∧ s.dev.latches 23 = true) ∧
    ((onTb fun b => { b with handover := some { done := true } }).dev.tb.handover = some { done := true } ∧
      (onTb fun b => { b with handover := some {} }).dev.tb.refinQual = false) ∧
    (∀ k ∈ [0, 1, 2], (onTb fun b => { b with trace := k }).dev.tb.trace = k ∧ (onTb fun b => { b with trace := k }).dev.traceShown = k) ∧
    (onTb fun b => { b with trace := 1 }).dev.tb.uT = f64Inf ∧
    (onTb fun b => { b with trace := 1 }).dev.tb.uT0 = f64Inf ∧ (onTb fun b => { b with uT0 := 0 }).dev.tb.uT0 ≠ f64Inf := by
  decide +kernel

/-- Tenant 0's alarm 0 is armed at a time. -/
def armed (sec : Bytes) (f : TimeBase → TimeBase) : State := on fun d => withCfg [(0x1440, 0, sec), (0x1442, 0, [4]), (0x1502, 0, [0x7F])]
  { d with tb := f { d.tb with alarms := vmod d.tb.alarms 0 fun a => vmod a 0 fun x => { x with status := 1 } } }

/-- An alarm due now, one later in the frame, one at rest asleep, and one that wakes. -/
theorem witness_AlarmCommands :
    (∀ sec ∈ [zeros 12, zeros 8 ++ [0, 0, 0, 5]], let s := armed sec id;
      s.settled ∧ (vget (vget s.dev.tb.alarms 0) 0).status = 1 ∧ s.dev.tb.fast = true ∧ s.dev.tb.slew = 0 ∧ s.dev.tb.handover = none ∧
      fineOfTime (timeOfBE (s.dev.dict.cfg.get 0x1440 0)) ≤ s.dev.tb.devFine + 8192 * (1023 - s.dev.tb.tick % 1024) ∧
      s.dev.tb.tick + 1024 < 2 ^ 64) ∧
    (vget (vget (on id).dev.tb.alarms 0) 1).status ≠ 1 ∧
    (∀ n ∈ [1, 6], let s := { (armed (zeros 12) fun b => { b with fast := false }) with
        dev := { (armed (zeros 12) fun b => { b with fast := false }).dev with stairs := { ready.stairs with now := n } } };
      (vget (vget s.dev.tb.alarms 0) 0).status = 1 ∧ s.dev.stairs.now ≠ 0 ∧ s.dev.stairs.waking = none ∧
      bit (s.dev.dict.cfg.nat 0x1442 0) 2 = true ∧ s.dev.tb.fast = false ∧ bit (s.dev.dict.cfg.nat 0x1502 0) 4 = true) := by
  refine ⟨fun sec h => ⟨settled_of _ ?_, ?_⟩, ?_, ?_⟩
  · revert sec; decide +kernel
  · revert sec; decide +kernel
  · decide +kernel
  · decide +kernel

/-- A slot in which the comparator is decided throughout: no crossing, one, and two. -/
theorem witness_ComparatorCrossings :
    (∀ p ∈ [([], []), ([((3 : Fin 128), (2000000 : Int))], [3]), ([(3, 2000000), (9, -2000000)], [3, 9])],
      ((on id).dev.decideSlot 0 true false p.1).2.1 = p.2 ∧
      (on id).dev.decideSlot 0 true false p.1 = ((on id).dev, p.2, p.2.length == 1)) ∧
    (∃ f : Nat, [f] = [] ++ [f] ∧ ([] : List Nat).length % 2 = 0) := by
  refine ⟨fun p hp => ?_, 3, rfl, rfl⟩
  simp only [List.mem_cons, List.not_mem_nil, or_false] at hp
  rcases hp with rfl | rfl | rfl
  · exact ⟨rfl, rfl⟩
  · exact ⟨by decide +kernel, Prod.ext rfl (by decide +kernel)⟩
  · exact ⟨by decide +kernel, Prod.ext rfl (by decide +kernel)⟩

theorem witness_LaneReports :
    (on id).dev.stairs.now < 2 ∧ (vget (on id).dev.chans 0).readmitting = false ∧
    (∀ src ∈ [(64 : Source), 65, 68, 69], (vget (on id).dev.fc.src src).present.contains (.channel 0) = false ∧
      (on id).dev.fc.wires.getLsbD src.val = false) ∧
    (vget (on id).dev.fc.src 71).present.contains .device = false ∧ (on id).dev.fc.wires.getLsbD 71 = false ∧
    (4 * (on id).dev.dict.cfg.nat 0x3004 0 + 800 <
      100 * (max 1300 ((on id).dev.dict.cfg.nat 0x3004 0) - min 1300 ((on id).dev.dict.cfg.nat 0x3004 0))) ∧
    (let v := (on id).dev.dict.cfg.nat 0x3004 0; 100 * (max v v - min v v) ≤ 4 * v + 800) ∧
    (∀ n ∈ [16, 17], let s := on fun d => d.modChan 0 fun c => { c with inconsistFrame := n };
      (16 < (vget s.dev.chans 0).inconsistFrame + s.dev.newInconsistent 0 ↔ n = 17) ∧
      ((vget s.dev.chans 0).inconsistFrame + s.dev.newInconsistent 0 ≤ 16 ↔ n = 16)) := by decide +kernel

theorem witness_LanePllRetiresFour :
    (on id).dev.stairs.now < 2 ∧ (on id).dev.rst.phase = 8 ∧ (on id).dev.tb.fast = true ∧ (on id).dev.reaction 67 % 16 = 2 ∧
    (vget (on id).dev.fc.src 67).present.contains (.lanePll 0) = false ∧ (on id).dev.fc.wires.getLsbD 67 = false ∧
    (∀ c, (vget (on id).dev.chans c).readmitting = false) ∧ (vget (on id).dev.chans 0).st = .inService := by decide +kernel

/-- A state with channel 0 changed. -/
def onChan (f : Channel → Channel) : State := on fun d => d.modChan 0 f

/-- A channel block that blockOk takes. -/
def block0 : Bytes :=
  (List.range 128).map (BitVec.ofNat 8) ++ (List.range 128).map (BitVec.ofNat 8) ++ zeros 256

/-- The spares above 48 are reserved, or all of them. -/
def reserved (all : Bool) (d : Dev) : Dev :=
  { d with chans := Vector.ofFn fun c : Chan => { vget d.chans c with reserved := all || decide (48 < c.val) } }

theorem witness_Retirements :
    ((on id).accepts .mgmt 0x3010 0 [1] ∧ (on id).dev.tb.fast = true) ∧
    (∀ all : Bool, let s := on (reserved all);
      let free := fun (k : Chan) => (vget s.dev.chans k).st = .spare ∧ (vget s.dev.chans k).reserved = false ∧
        (vget s.dev.chans k).retire = none
      (vget s.dev.chans 0).st = .inService ∧ (vget s.dev.chans 0).retire = none ∧ (vget s.dev.chans 1).st = .inService ∧
      (vget s.dev.chans 1).retire = none ∧ s.dev.retireFaults = [] ∧ s.dev.retireCmds = [] ∧
      (free 48 ↔ all = false) ∧ (∀ k : Chan, k < 48 → ¬ free k) ∧ (∀ k, free k → k = 48)) ∧
    (∃ a p, ∃ s : State, s = (onChan fun c => { c with retire := some a }) ∧ (vget s.dev.chans 0).retire = some a ∧
      a.spare = none ∧ (vget s.dev.chans 0).map = some p) := by
  unfold State.accepts
  exact ⟨by decide +kernel, by decide +kernel, ⟨2, 64, none⟩, 0, _, rfl, by decide +kernel⟩

theorem witness_RetireAndReadmit :
    (let s := onChan fun c => { c with st := .retired, map := none, lastPin := some 0 };
      s.accepts .mgmt 0x3011 0 [1] ∧ (vget s.dev.chans 0).st = .retired ∧ (vget s.dev.chans 0).lastPin = some 0) ∧
    (∃ a, ∃ s : State, s = (onChan fun c => { c with st := .recal, readmit := some a }) ∧ (vget s.dev.chans 0).readmit = some a ∧
      (vget s.dev.chans 0).st = .recal ∧ blockOk block0 = true ∧ block0.length = 512 ∧ a.msLeft ≤ 1) := by
  unfold State.accepts
  exact ⟨by decide +kernel, { value := 1, cause := 1, wasHeld := false, pin := some 0, msLeft := 1 }, _, rfl, by decide +kernel⟩

/-! ### Witnesses: flags, vectors, the Gallery, the trigger and memory -/

/-- Tenant 0 is present and holds its grants. -/
def grants : State := on fun d => granted (withBanks d)

theorem witness_FlagWrites :
    grants.accepts (.tenant 0) 0x2018 1 [0x80, 1] ∧ grants.accepts (.tenant 0) 0x2018 2 [0x80, 1] ∧
    grants.accepts (.tenant 0) 0x2021 1 [0x80, 0, 0, 1] ∧ grants.accepts (.tenant 0) 0x2021 2 [0x80, 0, 0, 1] ∧
    grants.accepts (.tenant 0) 0x2026 7 [1] ∧ (vget (grants.dev.seq 0).ei 7).count < 65535 ∧
    grants.dev.hadEvent 0 (injectKey 7) = false := by
  unfold State.accepts; decide +kernel

/-- Tenant 0 runs at tick 100 with one entry in its FIFO: a vector, a REPEAT after a release, a RAW segment, and no vector. -/
theorem witness_VectorStarts :
    ∀ v ∈ [({} : Vec), { release := some 9, reps := 2 }, { raw := some (3, 0, false, false) }, { raw := some (3, 0, true, false) },
        { tail := true }],
      let s := { (runs fun q => { q with fifo := [v] }) with dev :=
        { (runs fun q => { q with fifo := [v] }).dev with tb := { ready.tb with tick := 100 } } }
      ∃ k, s.dev.startTick 0 = some k ∧ s.reach k = some s ∧ (s.dev.seq 0).fifo = [v] ∧ v.effects = [] ∧
        (s.dev.seq 0).state.busy = true := by
  intro v hv
  simp only [List.mem_cons, List.not_mem_nil, or_false] at hv
  rcases hv with rfl | rfl | rfl | rfl | rfl
  · exact ⟨0, by decide +kernel, reach_now _ _ (by decide +kernel), by decide +kernel⟩
  · exact ⟨73, by decide +kernel, reach_now _ _ (by decide +kernel), by decide +kernel⟩
  · exact ⟨0, by decide +kernel, reach_now _ _ (by decide +kernel), by decide +kernel⟩
  · exact ⟨0, by decide +kernel, reach_now _ _ (by decide +kernel), by decide +kernel⟩
  · exact ⟨0, by decide +kernel, reach_now _ _ (by decide +kernel), by decide +kernel⟩

/-- The compares of a vector on two pins, pin 0 expecting a high level and pin 1 nothing. -/
def cmp0 : Cmp :=
  { vecNo := 0, tset := 0, start := 0, wins := [(0, 5, 0, 64), (1, 3, 0, 64)], silent := false, inMatch := false, marked := false
    close := 64 }

theorem witness_CompareResults :
    ∀ c ∈ [cmp0, { cmp0 with silent := true }, { cmp0 with silent := true, inMatch := true }],
      let s := runs fun q => { q with compares := [c], matching := some match0 }
      s.dev.compareTick 0 = some 0 ∧ s.reach 0 = some s ∧ (s.dev.seq 0).compares = [c] ∧ c.raw = none ∧
      c.close / 8192 ≤ s.dev.tb.tick ∧ (c.wins.map (·.1)).Nodup ∧ (s.dev.seq 0).matching = some match0 ∧
      (0, 5, 0, 64) ∈ c.wins ∧ judge 5 (s.dev.statesIn 0 0 64) (!(s.dev.crossings 0 0 65).isEmpty) = some false := by
  intro c hc
  simp only [List.mem_cons, List.not_mem_nil, or_false] at hc
  rcases hc with rfl | rfl | rfl
  · exact ⟨by decide +kernel, reach_now _ _ (Nat.zero_le _), by decide +kernel⟩
  · exact ⟨by decide +kernel, reach_now _ _ (Nat.zero_le _), by decide +kernel⟩
  · exact ⟨by decide +kernel, reach_now _ _ (Nat.zero_le _), by decide +kernel⟩

/-- Tenant 0 owns pin 0, whose counter cells hold the low value given; one fail waits. -/
def counts (low : Bytes) : State :=
  let s := on fun d => withCfg [(0x1102, 0, [0])] ((withBanks d).modGal 0 fun g => { g with closed := vmod g.closed 0 fun _ => 1 })
  { s with mem := Mem.writeBytes [] (s.dev.areaAddr 2 0 0) low }

theorem witness_CounterFlushAndRead : ∀ low ∈ [[5], [0xFF, 0xFF, 0xFF, 0xFF]],
    (counts low).Inv ∧ (counts low).dev.areaBanks 2 0 ≠ [] ∧ (counts low).dev.arb.poison = [] ∧
    leNat ((counts low).dev.areaBytes (counts low).mem 2 0 0 8) < 2 ^ 32 ∧
    leNat ((counts low).dev.areaBytes (counts low).mem 2 0 64 8) < 2 ^ 32 ∧ (vget (counts low).dev.gallery 0).flush = none ∧
    0 < vget (vget (counts low).dev.gallery 0).closed 0 ∧ vget (vget (counts low).dev.gallery 0).closed 0 < 2 ^ 32 ∧
    (∀ q : Pin, q < 0 → vget (vget (counts low).dev.gallery 0).closed q = 0) ∧
    (leNat ((counts low).dev.areaBytes (counts low).mem 2 0 0 8) + 1 < 2 ^ 32 ↔ low = [5]) ∧
    (counts low).dev.dict.cfg.pinOwner 0 = some 0 := by
  unfold State.Inv; decide +kernel

theorem witness_TornCounterRead :
    let s := counts [5, 0, 0, 0, 1];
    s.Inv ∧ s.dev.areaBanks 2 0 ≠ [] ∧ s.dev.dict.cfg.pinOwner 0 = some 0 ∧ (vget s.dev.gallery 0).flush = none ∧
    s.cell 0 (lowCell 0) = 2 ^ 32 + 5 ∧ s.cell 0 (highCell 0) = 0 := by
  unfold State.Inv; decide +kernel

/-- Tenant 0's trigger entries and context. -/
def acquires (l : List (Nat × Bytes)) (f : Acq → Acq) : State :=
  on fun d => (withCfg (l.map fun p => (0x5101, p.1, p.2)) (withBanks d)).modAcq 0 f

/-- An event of source 2 at stage A or B in the present tick. -/
def ev (stageB : Bool) (pos : Nat) : TrigEv := { pos := pos, src := 2, stageB := stageB }

theorem witness_TriggerQualifier :
    ((acquires [] id).dev.dict.cfg.trg 0 1 = 0 ∧ 1 < (acquires [(1, [2])] id).dev.dict.cfg.trg 0 1) ∧
    (let s := on fun d => (withCfg [(0x5101, 1, [1]), (0x5102, 0, [1]), (0x1102, 0, [0])] (withBanks d)).modAcq 0 fun a => { a with st := 2 };
      s.dev.dict.cfg.trg 0 1 = 1 ∧ (vget s.dev.acq 0).active = true ∧ bit (s.dev.dict.cfg.trg 0 6) 0 = false ∧
      (s.dev.patternTrue 0 false s.dev.tb.tick (3 - 1) = true ∨ s.dev.patternTrue 0 false s.dev.tb.tick 3 = false)) ∧
    (∀ p ∈ [(0, false, none), (1, false, none), (1, false, some 4), (1, true, some 4), (1, true, some 9)],
      let e := ev p.2.1 9;
      let s := acquires [(0, [BitVec.ofNat 8 p.1]), (3, [0, 0, 0, 2]), (4, [0, 0, 0, 1])] fun a =>
        { a with st := 2, tickTrigs := [e], window := p.2.2 };
      let a := vget s.dev.acq 0; let c := s.dev.dict.cfg;
      a.tickTrigs = [e] ∧ e.taken = false ∧ a.origin ≤ s.dev.tb.tick ∧ a.st = 2 ∧ a.armTick * 8192 ≤ e.pos ∧ c.trg 0 0 = p.1 ∧
      a.count + 1 < c.trg 0 3 ∧ ∀ w, w = 4 ∨ w = 9 → e.pos ≤ w + c.trg 0 4 * 8192) ∧
    (let e := ev true 9000; let s := acquires [(0, [1]), (4, [0, 0, 0, 1])] fun a => { a with st := 2, tickTrigs := [e], window := some 4 };
      (vget s.dev.acq 0).window = some 4 ∧ 4 + s.dev.dict.cfg.trg 0 4 * 8192 < e.pos ∧ s.dev.dict.cfg.trg 0 3 ≤ (vget s.dev.acq 0).count + 1) ∧
    (∀ n ∈ [0, 1, 3, 4, 5], let s := acquires [] fun a => { a with st := n, tickTrigs := [ev false 0, ev false 5] };
      (vget s.dev.acq 0).st = n ∧ ∀ x ∈ [ev false 5], x.src = (ev false 0).src ∧ x.taken = false ∧ (ev false 0).pos ≤ x.pos) ∧
    (let s := acquires [] fun a => { a with st := 2, forceDue := true };
      (vget s.dev.acq 0).st = 2 ∧ (vget s.dev.acq 0).forceDue = true) := by
  refine ⟨by decide +kernel, by decide +kernel, fun p hp => ?_, by decide +kernel, by decide +kernel, by decide +kernel⟩
  simp only [List.mem_cons, List.not_mem_nil, or_false] at hp
  rcases hp with rfl | rfl | rfl | rfl | rfl <;> exact ⟨by decide +kernel, by decide +kernel, by decide +kernel, by decide +kernel,
    by decide +kernel, by decide +kernel, by decide +kernel, by rintro w (rfl | rfl) <;> decide +kernel⟩

/-- The pre-trigger part is full, and a window closes, at the present tick. -/
theorem witness_TriggerTimes :
    (let s := acquires [] fun a => { a with st := 1 };
      s.reach (s.dev.armTickOf 0 - 1) = some s ∧ (vget s.dev.acq 0).st = 1) ∧
    (let s := acquires [] fun a => { a with st := 2, window := some 0 };
      s.dev.windowTick 0 = some 0 ∧ s.reach 0 = some s ∧ (vget s.dev.acq 0).tickTrigs = [] ∧ (vget s.dev.acq 0).st = 2) :=
  ⟨⟨reach_now _ _ (by decide +kernel), by decide +kernel⟩, by decide +kernel, reach_now _ _ (Nat.zero_le _), by decide +kernel⟩

theorem witness_acqForce : grants.accepts (.tenant 0) 0x5101 0x0B [1] := by unfold State.accepts; decide +kernel

/-- A line that tenant 0 arms, not yet and already used in this tick; tenant 1 arms none. A pulse that ends at the present tick, on
a line that shows it. -/
theorem witness_TriggerLines : (∀ k ∈ [none, some 0],
    let s := on fun d => (withCfg [(0x1100, 0, [1]), (0x5101, 1, [2]), (0x5101, 7, [1])] d).modAcq 0 fun a =>
      { a with lineTick := vmod a.lineTick 0 fun _ => k };
    s.dev.rst.phase = 8 ∧ s.dev.stairs.now = 0 ∧ s.dev.trigInArmed 0 true 0 = true ∧ s.dev.trigInArmed 0 true 1 = false ∧
    s.dev.dict.cfg.trg 0 1 = 2 ∧ s.dev.dict.cfg.trg 0 2 ≠ 2 ∧ s.dev.hadEvent 0 0 = false ∧
    (∀ i : Fin 8, (vget (s.dev.seq 0).ei i).count < 65535) ∧
    (vget (vget s.dev.acq 0).lineTick 0 = some s.dev.tb.tick ↔ k = some 0)) ∧
    (let s := on fun d => { withCfg [(0x202C, 0, [15])] d with
        trigLines := vmod d.trigLines 0 fun l => { l with seqPulse := some 0 }
        rst := { d.rst with fuseLatched := true }, discrete := vmod d.discrete 0 fun _ => some true };
      s.dev.pulseEnd 0 false = some 0 ∧ s.reach 0 = some s ∧ s.dev.rst.phase = 8 ∧ s.dev.jtag.pins = 0 ∧ s.dev.rst.fuseLatched = true ∧
      s.dev.modes.device ≠ 11 ∧ s.dev.dict.cfg.trigGrant 0 0 = true ∧
      vget s.dev.discrete (lineOut 0) = some (vget s.dev.trigLines 0).high) :=
  ⟨by decide +kernel, by decide +kernel, reach_now _ _ (Nat.zero_le _), by decide +kernel⟩

/-- The last segment, and one of two, long past its end. -/
def segs (n : Byte) : State := on fun d => { (withCfg [(0x5100, 7, [0, 0, 0, n])] (withBanks d)).modAcq 0 fun a =>
    { a with st := 3, trig := some { pos := 0, source := 2, forced := false }
             segBytes := (withCfg [(0x5100, 7, [0, 0, 0, n])] d).dict.cfg.segBytes 0 } with tb := { d.tb with tick := 2 ^ 40 } }

theorem witness_SegmentCompletes : ∀ n ∈ [(1 : Byte), 2], ∃ e, (segs n).dev.segEnd 0 = some e ∧ (segs n).reach e = some (segs n) ∧
    e ≤ (segs n).dev.tb.tick ∧ (vget (segs n).dev.acq 0).st = 3 ∧ (vget (segs n).dev.acq 0).segBytes = (segs n).dev.dict.cfg.segBytes 0 ∧
    (segs n).dev.dict.cfg.acq 0 2 ≤ 2 ∧ (segs n).Inv ∧ ((segs n).dev.dict.cfg.acq 0 7 ≤ (vget (segs n).dev.acq 0).seg + 1 ↔ n = 1) := by
  intro n hn
  refine ⟨((segs n).dev.segEnd 0).getD 0, ?_⟩
  unfold State.Inv
  simp only [List.mem_cons, List.not_mem_nil, or_false] at hn
  rcases hn with rfl | rfl
  · exact ⟨by decide +kernel, reach_now _ _ (by decide +kernel), by decide +kernel⟩
  · exact ⟨by decide +kernel, reach_now _ _ (by decide +kernel), by decide +kernel⟩

/-- A state with the arbiter changed. -/
def onArb (f : Arb → Arb) : State := on fun d => { d with arb := f d.arb }

/-- Tenant 0's guards cover six ticks, within its quota or beyond it. -/
def guarded (quota : Byte) (counted : Bool) : State := on fun d =>
  let d1 := withCfg [(0x1921, 0, [0, quota])] { d with tb := { d.tb with tick := 5 } }
  { d1.modSeq 0 (fun q => { q with guards := [(0, 5)] }) with arb := { d1.arb with overrun := vmod d1.arb.overrun 0 fun _ => counted } }

theorem witness_ScrubbingAndOverruns :
    ((on id).dev.withheldTick (on id).dev.tb.tick = false ∧ (guarded 6 false).dev.withheldTick 5 = true ∧ (guarded 6 false).dev.tb.tick = 5) ∧
    (vget (on id).dev.arb.scrubRow 0 < 16383) ∧
    (vget (onArb fun a => { a with scrubRow := vmod a.scrubRow 0 fun _ => 16383 }).dev.arb.scrubRow 0 = 16383) ∧
    (on fun d => withBanks d).dev.wordOwner 0 = some 0 ∧ (on id).dev.wordOwner 0 = none ∧
    (onArb fun a => { a with writeBack := [8] }).dev.arb.writeBack = [8] ∧ 8 / 2 ^ 20 = (0 : Fin 64).val ∧
    (∀ b ∈ [false, true], let s := on fun d => { d with
        tb := { d.tb with ms := 2 ^ 40 }, arb := { d.arb with scrubLate := vmod d.arb.scrubLate 0 fun _ => b } };
      s.dev.dict.cfg.nat 0x1902 0 < s.dev.tb.ms - vget s.dev.arb.scrubStart 0 ∧ (vget s.dev.fc.src 35).cond.getLsbD 8 = false ∧
      s.dev.fc.wires.getLsbD 35 = false ∧ s.dev.latches 35 = true ∧ vget s.dev.arb.scrubLate 0 = b) ∧
    (∀ b ∈ [false, true], let s := guarded 5 b;
      (vget s.dev.fc.src 37).cond = 0 ∧ s.dev.fc.wires.getLsbD 37 = false ∧ s.dev.latches 37 = true ∧ vget s.dev.arb.overrun 0 = b ∧
      s.dev.dict.cfg.quietQuota 0 < (s.dev.guardTicks 0 s.dev.tb.tick).length) ∧
    ¬ (guarded 6 false).dev.dict.cfg.quietQuota 0 < ((guarded 6 false).dev.guardTicks 0 (guarded 6 false).dev.tb.tick).length := by
  decide +kernel

theorem witness_BudgetBreaches : ∀ l ∈ [[], [({ cls := 3, bank := 59, short := 1, flags := 1, tenants := [0], owner := some 0 } : Breach)]],
    let s := on fun d => { withBanks d with arb := { (withBanks d).arb with breaches := l }, atEdge := true };
    (59 : Fin 64).val < 60 ∧ vget s.dev.arb.bankOwner 59 = (0 : Tenant).val ∧ s.dev.atEdge = true ∧ s.dev.arb.breaches = l ∧
    ((∀ x ∈ s.dev.arb.breaches, ¬ (x.cls = (3 : Fin 11).val ∧ x.bank = (59 : Fin 64).val)) ↔ l = []) := by decide +kernel

/-! ### Witnesses: the microsequencers and calibration -/

/-- Engine 0 stands at the first patch word, of a class, with the low bits given; its nano-word has a condition that holds, and one
that does not. -/
def patched (cls low : Nat) (holds : Bool) (f : MicroEngine → MicroEngine) : State := on fun d =>
  { d with micro := { d.micro with
      patchWords := [(0, BitVec.ofNat 24 (cls * 2 ^ 21 + 0x780 * 2 ^ 10 + low))]
      patchNanos := [(0, if holds then 1#192 <<< 176 else 1#192 <<< 170)] } }.modEngine 0 fun m => f { m with upc := 0x4000 }

/-- A state with engine 0 changed. -/
def onEngine (f : MicroEngine → MicroEngine) : State := on fun d => d.modEngine 0 f

theorem witness_MicroInstructions :
    ((onEngine fun m => { m with stopped := true }).dev.engineRuns 0 = false) ∧
    (∀ b ∈ [true, false], ∀ cls ∈ [0, 1, 2, 3, 4, 5, 6],
      let s := patched cls 0 b fun m => { m with stack := [7], prefetch := [2 ^ 56] };
      let m := vget s.dev.micro.engines 0;
      let f : MicroFetch := {};
      let word := s.dev.micro.word m.upc;
      let n := s.dev.micro.nano m.upc word;
      s.dev.engineRuns 0 = true ∧ m.fetched ≠ some s.dev.tb.tick ∧ m.stalling = false ∧ m.pending = 0 ∧ openTo 0 m.upc = true ∧
      m.gap < 63 ∧ s.dev.micro.redirect 0 m.upc = none ∧ f.ecc = 0 ∧ nanoOk n = true ∧ nf n 169 64 = 0 ∧ mf word 23 21 = cls ∧
      s.dev.microCond 0 f n = b ∧ mapped (m.upc + 1) = true ∧ mapped (nf n 190 176) = true ∧
      mapped (ofSigned 15 ((m.upc : Int) + toSigned 10 (mf word 9 0))) = true ∧ m.stack.length < 8 ∧ m.stack = [7] ∧ mapped 7 = true ∧
      mf word 9 0 = 0 ∧ m.prefetch = [2 ^ 56]) ∧
    (let s := on fun d => { (patched 6 1 true id).dev with micro := { (patched 6 1 true id).dev.micro with
        procReg := [3], engines := vmod d.micro.engines 8 fun m => { m with upc := 0x4000 } } };
      let m := vget s.dev.micro.engines 8;
      let word := s.dev.micro.word m.upc;
      s.dev.engineRuns 8 = true ∧ openTo 8 m.upc = true ∧ mf word 23 21 = 6 ∧ mf word 9 0 = 1 ∧ s.dev.micro.procReg = [3] ∧
      nanoOk (s.dev.micro.nano m.upc word) = true ∧ nf (s.dev.micro.nano m.upc word) 169 64 = 0) := by decide +kernel

/-- A STALL that holds and one that does not, RESUME in a handler and in that of KILL, SELF_RESET; a latched condition; a
redirected fetch; and a reset that waits. -/
theorem witness_MicroSystem :
    (∀ b ∈ [true, false], ∀ op ∈ [0, 1, 2], ∀ h ∈ [none, some 0, some 3],
      let s := patched 7 (op * 2 ^ 8) b fun m => { m with handling := h };
      let m := vget s.dev.micro.engines 0;
      let word := s.dev.micro.word m.upc;
      let n := s.dev.micro.nano m.upc word;
      s.dev.engineRuns 0 = true ∧ m.fetched ≠ some s.dev.tb.tick ∧ m.stalling = false ∧ openTo 0 m.upc = true ∧ m.gap < 63 ∧
      s.dev.micro.redirect 0 m.upc = none ∧ nanoOk n = true ∧ nf n 169 64 = 0 ∧ mf word 23 21 = 7 ∧ mf word 7 0 = 0 ∧
      mf word 9 8 = op ∧ m.pending = 0 ∧ m.handling = h ∧ s.dev.microCond 0 {} n = b ∧ mapped (m.upc + 1) = true ∧ mapped m.resume = true) ∧
    (let s := patched 1 0 true fun m => { m with pending := 6#8 };
      let m := vget s.dev.micro.engines 0;
      mf (s.dev.micro.word m.upc) 23 21 = 1 ∧ m.handling = none ∧ m.pending.getLsbD 1 = true ∧
      ∀ j : Fin 8, j < 1 → m.pending.getLsbD j.val = false) ∧
    (let s := on fun d => { (patched 0 0 true id).dev with micro := { (patched 0 0 true id).dev.micro with
        engines := d.micro.engines, matchRegs := vmod d.micro.matchRegs 3 fun _ => 0xA0000000#32 } };
      let w := sparse s.dev.micro.patchWords (0x4000 + bits (vget s.dev.micro.matchRegs 3).toNat 8 0 - 0x4000);
      let n := s.dev.micro.nano 0x4000 w;
      (vget s.dev.micro.engines 0).upc = 0 ∧ openTo 0 0 = true ∧ s.dev.micro.redirect 0 0 = some 3 ∧
      bits (vget s.dev.micro.matchRegs 3).toNat 8 0 < 511 ∧ mf w 23 21 = 0 ∧ nanoOk n = true ∧ nf n 169 64 = 0) ∧
    (vget (onEngine fun m => { m with resetDue := true }).dev.micro.engines 0).resetDue = true := by decide +kernel

theorem witness_engineReset :
    (on fun d => { d with modes := { d.modes with device := 10 } }).accepts .mgmt 0x7F15 0 [1] := by unfold State.accepts; decide +kernel

/-- CAL_REQ for channel 0, or 48, with a procedure code and item 6. -/
def calReq0 (code : Byte) (spare : Bool) : Bytes :=
  [code, 0, 0, 0x40] ++ (if spare then [1, 0, 0, 0, 0, 0, 0] else [0, 0, 0, 0, 0, 0, 1]) ++ zeros 5

/-- Tenant 0 owns channel 0 and the calibration locks, in a mode. -/
def calMode (mode : Nat) : State := on fun d =>
  let d1 := withCfg [(0x1100, 0, [1]), (0x1102, 0, [0])] d
  { d1 with modes := { d1.modes with mode := vmod d1.modes.mode 0 fun _ => mode }
            tb := { d1.tb with trace := 0 }
            mgmt := { d1.mgmt with locks := Vector.replicate 34 { holder := some (.tenant 0) } } }

theorem witness_CalibrationProcedures :
    (∀ p ∈ [(7, (1 : Byte)), (8, 2)], let s := calMode p.1; let v := calReq0 p.2 false;
      s.accepts (.tenant 0) 0x6020 0 v ∧ fieldBE v 0 1 = p.2.toNat ∧ fieldBE v 1 1 < 4 ∧ fieldBE v 2 2 < 128 ∧ fieldBE v 2 2 ≠ 0 ∧
      fieldBE v 11 5 = 0 ∧ 0 < fieldBE v 4 7 ∧ fieldBE v 4 7 < 2 ^ 52 ∧ s.dev.cal.proc = none ∧ s.dev.heater.state ≠ 2 ∧
      s.dev.cal.clamped = false ∧ (vget s.dev.mgmt.locks 0).holder = some (.tenant 0) ∧
      (vget s.dev.mgmt.locks 1).holder = some (.tenant 0) ∧ vget s.dev.modes.mode 0 = p.1 ∧ s.dev.tb.trace = 0 ∧
      ∀ c : Chan, (BitVec.ofNat 52 (fieldBE v 4 7)).getLsbD c.val = true → s.dev.chOwner c = some 0) ∧
    (let s := on fun d => { d with mgmt := { d.mgmt with locks := Vector.replicate 34 { holder := some .mgmt } } };
      s.accepts .mgmt 0x6020 8 (calReq0 1 true) ∧ (vget s.dev.mgmt.locks 0).holder = some .mgmt ∧
      ∀ c : Chan, (BitVec.ofNat 52 (fieldBE (calReq0 1 true) 4 7)).getLsbD c.val = true → (vget s.dev.chans c).st = .spare) := by
  unfold State.accepts; decide +kernel

/-- A Self-Calibration of item 6 on channels 0 and 1, with the attempts so far. -/
def proc0 (meas : List CalMeas) : Proc :=
  { who := 8, code := 1, autoCommit := false, allOrNothing := false, items := 0x40, chans := 3, meas := meas }

/-- A state in which a procedure runs. -/
def calibrates (p : Proc) : State := on fun d => { d with cal := { d.cal with proc := some p } }

theorem witness_calAttempt : ∀ meas ∈ [[], [({ item := 6, part := 0, ch := 0, tries := [[5]] } : CalMeas)]],
    let s := calibrates (proc0 meas);
    let m : Measured := { item := 6, ch := 0, values := [5], sel := zeros 20 };
    Measured.ok { m with short := true } = true ∧ (({ item := 6, part := 0, ch := 0 } : CalMeas).lost < 15) ∧
    s.dev.cal.proc = some (proc0 meas) ∧ (proc0 meas).staged = false ∧ (proc0 meas).step ≠ 5 ∧ (proc0 meas).step < 0x15 ∧
    Measured.ok m = true ∧ (vget s.dev.chans 0).st ≠ .recal ∧ (6, 0, 0) ∈ (proc0 meas).outstanding 1 ∧
    (6, 0, 1) ∈ (proc0 meas).outstanding 1 ∧ (proc0 meas).meas.find? (fun x => x.item == 6 && x.part == 0 && x.ch == 0) = meas.head? ∧
    0 + 1 < s.dev.dict.cfg.nat 0x6004 3 ∧ spreadOf [5] [5] = some 0 ∧
    (Q.mk 0 (itemScale 6)).le (s.dev.dict.cfg.tolerance 6) = true := by decide +kernel

theorem witness_abortAndRefedge :
    (calibrates (proc0 [])).accepts .mgmt 0x6020 8 (calReq0 0xFF false) ∧ fieldBE (calReq0 0xFF false) 0 1 = 0xFF ∧
    (calibrates (proc0 [])).dev.cal.proc = some (proc0 []) ∧ (proc0 []).who = reqWho .mgmt ∧
    (let p := { proc0 [] with code := 2, step := 0x11 };
      (calibrates p).dev.cal.proc = some p ∧ p.staged = false ∧ (vget (calibrates p).dev.fc.src 106).cond = 0 ∧
      (calibrates p).dev.fc.wires = 0 ∧ (calibrates p).dev.latches 106 = true) := by
  unfold State.accepts; decide +kernel

/-- A state with the calibration part changed. -/
def onCal (f : Cal → Cal) : State := on fun d => { d with cal := f d.cal }

theorem witness_SensorAndReapplication :
    (let s := on id; s.dev.cal.sensorFault = false ∧ s.dev.cal.reapplyDue = false ∧ s.dev.cal.reapply = none ∧
      (vget s.dev.fc.src 103).cond.getLsbD 8 = false ∧ (vget s.dev.fc.src 97).cond.getLsbD 8 = false ∧ s.dev.fc.wires = 0 ∧
      s.dev.latches 103 = true ∧ s.dev.latches 97 = true) ∧
    (onCal fun c => { c with sets := vmod c.sets 0 fun x => { x with valid := true } }).dev.outside 1000000 = true ∧
    (let s := onCal fun c => { c with reapplyDue := true }; s.dev.cal.reapplyDue = true ∧ s.dev.cal.sensorFault = false) ∧
    (let s := onCal fun c => { c with reapply := some (2 ^ 32) };
      s.dev.cal.reapply = some (2 ^ 32) ∧ s.dev.dict.cfg.nat 0x6003 1 ≤ 2 ^ 32 + 1 ∧ s.dev.cal.reapplyLate = false ∧
      s.dev.cal.sensorFault = false) ∧
    (let s := on fun d => withCfg [(0x6110, 4, [0, 0, 0, 0, 0, 1] ++ zeros 6)] { d with tb := { d.tb with devFine := 2 ^ 50 } };
      Time.toSub (timeOfBE (s.dev.dict.cfg.get 0x6110 4)) ≠ 0 ∧
      Time.toSub (timeOfBE (s.dev.dict.cfg.get 0x6110 4)) < Time.toSub s.dev.now ∧ s.dev.cal.due = false ∧
      (vget s.dev.fc.src 105).cond.getLsbD 8 = false ∧ s.dev.fc.wires.getLsbD 105 = false ∧
      s.dev.latches 105 = true) := by decide +kernel

theorem witness_ArchiveCommands :
    (∀ k ∈ [(1 : Byte), 2, 3, 4], (on id).accepts .mgmt 0x6100 1 (k :: zeros 7) ∧ fieldBE (k :: zeros 7) 1 7 = 0 ∧
      fieldBE (k :: zeros 7) 0 1 = k.toNat) ∧
    ((on id).dev.cal.proc = none ∧ (on id).dev.modes.device ≠ 11 ∧ (on id).dev.cal.cmd = none ∧ (on id).dev.rst.requests = []) ∧
    (∀ w ∈ [NvWrite.record 0x20 0 [] false 0, .journal 0 1 1, .counter 0 1 1],
      let s := onCal fun c => { c with nvQueue := [w] };
      s.dev.quietOpen = false ∧ s.dev.cal.pulse = false ∧ (vget s.dev.fc.src 9).actives = 0 ∧ s.dev.stairs.now ≤ 4 ∧
      s.dev.cal.nvQueue = w :: [] ∧ s.dev.cal.cmd = none) ∧
    (runs fun q => { q with quietOn := true }).dev.quietOpen = true ∧
    (∀ k : Fin 2, ∀ w ∈ (on id).dev.cal.nvQueue, ∀ q v, w ≠ .counter k.val q v) := by
  unfold State.accepts
  exact ⟨by decide +kernel, by decide +kernel, by decide +kernel, by decide +kernel, by intro k w hw; cases hw⟩


/-! ### Witnesses: the dictionary, commits and locks, the protocol -/

/-- Tenant 0's key. -/
def key0 : Bytes := List.replicate 32 7

/-- Tenant 0 is present with credential 5 and an open session; port 0 has its link. -/
def opened (d : Dev) : Dev :=
  let d1 := withCfg [(0x1100, 0, [1]), (0x1101, 0, [0, 0, 0, 0, 0, 0, 0, 5])] d
  { d1 with odp := { d1.odp with
      port := vmod d1.odp.port 0 fun p => { p with link := true }
      sess := vmod d1.odp.sess 0 fun _ => { number := 1, isOpen := true, key := key0 } } }

/-- An authentic frame of tenant 0. -/
def odp0 (op count sequence : Nat) (area : Bytes) : Frame :=
  let f : Frame := { port := 0, src := 1, tenant := 0, credential := 5, session := 1, itemCount := count, sequence := sequence, area := area }
  { f with tag := (hmacSha256 key0 (frameSigned f op)).take 16 }

/-- The session after the frame with sequence number 1. -/
def sess1 : Session := { number := 1, isOpen := true, key := key0, seqHigh := 1, window := 1 }

/-- A vendor-defined message of the enterprise. -/
def vdm0 (count : Nat) (area : Bytes) : Vdm := { tag := 3, iana := ready.fuses.iana, count := count, area := area }

theorem witness_DictionaryRequests :
    (lookupEntry 0x1000 0).isSome = true ∧
    (∀ e, lookupEntry 0x1000 0 = some e → e.acc ≠ .wo ∧ e.isDomain = false) ∧ ((on id).dev.value .mgmt 0x1000 0).length ≤ 960 ∧
    (on id).dev.takesVdm (vdm0 1 (requestItem 0x1000 0 0 [])) ∧
    (∀ op ∈ [1, 5], (on opened).dev.servesFrame op (odp0 op 1 1 (requestItem 0x1000 0 0 [])) 0 sess1) := by
  unfold Dev.takesVdm Dev.servesFrame Dev.takesFrame; decide +kernel

theorem witness_DictionaryRequests_writes :
    (∀ e, lookupEntry 0x5101 1 = some e → e.acc = .rwc) ∧ (lookupEntry 0x5101 1).isSome = true ∧
    (on id).dev.takesVdm (vdm0 1 (requestItem 0x1410 1 0 [1])) ∧ (lookupEntry 0x1410 1).isSome = true ∧ (on id).dev.checkWrite .mgmt 0x1410 1 [1] = stOK ∧
    (∀ e, lookupEntry 0x1410 1 = some e → e.acc = .rwc) ∧
    shadowSize ((on id).dev.dict.mgmtShadow.insert (keyOf 0x1410 1) [1]) ≤ 65536 ∧
    (on opened).dev.servesFrame 2 (odp0 2 1 1 (requestItem 0x5101 1 0 [1])) 0 sess1 ∧
    ((on opened).inService 0 sess1).dev.checkWrite (.tenant 0) 0x5101 1 [1] = stOK ∧
    shadowSize ((vget (on opened).dev.dict.shadow 0).insert (keyOf 0x5101 1) [1]) ≤ 4096 ∧
    (lookupEntry 0x1603 0).isSome = true ∧ (on id).dev.takesVdm (vdm0 1 (requestItem 0x1603 0 0 (natBE 4 0 ++ natBE 4 960))) ∧
    (on id).dev.takesVdm (vdm0 1 (requestItem 0x1603 0 0 (natBE 4 0 ++ natBE 4 8192 ++ zeros 960))) ∧ (on id).dev.modes.device ≠ 11 := by
  unfold Dev.takesVdm Dev.servesFrame Dev.takesFrame; decide +kernel

/-- A state in which lock 0 is held. -/
def locked (l : Lock) : State := on fun d => d.modLock 0 fun _ => l

theorem witness_CommitsAndLocks :
    ((on id).dev.takesVdm (vdm0 1 (zeros 8)) ∧ ((on id).dev.commitCheck .mgmt false).2 = stOK) ∧
    ((on id).dev.takesVdm (vdm0 1 ([1, 0, 0, 0] ++ natBE 4 1)) ∧ ((on id).dev.commitCheck .mgmt true).2 = stOK) ∧
    (let s := on fun d => { d with dict := { d.dict with commits := [{ req := .mgmt, entries := [], atIdle := true, framesLeft := 3, reply := .smbus 1 6 }] } };
      s.dev.takesVdm (vdm0 1 (zeros 8)) ∧ s.dev.commitConflict (s.dev.judge .mgmt s.dev.dict.mgmtShadow) = true) ∧
    (let m := vdm0 1 (natBE 1 0 ++ zeros 3 ++ natBE 4 1000);
      (on id).dev.takesVdm m ∧ 1000 ≤ (on id).dev.dict.cfg.nat 0x1109 0 ∧ (on id).dev.modes.device ≠ 11 ∧
      (vget (on id).dev.mgmt.locks 0).holder = none ∧
      (locked { holder := some (.tenant 2) }).dev.takesVdm m ∧
      (vget (locked { holder := some (.tenant 2) }).dev.mgmt.locks 0).holder = some (.tenant 2) ∧
      (locked { holder := some (.tenant 2) }).dev.takesVdm (vdm0 1 (natBE 1 0 ++ zeros 7)) ∧
      (locked { holder := some (.tenant 2) }).dev.cal.proc = none) ∧
    (∀ area ∈ [zeros 8, [1, 0, 0, 0] ++ natBE 4 1], (on opened).dev.servesFrame 6 (odp0 6 1 1 area) 0 sess1) ∧
    (let s1 := (on opened).inService 0 sess1;
      (s1.dev.commitCheck (.tenant 0) false).2 = stOK ∧ (s1.dev.commitCheck (.tenant 0) true).2 = stOK) ∧
    (∀ w ∈ [true, false], let l := vget (locked { holder := some .mgmt, lease := 3000, remaining := 1000, warned := w }).dev.mgmt.locks 0;
      l.holder.isSome = true ∧ 2000 < l.lease ∧ 0 < l.remaining ∧ l.remaining ≤ 1000 ∧ l.warned = w) ∧
    (∀ n ∈ [0, 1], let l := vget (locked { holder := some .mgmt, lease := 1, remaining := n }).dev.mgmt.locks 0;
      l.holder.isSome = true ∧ l.remaining ≤ 1 ∧ l.remaining = n) := by
  unfold Dev.takesVdm Dev.servesFrame Dev.takesFrame
  refine ⟨?_, ?_, ?_, ?_, ?_, ?_, ?_, ?_⟩ <;> decide +kernel

theorem witness_ProtocolCommands :
    (∀ p ∈ [(0x0B, 0, []), (9, 0, []), (10, 1, zeros 16)],
      (on opened).dev.servesFrame p.1 (odp0 p.1 p.2.1 1 p.2.2) 0 sess1) ∧
    (∀ op ∈ [0, 0x0C], (on opened).dev.takesFrame op (odp0 op 0 1 []) 0 sess1) ∧
    ((on fun d => { opened d with rst := { d.rst with key := zeros 16 } }).dev.rst.key = (odp0 10 1 1 (zeros 16)).area ∧
      (on fun d => { opened d with rst := { d.rst with key := zeros 16 } }).dev.servesFrame 10 (odp0 10 1 1 (zeros 16)) 0 sess1) ∧
    (let s := on fun d => { opened d with odp := { (opened d).odp with held := [{ opcode := 0x0B, frame := odp0 0x0B 0 1 [] }] } };
      s.dev.odp.held = { opcode := 0x0B, frame := odp0 0x0B 0 1 [] } :: [] ∧ s.dev.servesFrame 0x0B (odp0 0x0B 0 1 []) 0 sess1) ∧
    (let d := (on opened).dev; let f := odp0 0x0A 0 1 [];
      d.discards f = false ∧ d.rst.phase = 8 ∧ d.stairs.now = 0 ∧ d.stairs.accepted = none ∧ tenantOf f.tenant = some 0 ∧
      d.authentic 0x0B f 0 = false ∧ (vget d.odp.port f.port).lastUnauthMs ≠ some d.tb.ms) ∧
    (let d := (on opened).dev; let f := odp0 0x0B 0 0 [];
      d.discards f = false ∧ d.authentic 0x0B f 0 = true ∧ (vget d.odp.sess 0).accept f.sequence = none) ∧
    (key0.length = 32 ∧ (on id).dev.served .mgmt = stOK ∧ (on id).dev.modes.device ≠ 11) ∧
    (let s := on fun d => { d with modes := { d.modes with device := 10 }, boot := { d.boot with reasonA := 0 } };
      s.dev.served .mgmt = stOK ∧ s.dev.modes.device = 10 ∧ s.dev.boot.reasonA ≠ 1) ∧
    ((on fun d => { d with boot := { d.boot with update := some { slot := 1, total := 4112, next := 1, header := [0] } } }).dev.boot.update
      = some { slot := 1, total := 4112, next := 1, header := [0] }) := by
  unfold Dev.servesFrame Dev.takesFrame
  refine ⟨?_, ?_, ?_, ?_, ?_, ?_, ?_, ?_, ?_⟩ <;> decide +kernel

/-! ### Witnesses: the Ethernet ports and the PCI Express functions -/

/-- Port 0 with a configuration byte, an address record and a state. -/
def ported (cfg : Byte) (ip : Bytes) (f : Port → Port) : State :=
  on fun d => (withCfg [(0x1200, 0, [cfg]), (0x1202, 0, ip)] d).modPort 0 f

/-- 10.0.0.1 with echo replies on. -/
def ip0 : Bytes := zeros 8 ++ [10, 0, 0, 1, 24, 5] ++ zeros 34

theorem witness_EthernetPorts :
    (∀ cfg ∈ [8, 9, 10], let s := ported cfg [] id; let set := s.dev.dict.cfg.nat 0x1200 0;
      bit set 3 = true ∧ 4 ≤ s.dev.rst.phase ∧ s.dev.stairs.now < 3 ∧ (vget s.dev.odp.port 0).link = false ∧
      (vget s.dev.fc.src 22).cond = 0 ∧ set % 4 = cfg.toNat % 4) ∧
    (∀ ip ∈ [ip0, zeros 48], let s := ported 8 ip fun x => { x with link := true };
      (vget s.dev.odp.port 0).link = true ∧ (vget s.dev.fc.src (portSource 0)).cond.getLsbD 8 = false ∧
      (vget s.dev.fc.src 82).cond.getLsbD 8 = false ∧ s.dev.fc.wires = 0 ∧ s.dev.latches (portSource 0) = true ∧ s.dev.latches 82 = true ∧
      (bit (fieldBE (s.dev.dict.cfg.get 0x1202 0) 13 1) 2 = true ↔ ip = ip0) ∧
      (s.dev.ownsV4 0 0x0A000001 = true ↔ ip = ip0) ∧ s.dev.ownsV4 0 0x0A000002 = false ∧
      s.dev.ownsV6 0 (linkLocal (s.dev.macOf 0)) = true ∧ s.dev.ownsV6 0 1 = false) := by decide +kernel

/-- Tenant 0's function is bound and serves memory requests; its ring has one share of the staging area. -/
def bound0 (l : List (Nat × Nat × Bytes)) (f : HostIf → HostIf) : State := on fun d =>
  let d1 := withCfg ([(0x1100, 0, [1]), (0x1101, 0, zeros 7 ++ [5, 1] ++ zeros 7), (0x1320, 0, [0, 0, 0, 0, 0, 1] ++ zeros 10)] ++ l) (withBanks d)
  { d1.modHost 0 (fun h => f { h with memSpace := true, busMaster := true }) with
    link := { d1.link with l0 := true }
    arb := { d1.arb with shareOwner := vmod d1.arb.shareOwner 0 fun _ => 0 } }

theorem witness_HostRegisters :
    (let s := bound0 [] id; let h := vget s.dev.host 0;
      s.dev.gate 0 = .serve ∧ s.dev.stairs.accepted = none ∧ s.dev.ringSize 0 = 8192 ∧
      sub32 0 (vget h.evq 0).head ≤ sub32 (vget h.evq 0).tail (vget h.evq 0).head ∧
      sub32 (vget h.evq 0).tail (vget h.evq 0).head < sub32 1 (vget h.evq 0).head ∧
      sub32 64 h.dmaCons ≤ 64 ∧ sub32 h.dmaProd h.dmaCons ≤ sub32 64 h.dmaCons ∧ 64 < sub32 65 h.dmaCons ∧
      sub32 8192 h.ringCons ≤ s.dev.ringSize 0 ∧ sub32 h.ringProd h.ringCons ≤ sub32 8192 h.ringCons ∧
      s.dev.ringSize 0 < sub32 8193 h.ringCons ∧ (vget (s.dev.seq 0).ei 0).count < 65535 ∧
      s.dev.dict.cfg.ringEnabled 0 = true ∧ 65532 + 4 ≤ min (8 * s.dev.ringSize 0) (2 ^ 20) ∧
      s.dev.touchesOwned 0 65532 4 = false ∧ h.buffered + 4 ≤ 65536) ∧
    (let s := bound0 [] fun h => { h with bar2 := List.replicate 64 (0, zeros 1024) };
      65536 < (vget s.dev.host 0).buffered + 1 ∧ s.dev.touchesOwned 0 0 1 = false ∧ s.dev.gate 0 = .serve) ∧
    (let s := bound0 [] fun h => { h with ringProd := 1 }; s.dev.touchesOwned 0 0 1 = true ∧ s.dev.gate 0 = .serve) ∧
    (let s := bound0 [(0x1910, 0, [0, 1])] fun h => { h with bar2 := [(60, [1, 2, 3, 4])] };
      Mem.wf s.mem = true ∧ (vget s.dev.host 0).bar2 = [(60, [1, 2, 3, 4])] ∧ 60 % 64 + 4 ≤ 64 ∧
      s.dev.dict.cfg.ringEnabled 0 = true ∧ (60 / 64 + 1) * 64 ≤ 8 * s.dev.ringSize 0 ∧
      (vget s.dev.host 0).stagedCycles < s.dev.dict.cfg.nat 0x1910 0 ∧
      s.dev.withheldTick s.dev.tb.tick = false ∧ s.dev.gate 0 = .serve) := by
  refine ⟨?_, ?_, ?_, ?_⟩ <;> decide +kernel

/-- A download of 64 bytes into the image area, and a descriptor of no form. -/
def download0 : BitVec 256 := BitVec.ofNat 256 (2 + 0x21 * 2 ^ 8 + 64 * 2 ^ 128 + 64 * 2 ^ 224)

theorem witness_HostTransfers_start :
    (let s := bound0 [] fun h => { h with dmaProd := 1 };
      s.dev.mayIssue 0 = true ∧ (vget s.dev.host 0).dma = none ∧ (vget s.dev.host 0).dmaProd ≠ (vget s.dev.host 0).dmaCons ∧
      (∀ w ∈ slotWords 0 (0 % 64), w ∉ s.dev.arb.poison) ∧
      descriptorForm (at_ (vget s.dev.host 0).dmaSlots 0 0) = false ∧ s.dev.atEdge = false) ∧
    (let s := bound0 [] fun h => { h with dmaProd := 1, dmaSlots := vmod h.dmaSlots 0 fun _ => download0 };
      let raw := at_ (vget s.dev.host 0).dmaSlots 0 0;
      let x := parseDescriptor raw 0 (vget s.dev.host 0).maxPayload;
      s.dev.mayIssue 0 = true ∧ descriptorForm raw = true ∧ x.upload = false ∧ x.first % 64 = 0 ∧ x.count % 64 = 0 ∧ 0 < x.count ∧
      x.first + x.count ≤ s.dev.areaSize 0 0 ∧ x.count ≤ x.hostLen ∧ s.dev.seqBusy 0 = false ∧ s.dev.modes.device ≠ 11) := by
  refine ⟨?_, ?_⟩ <;> decide +kernel

/-- A transfer in progress. -/
def run1 (upload : Bool) (source total : Nat) : DmaRun :=
  { slot := 0, upload := upload, source := source, tag := 1, hostAddr := 0, hostLen := 256, first := 0, count := total, total := total
    outstanding := 1, issued := total }

theorem witness_HostTransfers :
    (∀ total ∈ [64, 256], let s := bound0 [] fun h => { h with dma := some (run1 false 0x21 total) };
      (vget s.dev.host 0).dma = some (run1 false 0x21 total) ∧ (run1 false 0x21 total).upload = false ∧
      (run1 false 0x21 total).outstanding ≠ 0 ∧ Mem.wf s.mem = true ∧ s.dev.areaBanks 0 0 ≠ [] ∧
      (run1 false 0x21 total).piece 0 = min 128 total) ∧
    (let s := bound0 [] fun h => { h with dma := some (run1 true 0x13 64) };
      (vget s.dev.host 0).dma = some (run1 true 0x13 64) ∧ s.dev.mayIssue 0 = true ∧
      (run1 true 0x13 64).upload = true ∧ (run1 true 0x13 64).source = 0x13 ∧ 1 ≤ (run1 true 0x13 64).unit ∧ s.dev.arb.poison = [] ∧
      s.dev.withheldTick s.dev.tb.tick = false) ∧
    (∀ tail ∈ [0, 255, 256], let r : EventRec := { type := 3, tenant := 0, seq := 0, time := {}, source := 0, epochTrace := 0, payload := zeros 12 };
      let s := bound0 [(0x1310, 0, zeros 8 ++ [8, 0, 1, 0, 0, 0, 0, 8])] fun h =>
        { h with hold := { h.hold with recs := [r] }, evq := vmod h.evq 0 fun q => { q with tail := tail } };
      s.dev.mayIssue 0 = true ∧ s.dev.link.written < 128 ∧ (vget s.dev.host 0).resetLost = none ∧ s.dev.liveQueues 0 = [0] ∧
      (vget (vget s.dev.host 0).evq 0).lostPending = false ∧ (vget s.dev.host 0).hold.recs = r :: [] ∧
      (vget s.dev.host 0).hold.dropsUnreported = 0 ∧ r.type ≠ 0x0C ∧ (∀ w ∈ holdWords 0 r.seq, w ∉ s.dev.arb.poison) ∧ bit (fieldBE (s.dev.dict.cfg.evqCfg 0 0) 12 4) r.type = true ∧
      (sub32 (vget (vget s.dev.host 0).evq 0).tail (vget (vget s.dev.host 0).evq 0).head < s.dev.dict.cfg.evqSize 0 0 ↔ tail < 256)) ∧
    (let s := bound0 [] fun h => { h with msixPba := 1, msixEnable := true };
      (vget s.dev.host 0).msixPba.getLsbD 0 = true ∧ (vget s.dev.host 0).functionMask = false ∧
      (vget s.dev.host 0).msixEnable = true ∧ (vget s.dev.host 0).busMaster = true) ∧
    ((vget (bound0 [] id).dev.host 0).msixPba = 0 ∧ (vget (bound0 [] id).dev.host 0).msixPba.getLsbD 0 = false) := by
  refine ⟨?_, ?_, ?_, ?_, ?_⟩ <;> decide +kernel

theorem witness_HostLink :
    (State.reset.dev.rst.phase ≠ 8 ∧ (bound0 [] fun h => { h with flr := true }).dev.rst.phase = 8 ∧
      (bound0 [] fun h => { h with flr := true }).dev.stairs.now = 0) ∧
    ((bound0 [] id).dev.rst.phase = 8 ∧ (vget (bound0 [] id).dev.host 0).flr = false ∧ (vget (bound0 [] id).dev.host 0).dma = none) ∧
    (∀ l ∈ [true, false], let s := on fun d => { d with link := { d.link with l0 := l } };
      s.dev.rst.phase = 8 ∧ s.dev.stairs.now = 0 ∧ s.dev.link.l0 = l ∧ s.dev.link.l1 = false ∧ (vget s.dev.fc.src 83).cond.getLsbD 8 = false ∧
      s.dev.fc.wires = 0) ∧
    (let s := on fun d => { d with link := { d.link with l1 := true }, stairs := { d.stairs with now := 1 } };
      s.dev.link.l1 = true ∧ bit (s.dev.dict.cfg.nat 0x1502 0) 1 = true ∧ s.dev.stairs.now ≠ 0 ∧ s.dev.stairs.waking = none) ∧
    ((on id).dev.rst.phase ≠ 0 ∧ (∀ w, (vget (on id).dev.host w).dma = none) ∧ (vget (on id).dev.fc.src 86).cond = 0 ∧
      (on id).dev.fc.wires = 0 ∧ (on id).dev.latches 86 = true) := by
  refine ⟨?_, ?_, ?_, ?_, ?_⟩ <;> decide +kernel

/-! ### Witnesses: management, modes, Stairs, resets, faults and the test port -/

/-- A record of the holding buffer. -/
def rec0 (seq : Nat) : EventRec :=
  { type := 3, tenant := 8, seq := seq, time := {}, source := 0, epochTrace := 0, payload := zeros 12 }

theorem witness_ManagementMessages :
    (∀ k ∈ [0, 1, 7, 8, 9, 0x60], (on id).dev.takesVdm (vdm0 k [])) ∧ blockCode 0 = true ∧ blockCode 9 = false ∧ (on id).dev.rst.phase = 8 ∧
    (∀ n ∈ [0, 2], let s := on fun d => { d with mgmt := { d.mgmt with hold := { recs := [rec0 0, rec0 1], seq := 2, dropsUnreported := n } } };
      s.dev.takesVdm (vdm0 0 []) ∧ s.dev.mgmt.hold.dropsUnreported = n ∧
      (s.dev.mgmt.hold.recs.filter fun r => decide (2 ^ 15 ≤ (0 + 2 ^ 16 - r.seq) % 2 ^ 16)).length < 256) := by
  unfold Dev.takesVdm; decide +kernel

theorem witness_MctpAndPldm : (on id).dev.rst.phase = 8 ∧ mctpSupported 0 3 = false ∧ mctpSupported 1 1 = false ∧
    (on id).dev.stairs.now = 0 ∧ (on id).dev.stairs.accepted = none := by decide

/-- A state with the modes changed. -/
def onModes (f : Modes → Modes) : State := on fun d => { d with modes := f d.modes }

/-- A conversion of channel source 0 whose frames have passed. -/
def conv0 (frames : Nat) (tenant : Option Tenant) : DcConv :=
  { tenant := tenant, frames := frames, integ := 1, source := 0, tick := 0 }

theorem witness_ModesAndConverter :
    ((on id).accepts .mgmt 0x7000 1 [1] ∧ (on id).dev.modes.device = 0 ∧ (on id).dev.dict.commits = [] ∧
      ∀ t, vget (on id).dev.modes.mode t = 0) ∧
    (let s := onModes fun m => { m with device := 10 };
      s.accepts .mgmt 0x7000 1 [0] ∧ s.dev.boot.update = none ∧ s.dev.dict.incomplete .mgmt = false) ∧
    ((onModes fun m => { m with serviceReq := true }).dev.modes.device = 0 ∧
      (onModes fun m => { m with serviceReq := true }).dev.modes.serviceReq = true) ∧
    ((onModes fun m => { m with device := 10, serviceLeave := true }).dev.modes.device = 10) ∧
    ((onModes fun m => { m with dcHouse := 1 }).dev.modes.dc = none ∧ 0 < (onModes fun m => { m with dcHouse := 1 }).dev.modes.dcHouse) ∧
    (let s := onModes fun m => { m with dcLast := 2, dcQueued := vmod (vmod m.dcQueued 1 fun _ => true) 3 fun _ => true };
      s.dev.modes.dc = none ∧ s.dev.modes.dcHouse = 0 ∧ vget s.dev.modes.dcQueued (3 : Tenant) = true ∧
      ∀ w : Tenant, vget s.dev.modes.dcQueued w = true →
        ((3 : Tenant).val + 7 - s.dev.modes.dcLast.val) % 8 ≤ (w.val + 7 - s.dev.modes.dcLast.val) % 8) ∧
    (∀ n ∈ [0, 1], ∀ t ∈ [none, some 0],
      (onModes fun m => { m with dc := some (conv0 n t) }).dev.modes.dc = some (conv0 n t) ∧ (conv0 n t).frames = n) ∧
    (∀ run ∈ [0, 2], ∀ done ∈ [0, 4],
      let s := on fun d => withCfg [(0x7010, 0, [run, 0, 0, 0, 0, 0, 0, 1, 0, 0, 0, 5] ++ zeros 4)]
        { d with modes := { d.modes with dc := some (conv0 0 (some 0)), dcDone := vmod d.modes.dcDone 0 fun _ => done } };
      s.dev.modes.dc = some (conv0 0 (some 0)) ∧ s.dev.dict.cfg.dcRun 0 = run.toNat ∧
      (s.dev.dict.cfg.dcRepeat 0 = vget s.dev.modes.dcDone 0 + 1 ↔ done = 4)) := by
  unfold State.accepts
  refine ⟨?_, ?_, ?_, ?_, ?_, ?_, ?_, ?_⟩ <;> decide +kernel

/-- A state with the Stairs changed. -/
def onStairs (f : Stairs → Stairs) : State := on fun d => { d with stairs := f d.stairs }

theorem witness_StairsAndWakes :
    ((on fun d => withCfg [(0x1100, 0, [1])] d).accepts (.tenant 0) 0x1500 1 [6] ∧ (on id).accepts .mgmt 0x1500 1 [6]) ∧
    (∀ n ∈ [1, 3, 4], let s := on fun d => withCfg [(0x1501, 0, [6] ++ zeros 15)] { d with stairs := { d.stairs with accepted := some (n, false), mgmtReq := n } };
      s.dev.stairs.accepted = some (n, false) ∧ s.dev.stairs.cancelled = none ∧ s.dev.modes.device ≠ 11 ∧
      s.dev.stairTarget = n ∧ s.dev.stairStatus n = 1 ∧ s.dev.stairBusy = false) ∧
    (bit ((on fun d => withCfg [(0x1502, 0, [0, 0])] d).dev.dict.cfg.nat 0x1502 0) 3 = false ∧ bit ((on id).dev.dict.cfg.nat 0x1502 0) 3 = true) ∧
    ((onStairs fun x => { x with accepted := some (1, false) }).dev.stairs.now = 0 ∧ (on id).dev.stairs.accepted = none) ∧
    ((onStairs fun x => { x with now := 2 }).dev.stairs.now ≠ 0 ∧ (onStairs fun x => { x with now := 2 }).dev.stairs.waking = none) ∧
    (∀ n ∈ [1, 2, 3, 6], let s := onStairs fun x => { x with now := n, waking := some 3 };
      s.dev.stairs.waking = some 3 ∧ s.dev.link.held = [] ∧ s.dev.mgmt.heldVdm = [] ∧ s.dev.stairs.now = n ∧ Mem.wf s.mem = true ∧
      s.dev.stairs.context = none ∧ s.dev.fc.missed = []) ∧
    (on fun d => { d with stairs := { d.stairs with now := 4 } }.saveContext).dev.stairs.context.isSome = true ∧
    ((vget (onStairs fun x => { x with now := 3, waking := some 3 }).dev.fc.src 3).cond &&& scopeBit 8 = 0 ∧ (on id).dev.fc.wires = 0) ∧
    ((onStairs fun x => { x with dwell := 1 }).dev.stairs.dwell ≤ 1) := by
  unfold State.accepts
  refine ⟨?_, ?_, ?_, ?_, ?_, ?_, ?_, ?_⟩ <;> decide +kernel

/-- A state with the heater changed and the servo on or off. -/
def heats (servo : Byte) (f : Heater → Heater) : State := on fun d =>
  withCfg [(0x1510, 0, [servo])] { d with heater := f d.heater, fuses := { d.fuses with isoBoot := false } }

theorem witness_HeaterServo :
    ((on id).dev.rst.phase = 8 ∧ (heats 0 id).dev.servoRuns = false ∧ (heats 1 id).dev.servoRuns = true ∧
      (heats 1 id).dev.cal.sensorFault = false ∧ (heats 1 id).dev.quietOpen = false ∧ (heats 1 id).dev.heater.code ≤ 4095 ∧
      (onCal fun c => { c with sensorFault := true }).dev.cal.sensorFault = true ∧ (heats 1 id).dev.stairs.now = 0 ∧
      (heats 1 id).dev.withheldTick 0 = false ∧ (heats 1 id).dev.codeFrozen = false ∧ (guarded 6 false).dev.withheldTick 5 = true ∧
      (on fun d => { d with rst := { d.rst with phase := 5, history := [{ source := 0x05, reach := 1, target := 0, flags := 0, time := {} }] } }).dev.codeFrozen = true) ∧
    (let s := heats 1 fun h => { h with state := 2, bandMs := 2 ^ 40 };
      s.dev.heater.state = 2 ∧ s.dev.cal.tSettle ≤ s.dev.heater.bandMs + 1) ∧
    (∀ ok ∈ [true, false], let s := heats 1 fun h => { h with state := 1, edgeMs := 999, vhtrOk := ok };
      s.dev.heater.state = 1 ∧ 999 ≤ s.dev.heater.edgeMs ∧ s.dev.heater.vhtrOk = ok ∧ (vget s.dev.fc.src 1).cond &&& scopeBit 8 = 0 ∧
      (vget s.dev.fc.src 2).cond &&& scopeBit 8 = 0 ∧ s.dev.fc.wires = 0) ∧
    (let s := heats 1 fun h => { h with state := 3, absentMs := 999 }; s.dev.heater.state = 3 ∧ 999 ≤ s.dev.heater.absentMs) := by
  refine ⟨?_, ?_, ?_, ?_⟩ <;> decide +kernel

theorem witness_ResetCommands :
    ((on id).dev.cal.pulse = false ∧ (on id).dev.rst.requests = [] ∧ (on id).dev.stairs.accepted = none ∧
      (onCal fun c => { c with pulse := true }).dev.cal.pulse = true) ∧
    (let s := on fun d => withCfg [(0x1605, 0, [0, 0, 0, 100])] { d with rst := { d.rst with wdt := 99 } };
      s.dev.dict.cfg.nat 0x1605 0 = s.dev.rst.wdt + 1 ∧ s.dev.rst.phase = 8 ∧ s.dev.stairs.now = 0 ∧
      (vget s.dev.fc.src 113).cond &&& scopeBit 8 = 0 ∧ s.dev.fc.wires = 0) ∧
    (∀ k ∈ [(4 : Byte), 5], (on fun d => withCfg [(0x1810, 113, [k])] d).dev.reaction 113 % 16 = k.toNat) ∧
    ((∀ k ∈ [(0 : Byte), 1], (on id).accepts .mgmt 0x1605 1 [k]) ∧ (on id).accepts .mgmt 0x1605 0 [0, 0, 0, 100]) ∧
    ((on fun d => { d with modes := { d.modes with device := 10 } }).accepts .mgmt 0x1604 0 [1]) ∧
    (({ source := 0x11, reach := 2, target := 7 } : ResetReq).target = (7 : Tenant).val) ∧
    (∀ p ∈ [1, 5, 7], let s := on fun d => { d with rst := { d.rst with phase := p } };
      s.dev.rst.phase = p ∧ s.dev.rst.halted = false ∧ (vget s.dev.fc.src 114).latched = 0) ∧
    (({ us := [5], fusesOk := false } : BringupEnv).us = [5] ∧ ({ us := [5] } : BringupEnv).bistOk = true) := by
  unfold State.accepts
  refine ⟨?_, ?_, ?_, ?_, ?_, ?_, ?_, ?_⟩ <;> decide +kernel

/-- A state in which source 1 is as given. -/
def sourced (f : FaultSrc → FaultSrc) : State := on fun d => { d with fc := { d.fc with src := vmod d.fc.src 1 f } }

/-- A row's scope and kind: the device's with a condition, and a tenant's, by tenant and by channel. -/
theorem witness_FaultConditions :
    (∀ src ∈ [(1 : Source), 22, 37, 65], ∃ row, faultRow src.val = some row ∧ row.kind ≠ .trans ∧
      (row.scope = .dev ↔ src = 1 ∨ src = 22) ∧ (on id).dev.stairs.now = 0 ∧ (on id).dev.fc.wires.getLsbD src.val = false ∧
      ∀ res ∈ [Resource.device, .tenant 0, .channel 0], res ∉ (vget (on id).dev.fc.src src).present) ∧
    ((on fun d => withCfg [(0x1102, 0, [0])] d).dev.chOwner 0 = some 0 ∧ (vget (on id).dev.chans 0).readmitting = false) ∧
    (let s := on fun d => { d with stairs := { d.stairs with now := 2 } };
      ∃ row, faultRow 35 = some row ∧ row.kind = .signal ∧ row.scope = .dev ∧ 2 ≤ s.dev.stairs.now ∧ s.dev.rst.requests = [] ∧
        Resource.device ∉ (vget s.dev.fc.src 35).present ∧ s.dev.fc.wires.getLsbD 35 = false) ∧
    Resource.device ∈ (vget (sourced fun f => { f with present := [.device] }).dev.fc.src 1).present ∧
    (∀ src ∈ [(1 : Source), 37, 121], (on fun d => { d with fc := { d.fc with wires := setBit 0 1 true } }).dev.fc.wires.getLsbD src.val
      = (src == 1)) := by
  refine ⟨fun src h => ?_, by decide +kernel, ⟨_, rfl, by decide +kernel⟩, by decide +kernel, by decide +kernel⟩
  simp only [List.mem_cons, List.not_mem_nil, or_false] at h
  rcases h with rfl | rfl | rfl | rfl <;> exact ⟨_, rfl, by decide +kernel⟩

theorem witness_FaultCommands :
    ((faultRow 1).map (·.scope) = some .dev ∧
      (on fun d => { d with modes := { d.modes with device := 10 } }).accepts .mgmt 0x7F20 0 (natBE 4 (2 ^ 1)) ∧
      ∀ i : Fin 32, (on id).dev.fc.force.getLsbD (32 * 0 + i.val) = false) ∧
    ((on id).accepts .mgmt 0x1802 0 [1] ∧ (on id).accepts .mgmt 0x1802 0 [0xFF] ∧
      (∀ sc, (vget (on id).dev.fc.src 1).activeIn sc = false) ∧
      (on fun d => withCfg [(0x1100, 0, [1])] d).accepts (.tenant 0) 0x1802 0 [1]) ∧
    (let f := vget (sourced fun f => { f with cond := scopeBit 8, latched := scopeBit 8 }).dev.fc.src 1;
      f.activeIn 8 = true ∧ f.latched.getLsbD 8 = true) ∧
    (∀ c ∈ [0#9, scopeBit 0], let f := vget (sourced fun f => { f with cond := c, latched := scopeBit 0 }).dev.fc.src 1;
      f.latched.getLsbD 0 = true ∧ f.activeIn (tenantScope 0) = (c != 0)) ∧
    (∀ b, let s := on fun d => { d with fc := { d.fc with aliveToggling := b }, rst := { d.rst with fuseLatched := true } };
      s.dev.fc.aliveToggling = b ∧ s.dev.rst.phase = 8 ∧ s.dev.rst.fuseLatched = true ∧ s.dev.jtag.pins = 0) := by
  unfold State.accepts
  refine ⟨?_, ?_, ?_, ?_, ?_⟩ <;> decide +kernel

theorem witness_BoundaryScan :
    (vget (on id).dev.fc.src 123).cond &&& scopeBit 8 = 0 ∧ (on id).dev.fc.wires = 0 ∧ (on id).dev.jtag.active = false ∧
    (on fun d => { d with jtag := { d.jtag with active := true } }).dev.jtag.active = true ∧ listedIr.contains 0x3F = false := by
  decide +kernel

/-! ### Small tests on the spec's examples -/

/-- Example SC-1. -/
theorem test_durationToTime : timeOfFine 26792 = { sec := 0, ns := 1, sub := 0xDE6E } := by decide

/-- A TSET_PIN record with DATA, RETURN, the compare edges at 1,000 and 2,000 and a format. -/
def pin0 (data ret format : Nat) : Bytes :=
  natBE 4 0 ++ natBE 4 data ++ natBE 4 ret ++ natBE 4 0 ++ natBE 4 1000 ++ natBE 4 2000 ++ natBE 1 format ++ [0, 0, 0]

/-- Example TS-2: the smallest lead plus the smallest tail of the enabled sets is below 512. -/
theorem test_boundaryRefused :
    (withCfg [(0x1102, 3, [3]), (0x40C0, 0x41, [0]), (0x40C5, 0x40, natBE 4 8192), (0x40C5, 0x41, [1]), (0x40C6, 0x40, natBE 4 8192), (0x40C6, 0x41, [1]),
      (0x40C5, 12, pin0 0 0 0), (0x40C5, 13, pin0 0 0 0), (0x40C5, 14, pin0 0 0 0), (0x40C5, 15, pin0 0 0 0),
      (0x40C6, 12, pin0 0 0 0), (0x40C6, 13, pin0 7892 0 0), (0x40C6, 14, pin0 0 0 0), (0x40C6, 15, pin0 0 0 0)]
      ready).dict.cfg.tsetFailure 3 = some (6, 0x060D0500) := by decide +kernel

/-- Example TS-3: the transitions of vector 1 (D0) for RZ, RO and SBC, from the levels after vector 0. -/
theorem test_formats :
    runEvents (false, true) (sortEvents ((tsPinOf (pin0 2048 10240 2)).events 0)) =
      [(2048, (false, true)), (10240, (false, true))] ∧
    runEvents (true, true) (sortEvents ((tsPinOf (pin0 2048 10240 3)).events 0)) =
      [(2048, (false, true)), (10240, (true, true))] ∧
    runEvents (false, true) (sortEvents ((tsPinOf (pin0 2048 10240 4)).events 0)) =
      [(0, (true, true)), (2048, (false, true)), (10240, (true, true))] := by decide +kernel

/-- Example FG-1: the cells of LP13 with banks 50 and 51. -/
theorem test_counterCells :
    lowCell 13 = 0x0A8 ∧ highCell 13 = 0x0E8 ∧
    (let d := { ready with arb := { ready.arb with bankOwner := vmod (vmod ready.arb.bankOwner 50 fun _ => 3) 51 fun _ => 3 } };
      d.areaAddr 2 3 0x0A8 = 50 * 2 ^ 20 + 0x68 ∧ d.areaAddr 2 3 0x0E8 = 51 * 2 ^ 20 + 0x68) := by decide +kernel

/-- RFC 4231, test case 2. -/
theorem test_hmac : hmacSha256 [0x4A, 0x65, 0x66, 0x65] ([0x77, 0x68, 0x61, 0x74, 0x20, 0x64, 0x6F, 0x20, 0x79, 0x61, 0x20,
    0x77, 0x61, 0x6E, 0x74, 0x20, 0x66, 0x6F, 0x72, 0x20, 0x6E, 0x6F, 0x74, 0x68, 0x69, 0x6E, 0x67, 0x3F]) =
    natBE 32 0x5bdcc146bf60754e6a042426089575c75a003f089d2739839dec58b964ec3843 := by decide +kernel

/-- The check value of CRC-32C: the digits 1 to 9. -/
theorem test_crc : crc32c [0x31, 0x32, 0x33, 0x34, 0x35, 0x36, 0x37, 0x38, 0x39] = 0xE3069283 := by decide +kernel

/-- FIPS 180-4's example of SHA-384: "abc". -/
theorem test_sha384 : sha384 [0x61, 0x62, 0x63] =
    natBE 48 0xcb00753f45a35e8bb5a03d699ac65007272c32ab0eded1631a8b605a43ff5bed8086072ba1e7cc2358baeca134c825a7 := by decide +kernel

/-- AES-256-GCM with a zero key and initialisation vector, one zero block (the GCM specification's test case 14). -/
theorem test_gcm : gcmAuthentic (zeros 32) [] (zeros 12) (natBE 16 0xcea7403d4d606b6e074ec5d3baf39d18)
    (natBE 16 0xd0d1c8a799996bf0265b98b5d48ab919) = true := by decide +kernel

end Sys2Proof.Tests
end

section
/-! The comparators and the crossings of one slot (R74, R78, R79). -/
namespace Sys2Proof.Machine

/-! ### The decision of a comparator (R74, R631) -/

/-- The effective threshold, in uV, of a comparator at a level: half the hysteresis above the threshold for one that is low,
below it for one that is high. -/
def Cfg.effThreshold (c : Cfg) (ch : Chan) (high level : Bool) : Int :=
  let thr := c.int (if high then 0x3009 else 0x300A) ch.val * 250
  let half : Int := c.nat 0x300B ch.val * 125
  if level then thr - half else thr + half

section Comparator
variable {c : Cfg} {ch : Chan} {high level : Bool} {v : Int}

theorem Cfg.comparator_eq (c : Cfg) (ch : Chan) (high level : Bool) (v : Int) :
    c.comparator ch high level v =
      if c.effThreshold ch high level + 15000 < v then some true
      else if v < c.effThreshold ch high level - 15000 then some false else none := by
  simp only [Cfg.comparator, Cfg.effThreshold, Nat.cast_mul, Nat.cast_ofNat]
  rfl

theorem Cfg.comparator_of_above (h : c.effThreshold ch high level + 15000 < v) :
    c.comparator ch high level v = some true := by
  rw [Cfg.comparator_eq, if_pos h]

theorem Cfg.comparator_of_below (h : v < c.effThreshold ch high level - 15000) :
    c.comparator ch high level v = some false := by
  rw [Cfg.comparator_eq, if_neg (by omega), if_pos h]

theorem Cfg.comparator_of_band (hlo : c.effThreshold ch high level - 15000 ≤ v)
    (hhi : v ≤ c.effThreshold ch high level + 15000) : c.comparator ch high level v = none := by
  rw [Cfg.comparator_eq, if_neg (by omega), if_neg (by omega)]

end Comparator

/-! ### The level after the crossings of a slot -/

/-- Whatever decides an input, a comparator or a free value, the rest of the slot is decided from the level it leaves. -/
theorem Dev.decideSlot_cons (d : Dev) (ch : Chan) (high level : Bool) (f : Fin 128) (v : Int) (l : List (Fin 128 × Int)) :
    ∃ (d' : Dev) (now : Bool), (d.decideSlot ch high level ((f, v) :: l)).2 =
      (if now = level then (d'.decideSlot ch high now l).2.1 else f.val :: (d'.decideSlot ch high now l).2.1,
        (d'.decideSlot ch high now l).2.2) :=
  ⟨_, _, rfl⟩

/-- One crossing more turns the level over once more. -/
theorem bne_parity_succ (b : Bool) (n : Nat) : (b != ((n + 1) % 2 == 1)) = !(b != (n % 2 == 1)) := by
  rcases Nat.mod_two_eq_zero_or_one n with h | h <;> simp [Nat.add_mod, h]

/-- Each crossing turns the level over, so the parity of their number gives the level at the end of the slot. -/
theorem Dev.decideSlot_level (d : Dev) (ch : Chan) (high level : Bool) (inputs : List (Fin 128 × Int)) :
    (d.decideSlot ch high level inputs).2.2 = (level != ((d.decideSlot ch high level inputs).2.1.length % 2 == 1)) := by
  induction inputs generalizing d level with
  | nil => simp [Dev.decideSlot]
  | cons x l ih =>
    obtain ⟨f, v⟩ := x
    obtain ⟨d', now, h⟩ := d.decideSlot_cons ch high level f v l
    rw [h]
    rcases eq_or_ne now level with rfl | hn
    · simpa using ih d' now
    · obtain rfl : now = !level := Bool.eq_not.mpr hn
      simpa [bne_parity_succ] using ih d' (!level)

/-! ### The history of crossings (R78, R79) -/

theorem insertRx_perm (e : RxEvent) (l : List RxEvent) : (insertRx e l).Perm (e :: l) := by
  rw [insertRx]
  exact List.perm_middle.trans (.of_eq (by rw [List.takeWhile_append_dropWhile]))

/-- A crossing out of a level at a raw instant: its direction leaves the level, its time is corrected to the balls. -/
def crossingEvent (block : Bytes) (high level reported : Bool) (raw : Nat) : RxEvent :=
  { high := high, rising := !level, pos := correctRx block high (!level) raw, reported := reported }

/-- The crossings of a slot as they enter the history, the level alternating from `level` on. -/
def crossingEvents (block : Bytes) (high report : Bool) (base : Nat) : Bool → List Nat → List RxEvent
  | _, [] => []
  | level, f :: l =>
    crossingEvent block high level (report && l.isEmpty) (base + f) :: crossingEvents block high report base (!level) l

section History
variable (block : Bytes) (high : Bool) (base : Nat) (level : Bool)

/-- What the model's `addCrossings` adds is exactly these events. -/
theorem Channel.addCrossings_rx_perm (c : Channel) (report : Bool) (cs : List Nat) :
    (c.addCrossings block high report base level cs).rx.Perm (crossingEvents block high report base level cs ++ c.rx) := by
  induction cs generalizing c level with
  | nil => exact .refl _
  | cons f l ih => exact (ih _ _).trans (((insertRx_perm _ _).append_left _).trans List.perm_middle)

theorem crossingEvents_length (report : Bool) (cs : List Nat) :
    (crossingEvents block high report base level cs).length = cs.length := by
  induction cs generalizing level with
  | nil => rfl
  | cons f l ih => simp [crossingEvents, ih]

theorem filter_reported_crossingEvents_false (cs : List Nat) :
    (crossingEvents block high false base level cs).filter (·.reported) = [] := by
  induction cs generalizing level with
  | nil => rfl
  | cons f l ih => simp [crossingEvents, crossingEvent, ih]

/-- Of reported crossings only the last is, with the direction that the crossings before it leave. -/
theorem filter_reported_crossingEvents_true (before : List Nat) (f : Nat) :
    (crossingEvents block high true base level (before ++ [f])).filter (·.reported) =
      [crossingEvent block high (level != (before.length % 2 == 1)) true (base + f)] := by
  induction before generalizing level with
  | nil => simp [crossingEvents, crossingEvent]
  | cons g l ih => simp [crossingEvents, crossingEvent, ih, bne_parity_succ]

end History

/-! ### The channel after a slot -/

/-- The channel after a slot whose crossings are decided, with every fine code in range. -/
def Dev.slotChannel (d : Dev) (ch : Chan) (slot : Fin 64) (high : Bool) (cs : List Nat) (now : Bool) : Channel :=
  let c := vget d.chans ch
  { c.addCrossings (d.block ch) high (cs.length % 2 == 1) (d.fineNow + slot.val * finePerSlot)
      (if high then c.rxHigh else c.rxLow) cs with
    runt := if 2 ≤ cs.length then satAdd 32 c.runt 1 else c.runt
    rxHigh := if high then now else c.rxHigh
    rxLow := if high then c.rxLow else now }

/-- A change of a channel is a change to the value it then has. -/
theorem Dev.modChan_const (d : Dev) (ch : Chan) (f : Channel → Channel) :
    d.modChan ch f = d.modChan ch fun _ => f (vget d.chans ch) := rfl

section Slot
variable {s : State} {ch : Chan} {slot : Fin 64} {high : Bool} {inputs : List (Fin 128 × Int)} {cs : List Nat} {now : Bool}

/-- A slot decided without a free value, its fine codes in range, changes the channel alone. -/
theorem exec_comparatorCrossing_of_decided
    (h : s.dev.decideSlot ch high (if high then (vget s.dev.chans ch).rxHigh else (vget s.dev.chans ch).rxLow) inputs =
      (s.dev, cs, now)) :
    exec (.comparatorCrossing ch slot high inputs true) s =
      .next (s.withDev fun d => d.modChan ch fun _ => s.dev.slotChannel ch slot high cs now) := by
  change Host.Outcome.next { s with dev := s.dev.comparatorCrossing ch slot high inputs true } = _
  simp only [Dev.comparatorCrossing, h, Bool.true_or, if_true, Bool.and_true]
  rw [Dev.modChan_const]
  rfl

theorem Dev.slotChannel_rx_perm (d : Dev) :
    (d.slotChannel ch slot high cs now).rx.Perm
      (crossingEvents (d.block ch) high (cs.length % 2 == 1) (d.fineNow + slot.val * finePerSlot)
        (if high then (vget d.chans ch).rxHigh else (vget d.chans ch).rxLow) cs ++ (vget d.chans ch).rx) :=
  Channel.addCrossings_rx_perm ..

theorem Dev.slotChannel_rx_length (d : Dev) :
    (d.slotChannel ch slot high cs now).rx.length = (vget d.chans ch).rx.length + cs.length := by
  rw [d.slotChannel_rx_perm.length_eq, List.length_append, crossingEvents_length, Nat.add_comm]

/-- An even number of crossings: none is reported. -/
theorem Dev.slotChannel_reported_of_even (d : Dev) (h : cs.length % 2 = 0) :
    ((d.slotChannel ch slot high cs now).rx.filter (·.reported)).length =
      ((vget d.chans ch).rx.filter (·.reported)).length := by
  have hr : (cs.length % 2 == 1) = false := by simp [h]
  rw [(d.slotChannel_rx_perm.filter _).length_eq, hr, List.filter_append, filter_reported_crossingEvents_false,
    List.nil_append]

/-- An odd number of crossings: the last alone is reported. -/
theorem Dev.slotChannel_reported_perm_of_odd (d : Dev) {before : List Nat} {f : Nat} (h : before.length % 2 = 0) :
    ((d.slotChannel ch slot high (before ++ [f]) now).rx.filter (·.reported)).Perm
      (crossingEvent (d.block ch) high (if high then (vget d.chans ch).rxHigh else (vget d.chans ch).rxLow) true
        (d.fineNow + slot.val * finePerSlot + f) :: (vget d.chans ch).rx.filter (·.reported)) := by
  have hr : ((before ++ [f]).length % 2 == 1) = true := by simp; omega
  have hp := d.slotChannel_rx_perm (ch := ch) (slot := slot) (high := high) (cs := before ++ [f]) (now := now)
  rw [hr] at hp
  simpa [filter_reported_crossingEvents_true, h] using hp.filter (·.reported)

end Slot

/-- Settles O27: the crossings of a slot enter the history as a permutation of `crossingEvents`, of which the last is reported
where their number is odd and none where it is even. -/
theorem comparatorCrossings : Obligations.ComparatorCrossings := by
  intro s ch slot high inputs cs now c was half thr
  have hlow : s.dev.dict.cfg.effThreshold ch high false = thr + half := rfl
  have hhigh : s.dev.dict.cfg.effThreshold ch high true = thr - half := rfl
  refine ⟨fun v hv => Cfg.comparator_of_above (by rwa [hlow]), fun v hv => Cfg.comparator_of_below (by rwa [hhigh]),
    fun v hlo hhi => Cfg.comparator_of_band (by rwa [hlow]) (by rwa [hlow]), fun hd => ?_⟩
  refine ⟨_, exec_comparatorCrossing_of_decided hd, ?_⟩
  have hx : vget (s.withDev fun d => d.modChan ch fun _ => s.dev.slotChannel ch slot high cs now).dev.chans ch =
      s.dev.slotChannel ch slot high cs now := vget_vmod ..
  have hlevel : now = (was != (cs.length % 2 == 1)) := by
    simpa [hd] using s.dev.decideSlot_level ch high was inputs
  simp only [hx]
  refine ⟨trivial, rfl, ?_, ?_, hlevel, s.dev.slotChannel_rx_length, s.dev.slotChannel_reported_of_even, ?_⟩
  · cases high <;> rfl
  · cases high <;> rfl
  · rintro before f rfl hb
    have hp := s.dev.slotChannel_reported_perm_of_odd (ch := ch) (slot := slot) (high := high) (now := now) (f := f) hb
    exact ⟨hp.length_eq, (List.mem_filter.mp (hp.mem_iff.mpr List.mem_cons_self)).1⟩

end Sys2Proof.Machine
end

section
/-! The start of an entry of the decoded-vector FIFO (R106, R122, R148). -/
namespace Sys2Proof.Machine

/-! ### What the lanes' play changes -/

/-- A sequencer apart from its lanes' state, the set that plays, its quiet windows, their guards and its INVALID spans. -/
def Seq.butLanes (q : Seq) : Seq :=
  { q with level := 0, driven := 0, tsetNow := 0, quietOn := false, quietTo := 0, guards := [], invalidSpans := [] }

/-- The device apart from what playing an entry of tenant t changes: the balls, what is sent, the guards' account and the
fields that `Seq.butLanes` leaves out. -/
def Dev.butLanes (d : Dev) (t : Tenant) : Dev :=
  { d.modSeq t Seq.butLanes with chans := ({} : Dev).chans, out := [], arb := ({} : Dev).arb }

section ButLanes
variable (d : Dev) (t : Tenant)

@[simp] theorem Dev.modGal_seq (w : Tenant) (f : Gallery → Gallery) : (d.modGal t f).seq w = d.seq w := rfl

theorem Dev.modGal_id : d.modGal t id = d := by
  simp [Dev.modGal, vmod]

theorem Dev.modGal_modGal (f g : Gallery → Gallery) : (d.modGal t f).modGal t g = d.modGal t fun x => g (f x) := by
  simp [Dev.modGal]

theorem Dev.butLanes_gf : (d.butLanes t).gf = d.gf := rfl

theorem Dev.butLanes_gallery : (d.butLanes t).gallery = d.gallery := rfl

@[simp] theorem Dev.butLanes_seq : (d.butLanes t).seq t = (d.seq t).butLanes := d.modSeq_seq t _

theorem Dev.butLanes_seq_ne {w : Tenant} (h : w ≠ t) : (d.butLanes t).seq w = d.seq w := d.modSeq_seq_ne t w _ h

theorem Dev.modGal_butLanes (f : Gallery → Gallery) : (d.modGal t f).butLanes t = (d.butLanes t).modGal t f := rfl

theorem Dev.modSeq_butLanes_of_comm {f : Seq → Seq} (hf : ∀ q, (f q).butLanes = f q.butLanes) :
    (d.modSeq t f).butLanes t = (d.butLanes t).modSeq t f := by
  simp [Dev.butLanes, Dev.modSeq, hf]

theorem Dev.modSeq_butLanes_of_same (f : Seq → Seq) (hf : ∀ q, (f q).butLanes = q.butLanes) :
    (d.modSeq t f).butLanes t = d.butLanes t := by
  simp [Dev.butLanes, Dev.modSeq, hf]

theorem Dev.showBall_butLanes (c : Chan) (pos : Nat) (l : BallLevel) (issue : Option (Nat × Nat)) :
    (d.showBall c pos l issue).butLanes t = d.butLanes t := by
  unfold Dev.showBall
  split <;> rfl

theorem Dev.moveLane_butLanes (p : Pin) (pos : Nat) (was l : Bool × Bool) :
    (d.moveLane p pos was l).butLanes t = d.butLanes t := by
  unfold Dev.moveLane
  split
  · split
    · exact d.showBall_butLanes t ..
    · rfl
  · rfl

theorem Dev.setLane_butLanes (p : Pin) (l : Bool × Bool) :
    (d.modSeq t fun q => q.setLane p l).butLanes t = d.butLanes t :=
  d.modSeq_butLanes_of_same t _ fun _ => rfl

theorem Dev.playPin_butLanes (tset start : Nat) (pc : Pin × Nat) :
    (d.playPin t tset start pc).butLanes t = d.butLanes t := by
  rw [Dev.playPin, Dev.setLane_butLanes]
  exact List.foldlRecOn (motive := fun acc : Dev × (Bool × Bool) => acc.1.butLanes t = d.butLanes t) _ _ rfl
    fun acc h e _ => (acc.1.moveLane_butLanes t ..).trans h

theorem Dev.openGuards_butLanes (v : Vec) (start : Nat) : (d.openGuards t v start).butLanes t = d.butLanes t :=
  Dev.modSeq_butLanes_of_same _ t _ fun _ => rfl

theorem Dev.started_butLanes (v : Vec) (start end_ : Nat) : (d.started t v start end_).butLanes t = d.butLanes t :=
  d.modSeq_butLanes_of_same t _ fun _ => rfl

theorem Dev.lanesOff_butLanes : (d.lanesOff t).butLanes t = d.butLanes t := by
  refine (Dev.modSeq_butLanes_of_same _ t (fun q => { q with driven := 0 }) fun _ => rfl).trans ?_
  refine List.foldlRecOn (motive := fun d' : Dev => d'.butLanes t = d.butLanes t) _ _ rfl fun d' h c _ => ?_
  split
  · exact (d'.showBall_butLanes t ..).trans h
  · exact h

/-- The end of issue writes the Gallery's partial block and changes lanes and quiet windows. -/
theorem Dev.endIssue_butLanes : ∃ g, (d.endIssue t).butLanes t = (d.butLanes t).modGal t g := by
  refine ⟨fun g => g.partialBlock ((d.endIssue t).dict.cfg.rowBytes t), ?_⟩
  rw [← d.lanesOff_butLanes t, ← (d.lanesOff t).modSeq_butLanes_of_same t (fun s => { s with
    quietOn := false, quietTo := if s.quietOn then Nat.max s.quietTo s.pos else s.quietTo }) fun _ => rfl]
  rfl

theorem Dev.issueOver_butLanes : ∃ g, (d.issueOver t).butLanes t = (d.butLanes t).modGal t g := by
  unfold Dev.issueOver
  split
  · exact d.endIssue_butLanes t
  · exact ⟨id, (Dev.modGal_id _ t).symm⟩

variable {d t} in
theorem Dev.issueOver_of_busy (h : (d.seq t).state.busy = true) : d.issueOver t = d := by
  simp [Dev.issueOver, h]

end ButLanes

/-- A RAW segment's drive words move the lanes alone. -/
theorem State.playRaw_butLanes (s : State) (t : Tenant) (c : Cmp) (n w : Nat) (comparing ring : Bool) (pj : Pin × Nat) :
    (s.playRaw t c n w comparing ring pj).dev.butLanes t = s.dev.butLanes t := by
  rw [State.playRaw, Dev.setLane_butLanes]
  refine List.foldlRecOn (motive := fun acc : Dev × (Bool × Bool) => acc.1.butLanes t = s.dev.butLanes t) _ _ rfl
    fun acc h e _ => ?_
  split
  · exact h
  · exact (acc.1.moveLane_butLanes t ..).trans h

/-! ### The start of each kind of entry -/

/-- The compares of an entry as it starts, before its windows and their end are known. -/
def Dev.startCmp (d : Dev) (t : Tenant) (v : Vec) : Cmp :=
  { vecNo := (d.seq t).vectors, tset := v.tset, start := (d.seq t).startOf v, raw := v.raw, silent := v.silent
    inMatch := v.inMatch, marked := v.codes.any fun c => c.2 == 14, close := (d.seq t).startOf v, ctrl := v.ctrl
    loops := v.loops, gap := v.gap, rawData := v.rawData, rawPins := if v.raw.isSome then d.rawPins t v.tset else [] }

/-- The compares of a vector as it starts, with the windows of its pins (R119). -/
def Dev.vectorCmp (d : Dev) (t : Tenant) (v : Vec) : Cmp :=
  { d.startCmp t v with
    wins := d.dict.cfg.compareWins t v.tset ((d.seq t).startOf v) v.codes
    close := d.dict.cfg.lastClose t v.tset ((d.seq t).startOf v) v.codes }

/-- The compares of a RAW segment of n ticks as it starts. -/
def Dev.rawCmp (d : Dev) (t : Tenant) (v : Vec) (n : Nat) : Cmp :=
  { d.startCmp t v with close := (d.seq t).startOf v + n * finePerTick }

/-- The device once the pins of a starting vector have played. -/
def Dev.vectorPlayed (d : Dev) (t : Tenant) (v : Vec) : Dev :=
  let start := (d.seq t).startOf v
  v.codes.foldl (fun d p => d.playPin t v.tset start p)
    ((d.openGuards t v start).started t v start (start + d.dict.cfg.period t v.tset))

/-- The state once the drive words of a starting RAW segment of n ticks have played. -/
def State.rawPlayed (s : State) (t : Tenant) (v : Vec) (n w : Nat) (comparing ring : Bool) : State :=
  let start := (s.dev.seq t).startOf v
  (s.dev.startCmp t v).rawPins.zipIdx.foldl
    (fun s' pj => s'.playRaw t (s.dev.startCmp t v) (Nat.min n (v.gap.getD n)) w comparing ring pj)
    { s with dev := s.dev.started t v start (start + n * finePerTick) }

theorem Dev.vectorPlayed_butLanes (d : Dev) (t : Tenant) (v : Vec) :
    (d.vectorPlayed t v).butLanes t = d.butLanes t := by
  refine List.foldlRecOn (motive := fun d' : Dev => d'.butLanes t = d.butLanes t) _ _ ?_
    fun d' h p _ => (d'.playPin_butLanes t ..).trans h
  rw [Dev.started_butLanes, Dev.openGuards_butLanes]

theorem State.rawPlayed_butLanes (s : State) (t : Tenant) (v : Vec) (n w : Nat) (comparing ring : Bool) :
    (s.rawPlayed t v n w comparing ring).dev.butLanes t = s.dev.butLanes t :=
  List.foldlRecOn (motive := fun s' : State => s'.dev.butLanes t = s.dev.butLanes t) _ _ (s.dev.started_butLanes t ..)
    fun s' h _ _ => (s'.playRaw_butLanes t ..).trans h

theorem State.rawPlayed_mem (s : State) (t : Tenant) (v : Vec) (n w : Nat) (comparing ring : Bool) :
    (s.rawPlayed t v n w comparing ring).mem = s.mem :=
  List.foldlRecOn (motive := fun s' : State => s'.mem = s.mem) _ _ rfl fun _ h _ _ => h

/-- A sequencer after the start of a vector that ends at `end_`. -/
def Seq.vectorStarted (v : Vec) (rest : List Vec) (end_ : Nat) (c : Cmp) (q : Seq) : Seq :=
  { q with
    fifo := if v.reps > 1 then { v with reps := v.reps - 1, release := none, effects := [] } :: rest else rest
    pos := end_, vectors := satAdd 64 q.vectors 1, inRun := true, compares := q.compares ++ [c] }

/-- A sequencer after the start of a RAW segment whose pad ends at `end_`. -/
def Seq.rawStarted (rest : List Vec) (end_ : Nat) (comparing : Bool) (c : Cmp) (q : Seq) : Seq :=
  { q with fifo := rest, pos := end_, inRun := false, compares := if comparing then q.compares ++ [c] else q.compares }

/-- A sequencer whose entry without a vector has left the FIFO. -/
def Seq.tailTaken (rest : List Vec) (q : Seq) : Seq := { q with fifo := rest }

section Cases
variable {s : State} {t : Tenant} {v : Vec} {rest : List Vec}

theorem State.vectorStart_of_tail (hfifo : (s.dev.seq t).fifo = v :: rest) (heff : v.effects = []) (htail : v.tail = true) :
    s.vectorStart t =
      { s with dev := (((s.dev.modSeq t (Seq.tailTaken rest)).lanesOff t).galleryIssueEnd t).issueOver t } := by
  simp only [State.vectorStart, hfifo, heff, htail, ite_self, if_true]
  rfl

theorem State.vectorStart_of_vector (hfifo : (s.dev.seq t).fifo = v :: rest) (heff : v.effects = [])
    (htail : v.tail = false) (hraw : v.raw = none) :
    s.vectorStart t =
      { s with dev := ((s.dev.vectorPlayed t v).modSeq t (Seq.vectorStarted v rest
        ((s.dev.seq t).startOf v + s.dev.dict.cfg.period t v.tset) (s.dev.vectorCmp t v))).issueOver t } := by
  simp only [State.vectorStart, hfifo, heff, htail, hraw, ite_self, Bool.false_eq_true, if_false]
  unfold Seq.vectorStarted
  simp only [Dev.vectorCmp, Dev.startCmp, htail, hraw]
  rfl

theorem State.vectorStart_of_raw {n w : Nat} {comparing ring : Bool} (hfifo : (s.dev.seq t).fifo = v :: rest)
    (heff : v.effects = []) (htail : v.tail = false) (hraw : v.raw = some (n, w, comparing, ring)) :
    s.vectorStart t =
      { s.rawPlayed t v n w comparing ring with
        dev := ((s.rawPlayed t v n w comparing ring).dev.modSeq t (Seq.rawStarted rest
          ((s.dev.seq t).startOf v + (n + 1) * finePerTick) comparing (s.dev.rawCmp t v n))).issueOver t } := by
  simp only [State.vectorStart, hfifo, heff, htail, hraw, ite_self, Bool.false_eq_true, if_false]
  simp only [State.rawPlayed, Dev.rawCmp, Dev.startCmp, hraw]
  rfl

end Cases

/-! ### What a start leaves -/

/-- Apart from its lanes and its Gallery, the start of an entry changes a tenant's sequencer by `f` and nothing else. -/
structure State.StartsBy (t : Tenant) (f : Seq → Seq) (s u : State) : Prop where
  dev : ∃ g, u.dev.butLanes t = ((s.dev.butLanes t).modSeq t f).modGal t g
  mem : u.mem = s.mem

section Reading
variable {s u : State} {t : Tenant} {f : Seq → Seq}

theorem State.StartsBy.seq (h : State.StartsBy t f s u) : (u.dev.seq t).butLanes = f (s.dev.seq t).butLanes := by
  obtain ⟨g, hdev⟩ := h.dev
  simpa using congrArg (Dev.seq · t) hdev

theorem State.StartsBy.fifo (h : State.StartsBy t f s u) : (u.dev.seq t).fifo = (f (s.dev.seq t).butLanes).fifo :=
  (congrArg Seq.fifo h.seq :)

theorem State.StartsBy.pos (h : State.StartsBy t f s u) : (u.dev.seq t).pos = (f (s.dev.seq t).butLanes).pos :=
  (congrArg Seq.pos h.seq :)

theorem State.StartsBy.vectors (h : State.StartsBy t f s u) : (u.dev.seq t).vectors = (f (s.dev.seq t).butLanes).vectors :=
  (congrArg Seq.vectors h.seq :)

theorem State.StartsBy.compares (h : State.StartsBy t f s u) : (u.dev.seq t).compares = (f (s.dev.seq t).butLanes).compares :=
  (congrArg Seq.compares h.seq :)

theorem State.StartsBy.seq_ne (h : State.StartsBy t f s u) {w : Tenant} (hw : w ≠ t) : u.dev.seq w = s.dev.seq w := by
  obtain ⟨g, hdev⟩ := h.dev
  simpa [Dev.butLanes_seq_ne _ _ hw, Dev.modSeq_seq_ne _ _ _ _ hw] using congrArg (Dev.seq · w) hdev

theorem State.StartsBy.gf (h : State.StartsBy t f s u) : u.dev.gf = s.dev.gf := by
  obtain ⟨g, hdev⟩ := h.dev
  simpa [Dev.butLanes_gf] using congrArg Dev.gf hdev

/-- Where the lanes alone have played and `f` then changes the sequencer, issue perhaps ending with it. -/
theorem State.startsBy_of_played {s2 : State} (hlanes : s2.dev.butLanes t = s.dev.butLanes t) (hmem : s2.mem = s.mem)
    (hf : ∀ q, (f q).butLanes = f q.butLanes) :
    State.StartsBy t f s { s2 with dev := (s2.dev.modSeq t f).issueOver t } := by
  obtain ⟨g, hg⟩ := (s2.dev.modSeq t f).issueOver_butLanes t
  exact ⟨⟨g, by rw [hg, Dev.modSeq_butLanes_of_comm _ t hf, hlanes]⟩, hmem⟩

theorem Dev.gallery_of_played {d d2 : Dev} (hlanes : d2.butLanes t = d.butLanes t) (hf : ∀ q, (f q).state = q.state)
    (hb : (d.seq t).state.busy = true) : ((d2.modSeq t f).issueOver t).gallery = d.gallery := by
  have hstate : (d2.seq t).state = (d.seq t).state := by
    simpa [Seq.butLanes] using congrArg (fun d => (Dev.seq d t).state) hlanes
  rw [Dev.issueOver_of_busy (by rw [Dev.modSeq_seq, hf, hstate, hb])]
  simpa [Dev.butLanes_gallery] using congrArg Dev.gallery hlanes

end Reading

section Starts
variable {s : State} {t : Tenant} {v : Vec} {rest : List Vec}

theorem State.vectorStart_startsBy_tail (hfifo : (s.dev.seq t).fifo = v :: rest) (heff : v.effects = [])
    (htail : v.tail = true) : State.StartsBy t (Seq.tailTaken rest) s (s.vectorStart t) := by
  rw [State.vectorStart_of_tail hfifo heff htail]
  refine ⟨?_, rfl⟩
  obtain ⟨g, hg⟩ := (((s.dev.modSeq t (Seq.tailTaken rest)).lanesOff t).galleryIssueEnd t).issueOver_butLanes t
  have hlanes : ((s.dev.modSeq t (Seq.tailTaken rest)).lanesOff t).butLanes t =
      (s.dev.butLanes t).modSeq t (Seq.tailTaken rest) :=
    (Dev.lanesOff_butLanes _ t).trans (Dev.modSeq_butLanes_of_comm _ t fun _ => rfl)
  exact ⟨_, by rw [hg, Dev.galleryIssueEnd, Dev.modGal_butLanes, hlanes, Dev.modGal_modGal]⟩


theorem State.vectorStart_startsBy_vector (hfifo : (s.dev.seq t).fifo = v :: rest) (heff : v.effects = [])
    (htail : v.tail = false) (hraw : v.raw = none) :
    State.StartsBy t (Seq.vectorStarted v rest ((s.dev.seq t).startOf v + s.dev.dict.cfg.period t v.tset)
      (s.dev.vectorCmp t v)) s (s.vectorStart t) := by
  rw [State.vectorStart_of_vector hfifo heff htail hraw]
  exact State.startsBy_of_played (s2 := { s with dev := s.dev.vectorPlayed t v }) (s.dev.vectorPlayed_butLanes t v) rfl
    fun _ => rfl

theorem State.vectorStart_startsBy_raw {n w : Nat} {comparing ring : Bool} (hfifo : (s.dev.seq t).fifo = v :: rest)
    (heff : v.effects = []) (htail : v.tail = false) (hraw : v.raw = some (n, w, comparing, ring)) :
    State.StartsBy t (Seq.rawStarted rest ((s.dev.seq t).startOf v + (n + 1) * finePerTick) comparing (s.dev.rawCmp t v n)) s
      (s.vectorStart t) := by
  rw [State.vectorStart_of_raw hfifo heff htail hraw]
  exact State.startsBy_of_played (s.rawPlayed_butLanes t v ..) (s.rawPlayed_mem t v ..) fun q => by
    cases comparing <;> rfl

/-- The start of an entry of any kind leaves the sequencer's counters, program counter and state. -/
theorem State.vectorStart_startsBy (hfifo : (s.dev.seq t).fifo = v :: rest) (heff : v.effects = []) :
    ∃ f : Seq → Seq, State.StartsBy t f s (s.vectorStart t) ∧
      ∀ q, (f q).counters = q.counters ∧ (f q).pc = q.pc ∧ (f q).state = q.state := by
  cases htail : v.tail with
  | true => exact ⟨_, State.vectorStart_startsBy_tail hfifo heff htail, fun _ => ⟨rfl, rfl, rfl⟩⟩
  | false =>
    cases hraw : v.raw with
    | none => exact ⟨_, State.vectorStart_startsBy_vector hfifo heff htail hraw, fun _ => ⟨rfl, rfl, rfl⟩⟩
    | some r => exact ⟨_, State.vectorStart_startsBy_raw hfifo heff htail hraw, fun _ => ⟨rfl, rfl, rfl⟩⟩

theorem State.vectorStart_gallery (hfifo : (s.dev.seq t).fifo = v :: rest) (heff : v.effects = []) (htail : v.tail = false)
    (hb : (s.dev.seq t).state.busy = true) : (s.vectorStart t).dev.gallery = s.dev.gallery := by
  cases hraw : v.raw with
  | none =>
    rw [State.vectorStart_of_vector hfifo heff htail hraw]
    exact Dev.gallery_of_played (s.dev.vectorPlayed_butLanes t v) (fun _ => rfl) hb
  | some r =>
    rw [State.vectorStart_of_raw hfifo heff htail hraw]
    exact Dev.gallery_of_played (s.rawPlayed_butLanes t v ..) (fun _ => rfl) hb

end Starts

/-! ### The instant of the start and the windows -/

theorem State.atTick_of_reach {s s1 : State} {k : Nat} {tick : Option Nat} (f : State → State) (ht : tick = some k)
    (hr : s.reach k = some s1) : s.atTick tick f = f s1 := by
  simp [State.atTick, ht, hr]

theorem ceilTick_eq (p : Nat) : ceilTick p = (p + 8191) / 8192 * 8192 := by
  simp [ceilTick, ceilDiv]

theorem Cfg.mem_compareWins {c : Cfg} {t : Tenant} {tset start : Nat} {codes : List (Pin × Nat)} {p : Pin} {code a b : Nat} :
    (p, code, a, b) ∈ c.compareWins t tset start codes ↔ (p, code) ∈ codes ∧ codeExpect code ≠ .none ∧
      a = start + (c.tsPin t tset p).cmpOpen ∧ b = start + (c.tsPin t tset p).cmpClose := by
  simp only [Cfg.compareWins, List.mem_map, List.mem_filter, Prod.mk.injEq]
  constructor
  · rintro ⟨⟨p', code'⟩, ⟨hmem, hexp⟩, rfl, rfl, rfl, rfl⟩
    exact ⟨hmem, by simpa using hexp, rfl, rfl⟩
  · rintro ⟨hmem, hexp, rfl, rfl⟩
    exact ⟨(p, code), ⟨hmem, by simpa using hexp⟩, rfl, rfl, rfl, rfl⟩

/-- Settles O32: the start of each kind of entry is `State.StartsBy` of its own change of the sequencer. -/
theorem vectorStarts : Obligations.VectorStarts := by
  intro s s1 t k v rest hk hr hfifo heff q edge start set
  have hstart : start = q.startOf v := by
    simp only [Seq.startOf, ceilTick_eq]
    rfl
  clear_value start
  subst hstart
  refine ⟨s1.vectorStart t, congrArg _ (State.atTick_of_reach _ hk hr), ?_, ?_, ?_, ?_⟩
  · intro htail hraw
    have hu := State.vectorStart_startsBy_vector hfifo heff htail hraw
    refine ⟨hu.pos, hu.vectors, fun hreps => ?_, fun hreps => ?_, s1.dev.vectorCmp t v, hu.compares, rfl, rfl, rfl,
      fun _ _ _ _ => Cfg.mem_compareWins⟩
    · exact hu.fifo.trans (if_neg (by omega))
    · exact ⟨_, hu.fifo.trans (if_pos hreps), rfl, rfl, rfl⟩
  · intro n w comparing ring htail hraw
    have hu := State.vectorStart_startsBy_raw hfifo heff htail hraw
    refine ⟨hu.pos, hu.vectors, hu.fifo, ?_, ?_⟩
    · rintro rfl
      exact hu.compares
    · rintro rfl
      exact ⟨s1.dev.rawCmp t v n, hu.compares, rfl, rfl, rfl⟩
  · intro htail
    have hu := State.vectorStart_startsBy_tail hfifo heff htail
    exact ⟨hu.fifo, hu.pos, hu.compares⟩
  · obtain ⟨f, hu, hf⟩ := State.vectorStart_startsBy hfifo heff
    obtain ⟨hcounters, hpc, hstate⟩ := hf (s1.dev.seq t).butLanes
    exact ⟨(congrArg Seq.counters hu.seq).trans hcounters, (congrArg Seq.pc hu.seq).trans hpc,
      (congrArg Seq.state hu.seq).trans hstate, fun w hw => hu.seq_ne hw, hu.gf, hu.mem,
      fun hb htail => State.vectorStart_gallery hfifo heff htail hb⟩

end Sys2Proof.Machine
end

section
/-! SYNC and HALT: what suspends issue, and what follows when everything issued is complete (R151, R152). -/
namespace Sys2Proof.Machine

/-! ### The end of issue -/

section EndIssue
variable (d : Dev) (t : Tenant)

/-- Apart from its lanes the end of issue leaves the tenant's sequencer as it is. -/
theorem Dev.endIssue_seq_butLanes : ((d.endIssue t).seq t).butLanes = (d.seq t).butLanes := by
  obtain ⟨g, hg⟩ := d.endIssue_butLanes t
  simpa using congrArg (Dev.seq · t) hg

theorem Dev.endIssue_seq_ne {w : Tenant} (hw : w ≠ t) : (d.endIssue t).seq w = d.seq w := by
  obtain ⟨g, hg⟩ := d.endIssue_butLanes t
  simpa [Dev.butLanes_seq_ne _ _ hw] using congrArg (Dev.seq · w) hg

theorem Dev.endIssue_quietOn : ((d.endIssue t).seq t).quietOn = false := by
  simp [Dev.endIssue, Dev.galleryIssueEnd]

theorem Dev.endIssue_lastPc : ((d.endIssue t).seq t).lastPc = (d.seq t).lastPc :=
  (congrArg Seq.lastPc (d.endIssue_seq_butLanes t) :)

theorem Dev.endIssue_atEdge : (d.endIssue t).atEdge = d.atEdge := by
  obtain ⟨g, hg⟩ := d.endIssue_butLanes t
  exact (congrArg Dev.atEdge hg :)

theorem Dev.endIssue_tickRecs : (d.endIssue t).tickRecs = d.tickRecs := by
  obtain ⟨g, hg⟩ := d.endIssue_butLanes t
  exact (congrArg Dev.tickRecs hg :)

theorem Dev.endIssue_now : (d.endIssue t).now = d.now := by
  obtain ⟨g, hg⟩ := d.endIssue_butLanes t
  exact (congrArg Dev.now hg :)

/-- A record made after the end of issue carries the epoch and traceability of before. -/
theorem Dev.endIssue_mkRec : (d.endIssue t).mkRec = d.mkRec := by
  obtain ⟨g, hg⟩ := d.endIssue_butLanes t
  exact (congrArg Dev.mkRec hg :)

end EndIssue

/-! ### SEQ_HALT -/

theorem Dev.emit_tickRecs {d : Dev} (e : EdgeRec) (h : d.atEdge = false) : (d.emit e).tickRecs = d.tickRecs ++ [e] := by
  simp [Dev.emit, h]

/-- Away from a frame edge SEQ_HALT joins the records of the tick, with the layout of R153. -/
theorem Dev.seqHalt_tickRecs {d : Dev} (t : Tenant) (cause err value : Nat) (h : d.atEdge = false) :
    (d.seqHalt t cause err value).tickRecs = d.tickRecs ++ [d.mkRec (.tenant t) t.val 0x01 t.val d.now
      (natLE 1 cause ++ natLE 1 err ++ [0, 0] ++ natLE 4 (d.seq t).lastPc ++ natLE 4 value)] :=
  Dev.emit_tickRecs _ h

theorem Dev.seqHalt_seq (d : Dev) (t w : Tenant) (cause err value : Nat) :
    (d.seqHalt t cause err value).seq w = d.seq w := by
  rw [Dev.seq, (d.seqHalt_rec t cause err value).seqs, ← Dev.seq]

/-! ### Decoding -/

section Decoding
variable {s : State} {t : Tenant}

theorem bit_ofBool_zero (b : Bool) : bit (ofBool b) 0 = b := by
  cases b <;> rfl

/-- SYNC charges one tick and suspends issue (R151). -/
theorem exec_sync_of_fetches (hf : s.dev.fetches t) (hs : s.dev.slackFor t 1) (frame : Bool) :
    exec (.sync t (ofBool frame) 0 0) s = .next (s.withDev fun d =>
      (d.modSeq t fun q => { q.charge 1 with state := .syncing, sync := some frame }).suspendEffects t) := by
  have hfields : (only (ofBool frame) 1 && decide (0 = 0) && decide (0 = 0)) = true := by cases frame <;> rfl
  have hsync : s.dev.seqSync t (ofBool frame) 0 0 =
      (s.dev.modSeq t fun q => { q.charge 1 with state := .syncing, sync := some frame }).suspendEffects t := by
    rw [Dev.seqSync, Dev.plain, hfields, Dev.decode_ok _ _ _ _ _ hf hs, Dev.modSeq_modSeq, bit_ofBool_zero]
  exact congrArg (fun d => Host.Outcome.next { s with dev := d }) hsync

/-- HALT charges one tick, keeps its value and suspends issue (R152). -/
theorem exec_halt_of_fetches (hf : s.dev.fetches t) (hs : s.dev.slackFor t 1) (b : Nat) :
    exec (.halt t 0 0 b) s = .next (s.withDev fun d =>
      (d.modSeq t fun q => { q.charge 1 with halt := some b }).suspendEffects t) := by
  have hhalt : s.dev.seqHaltI t 0 0 b =
      (s.dev.modSeq t fun q => { q.charge 1 with halt := some b }).suspendEffects t := by
    rw [Dev.seqHaltI, Dev.plain]
    exact (Dev.decode_ok _ _ _ _ _ hf hs).trans (by rw [Dev.modSeq_modSeq])
  exact congrArg (fun d => Host.Outcome.next { s with dev := d }) hhalt

end Decoding

/-! ### Completion -/

section Completion
variable {d : Dev} {t : Tenant} {v : Nat}

theorem Dev.syncComplete_of_drained {frame : Bool} (hsync : (d.seq t).sync = some frame) (hd : (d.seq t).drained = true)
    (hk : (d.seq t).drainTick ≤ d.tb.tick) :
    d.syncComplete t = d.modSeq t fun q =>
      { q with state := .running, sync := none, synced := true
               release := some (if frame then ceilDiv d.tb.tick ticksPerFrame * ticksPerFrame else d.tb.tick)
               slack := 64 * finePerTick, inRun := false } := by
  simp [Dev.syncComplete, hsync, hd, hk, Dev.releaseRun]

/-- A sequencer that a HALT has brought to HALTED. -/
def Seq.haltedWith (v : Nat) (q : Seq) : Seq := { q with state := .halted, halt := none, haltValue := v, synced := true }

/-- The device once a HALT's issue has ended, before its record. -/
def Dev.haltEnded (d : Dev) (t : Tenant) (v : Nat) : Dev := (d.modSeq t (Seq.haltedWith v)).endIssue t

theorem Dev.haltComplete_of_drained (hhalt : (d.seq t).halt = some v) (hd : (d.seq t).drained = true)
    (hk : (d.seq t).drainTick ≤ d.tb.tick) : d.haltComplete t = (d.haltEnded t v).seqHalt t 0x01 0 v := by
  simp only [Dev.haltComplete, hhalt, hd, hk, decide_true, Bool.and_self, if_true]
  rfl

theorem Dev.haltEnded_seq_butLanes (d : Dev) (t : Tenant) (v : Nat) :
    ((d.haltEnded t v).seq t).butLanes = (Seq.haltedWith v (d.seq t)).butLanes := by
  rw [Dev.haltEnded, Dev.endIssue_seq_butLanes, Dev.modSeq_seq]

theorem Dev.haltEnded_seq_ne (d : Dev) (t : Tenant) (v : Nat) {w : Tenant} (hw : w ≠ t) :
    (d.haltEnded t v).seq w = d.seq w := by
  rw [Dev.haltEnded, Dev.endIssue_seq_ne _ _ hw, Dev.modSeq_seq_ne _ _ _ _ hw]

/-- The record of a completed HALT is made of the device as it was before its completion. -/
theorem Dev.haltEnded_seqHalt_tickRecs (d : Dev) (t : Tenant) (v : Nat) (h : d.atEdge = false) :
    ((d.haltEnded t v).seqHalt t 0x01 0 v).tickRecs = d.tickRecs ++ [d.mkRec (.tenant t) t.val 0x01 t.val d.now
      (natLE 1 1 ++ natLE 1 0 ++ [0, 0] ++ natLE 4 (d.seq t).lastPc ++ natLE 4 v)] := by
  have hedge : (d.haltEnded t v).atEdge = false := ((d.modSeq t (Seq.haltedWith v)).endIssue_atEdge t).trans h
  rw [Dev.seqHalt_tickRecs _ _ _ _ hedge]
  simp only [Dev.haltEnded, Dev.endIssue_tickRecs, Dev.endIssue_mkRec, Dev.endIssue_now, Dev.endIssue_lastPc,
    Dev.modSeq_seq]
  rfl

end Completion

/-- Settles O20: SYNC and HALT by their decoding and by the completion of what is drained; what HALT's completion leaves is
what the end of issue leaves. -/
theorem syncAndHalt : Obligations.SyncAndHalt := by
  intro s t
  refine ⟨fun hf hs => ⟨exec_sync_of_fetches hf hs, exec_halt_of_fetches hf hs⟩, fun k s1 hk hr hd htick => ⟨?_, ?_⟩⟩
  · intro frame hsync
    refine congrArg Host.Outcome.next ((State.atTick_of_reach _ hk hr).trans ?_)
    rw [Dev.syncComplete_of_drained hsync hd htick]
    rfl
  · intro v hhalt
    refine ⟨_, congrArg Host.Outcome.next (State.atTick_of_reach _ hk hr), ?_⟩
    rw [Dev.haltComplete_of_drained hhalt hd htick]
    have hseq := s1.dev.haltEnded_seq_butLanes t v
    simp only [Dev.seqHalt_seq]
    exact ⟨(congrArg Seq.state hseq :), (congrArg Seq.haltValue hseq :), (congrArg Seq.halt hseq :),
      Dev.endIssue_quietOn _ t, (congrArg Seq.counters hseq :), fun w hw => s1.dev.haltEnded_seq_ne t v hw, trivial,
      s1.dev.haltEnded_seqHalt_tickRecs t v⟩

end Sys2Proof.Machine
end
